-- ==== Sys2Proof/Word.lean ====
section
/-! DEFINITION. The word types of the NG816 and the index types of its numbered objects.
Bit vectors stand for what the manual treats as bits; objects of a fixed number are `Fin`. -/

namespace Sys2Proof

/-- One byte of a record or of a segment line. -/
abbrev Byte := BitVec 8

/-- A 16-bit field: a tag, a node address, a size, a lifetime. -/
abbrev Half := BitVec 16

/-- A 32-bit word of the register window, or a 32-bit counter. -/
abbrev Word := BitVec 32

/-- A 64-bit host memory address. -/
abbrev Addr := BitVec 64

/-- A segment, SEG0 to SEG7. -/
abbrev Seg := Fin 8

/-- A request ring, 0 to 7. -/
abbrev Ring := Fin 8

/-- A completion ring, 0 to 3. -/
abbrev Cq := Fin 4

/-- An exchange slot, 0 to 63. -/
abbrev SlotId := Fin 64

/-- A node map entry, 0 to 31. -/
abbrev EntryId := Fin 32

/-- A set of segments: bit s stands for SEGs (R170). -/
abbrev SegSet := BitVec 8

/-- A 32-byte request record as it lies in host memory (R169). -/
abbrev Record := Vector Byte 32

/-- The two levels of a segment line (R60). -/
inductive Level where
  | dominant
  | recessive
  deriving DecidableEq, Repr

end Sys2Proof
end

