-- ==== Sys2Proof/Syntax.lean ====
section
/-! DEFINITION. The commands of the NG816: one constructor for each row of spec/opcode_table.json.
A command is a host register write, an event on the PCIe link or on a segment line, the expiry of a timer, or a step the
part takes on its own account; its operands are what comes from outside with it. -/

namespace Sys2Proof

/-- Width of a host write to the register window (R159). -/
inductive AccessWidth where
  | bits8
  | bits16
  | bits32
  | bits64
  deriving DecidableEq, Repr

/-- The function's PCIe configuration as it stands when the part uses it (R166, R167, R168). -/
structure PcieConfig where
  /-- Bus mastering is enabled. -/
  busMaster : Bool
  /-- Interrupt messages are enabled. -/
  messages : Bool
  /-- How many message numbers the host enables: 1, 2 or 4. -/
  enabled : Nat
  /-- Mask of the message numbers: bit n set masks number n. -/
  mask : BitVec 4
  deriving DecidableEq, Repr

/-- What arrives with FETCH_COMPLETE: the read data, and whether the ring unit makes its next grant in this step, between the
end of the fetch and the acceptance of the record (R127, R130; log entry 40). -/
structure ReadData where
  record : Record
  granted : Bool
  deriving DecidableEq, Repr

/-- A segment, and how many of its last bit times its line has read dominant: 0 for a recessive line (R82; log entry 4). -/
structure CarriedLevel where
  seg : Seg
  dominant : Nat
  deriving DecidableEq, Repr

/-- A sample of a segment's line while the part sends: the bit time of the present phase it is taken in, counted from 0, and the
level read (R61). -/
structure LineSample where
  seg : Seg
  bit : Nat
  level : Level
  deriving DecidableEq, Repr

/-- The levels read at the sample points of a byte's eight data bits, in the order they are read (R63). -/
abbrev DataLevels := Vector Level 8

/-- The commands, in the table's order. -/
inductive Instr where
  /-- COLD_RESET (R7): power-on or PCIe fundamental reset. -/
  | coldReset
  /-- CONTROL_RESET (R164): a CONTROL write with RESET = 1. -/
  | controlReset
  /-- FUNCTION_LEVEL_RESET (R164): a PCIe function-level reset. -/
  | functionLevelReset
  /-- FUNCTION_RESET_END (R164): the function reset ends. -/
  | functionResetEnd
  /-- ADMIN_BRING_UP (R162): CONTROL.ENABLE = 1 while ENABLE is 0 and ring 0 is UNCONFIGURED. -/
  | adminBringUp
  /-- ENABLE_SET (R163): CONTROL.ENABLE = 1 after bring-up. -/
  | enableSet
  /-- ENABLE_CLEAR (R163): CONTROL.ENABLE = 0. -/
  | enableClear
  /-- RQ_POST (R123): the host writes `value` to RQ_POST[r]. -/
  | rqPost (r : Ring) (value : Word)
  /-- CQ_RELEASE (R134): the host writes `value` to CQ_RELEASE[c]. -/
  | cqRelease (c : Cq) (value : Word)
  /-- REGISTER_WRITE (R160): the host writes `value` at `offset` of the window with the given width. -/
  | registerWrite (offset : Nat) (width : AccessWidth) (value : BitVec 64)
  /-- FETCH_GRANT (R125): the ring unit grants the next fetch. -/
  | fetchGrant
  /-- READ_ISSUE (R166): the fetch read has its turn; the PCIe configuration as it stands. -/
  | readIssue (config : PcieConfig)
  /-- FETCH_COMPLETE (R127): the read data of the fetch arrives. -/
  | fetchComplete (data : ReadData)
  /-- RING_DELETE_COMPLETE (R119): the DELETING ring r holds no slots. -/
  | ringDeleteComplete (r : Ring)
  /-- FETCH_ERROR (R128): the fetch read ends with an error completion. -/
  | fetchError
  /-- FETCH_TIMEOUT (R166): the 50 ms read timer expires. -/
  | fetchTimeout
  /-- LATE_READ_COMPLETION (R166): a completion for a read already ended arrives. -/
  | lateReadCompletion
  /-- RECORD_WRITE_REQUEST (R133): the completion writer asks for its next record write. -/
  | recordWriteRequest
  /-- RECORD_WRITE_ISSUE (R167): the record write has its turn; the PCIe configuration as it stands. -/
  | recordWriteIssue (config : PcieConfig)
  /-- INTERRUPT_MESSAGE_ISSUE (R168): an interrupt message has its turn; the PCIe configuration as it stands. -/
  | interruptMessageIssue (config : PcieConfig)
  /-- COALESCING_DELAY_EXPIRY (R140): completion ring c's delay timer runs out. -/
  | coalescingDelayExpiry (c : Cq)
  /-- DEADLINE_EXPIRY (R16): the deadline timer of a slot expires. -/
  | deadlineExpiry (slot : SlotId)
  /-- HOLD_TIMER_EXPIRY (R111): the hold timer of a HELD segment expires. -/
  | holdTimerExpiry (seg : Seg)
  /-- HOLD_GRANT (R109): the frame a DRAINING segment waited for has ended. -/
  | holdGrant (seg : Seg)
  /-- IDLE_TIMER_EXPIRY (R89): the idle-to-dormant timer expires. -/
  | idleTimerExpiry (seg : Seg)
  /-- SLEEP_COMMAND_START (R99): the engine starts the dormancy command of a pending SLEEP. -/
  | sleepCommandStart (seg : Seg)
  /-- WAKE_PULSE_END (R91): the 1000 us wake pulse ends. -/
  | wakePulseEnd (seg : Seg)
  /-- SETTLE_TIMER_EXPIRY (R92): the settle timer expires, the line at the level carried with it (R82). -/
  | settleTimerExpiry (carried : CarriedLevel)
  /-- PICK (R44): the dispatcher picks the first eligible leg. -/
  | pick (seg : Seg)
  /-- LEAD_IN_END (R65): 16 bit times of lead-in have passed. -/
  | leadInEnd (seg : Seg)
  /-- HEADER_SENT (R66): both header bytes have been sent. -/
  | headerSent (seg : Seg)
  /-- GAP_END (R68): the 2-bit gap of an OUT frame has passed. -/
  | gapEnd (seg : Seg)
  /-- RESPONSE_OUT_END (R68): the check byte has been sent. -/
  | responseOutEnd (seg : Seg)
  /-- BYTE_RECEIVED (R63): the byte in reception is received in RESPONSE_IN. -/
  | byteReceived (seg : Seg) (levels : DataLevels)
  /-- ACK_RECEIVED (R71): the byte in reception is received in ACK_WAIT. -/
  | ackReceived (seg : Seg) (levels : DataLevels)
  /-- WINDOW_END (R69): the response window ends, the line at the level carried with it (R82). -/
  | windowEnd (carried : CarriedLevel)
  /-- STOP_ACT (R96): a STOP that waited for its frame acts. -/
  | stopAct (seg : Seg)
  /-- GUARD_END (R75): the guard time has passed. -/
  | guardEnd (seg : Seg)
  /-- READBACK_DIFFERENCE (R61): a sample while sending reads other than expected. -/
  | readbackDifference (sample : LineSample)
  /-- FRAMING_DETECTED (R63): the stop bit of the byte in reception reads dominant. -/
  | framingDetected (seg : Seg)
  /-- RECOVER_END (R73): 24 recessive bit times have passed in RECOVER. -/
  | recoverEnd (seg : Seg)
  /-- RECOVER_NO_IDLE (R73): 1000 bit times have passed in RECOVER. -/
  | recoverNoIdle (seg : Seg)
  /-- NOISE (R83): a dominant level shorter than 10 bit times ends in IDLE or GUARD. -/
  | noise (seg : Seg)
  /-- FOREIGN_MASTER (R83): a dominant level reaches 10 bit times in IDLE or GUARD. -/
  | foreignMaster (seg : Seg)
  /-- STUCK_LINE (R84): a dominant level reaches 64 bit times. -/
  | stuckLine (seg : Seg)
  /-- SYNC_COMPLETE (R88): 24 recessive bit times have passed in SYNCING. -/
  | syncComplete (seg : Seg)
  /-- SYNC_NO_IDLE (R88): 1000 bit times have passed in SYNCING. -/
  | syncNoIdle (seg : Seg)
  /-- REMOTE_WAKE (R85): a dominant pulse of `us` microseconds on a DORMANT line is released. -/
  | remoteWake (seg : Seg) (us : Nat)
  /-- DORMANT_STUCK (R85): a dominant pulse on a DORMANT line reaches 5000 us. -/
  | dormantStuck (seg : Seg)
  /-- START_CHECK (R63): half a bit time after a start edge the line reads `level`. -/
  | startCheck (seg : Seg) (level : Level)
  /-- RECESSIVE_RUN_RESTART (R88): the released line goes to `level` in SYNCING or RECOVER. -/
  | recessiveRunRestart (seg : Seg) (level : Level)
  /-- COLD_RESET_END (R161): the cold reset ends. -/
  | coldResetEnd
  deriving DecidableEq, Repr

end Sys2Proof
end

