-- ==== Sys2Proof/Config.lean ====
section
/-! DEFINITION. The numbers the manual fixes for every NG816.
The manual leaves no value of this part open, so this file holds no free value. -/

namespace Sys2Proof.Config

/-- Number of exchange slots (chapter Exchange Table). -/
def slotCount : Nat := 64

/-- Fixed reserve of request ring 0 (section 1.3, R162). -/
def adminReserve : Nat := 4

/-- Fixed cap of request ring 0 (section 1.3, R162). -/
def adminCap : Nat := 8

/-- Coalescing count of completion ring 0 (R131). -/
def adminCoalescingCount : Nat := 1

/-- Coalescing delay of completion ring 0, in us (R131). -/
def adminCoalescingDelay : Nat := 0

/-- Notices that may wait in one backlog (R135). -/
def noticeAllowance : Nat := 8

/-- Bytes of a request record (R121). -/
def requestBytes : Nat := 32

/-- Bytes of a completion or notice record (R131). -/
def completionBytes : Nat := 16

/-- Bit times of the dominant part of a lead-in (R65). -/
def leadInDominant : Nat := 14

/-- Bit times of the released part of a lead-in (R65). -/
def leadInReleased : Nat := 2

/-- Bit times of a whole lead-in (R64). -/
def leadInBits : Nat := 16

/-- Bit times of the two header bytes (R64). -/
def headerBits : Nat := 20

/-- Bit times of the gap of an OUT frame (R64). -/
def gapBits : Nat := 2

/-- Bit times of one byte on a line (R62). -/
def byteBits : Nat := 10

/-- Bit times of the longest phase the part sends in: eight payload bytes and a check byte (R64). -/
def longestSentBits : Nat := 90

/-- Highest frame identifier the map can reach (R25). -/
def lastFrameId : Nat := 119

/-- Highest frame identifier of a confirmed WRITE (R32). -/
def lastConfirmedId : Nat := 63

/-- Bit times at which a dominant level in IDLE or GUARD is a foreign master (R83). -/
def foreignBits : Nat := 10

/-- Bit times at which a dominant level is a stuck line (R84). -/
def stuckBits : Nat := 64

/-- Frame identifier of the dormancy command (R76). -/
def dormancyId : Nat := 126

/-- Acknowledgment byte ACCEPT (R71). -/
def ackAccept : Byte := 0x96

/-- Acknowledgment byte REFUSE (R71). -/
def ackRefuse : Byte := 0x69

/-- CRC-8 polynomial (R67). -/
def crcPolynomial : Byte := 0x2F

/-- CRC-8 initial value and final exclusive-or (R67). -/
def crcInitial : Byte := 0xFF

/-- Shortest dominant pulse taken as a remote wake, in us (R85). -/
def remoteWakeMin : Nat := 250

/-- Dominant pulse on a DORMANT line that is stuck, in us (R85). -/
def dormantStuckAt : Nat := 5000

/-- Length of a fetch read's timer, in us (R166). -/
def readTimeoutUs : Nat := 50000

/-- Microseconds in a millisecond: the engine's timers count in us (R78). -/
def usPerMs : Nat := 1000

/-- Bytes of the register window (R159). -/
def windowBytes : Nat := 4096

end Sys2Proof.Config
end

