-- ==== Sys2Proof/Machine/State.lean ====
section
/-! DEFINITION. The state of the NG816 as plain data, block by block, and its value after cold reset. -/

namespace Sys2Proof.Machine

/-- A timer: stopped, or running with the microseconds it was started for (R78, R131; log entry 3). -/
inductive Timer where
  | stopped
  | running (us : Nat)
  deriving DecidableEq, Repr

/-! ### Exchange table -/

/-- The kinds of a request record (R169). -/
inductive Kind where
  | read | write
  | abort | hold | release
  | ringCreate | ringDelete | cqCreate | cqDelete
  | segConfig | segStart | segStop | segReset | segSleep | segWake | segQuery
  | mapWrite | mapRead | setLimits
  deriving DecidableEq, Repr

/-- Slot states (R1). -/
inductive SlotState where
  | free | fetching | live | done
  deriving DecidableEq, Repr

/-- Outcomes of a leg, in the order of their status codes 00h to 0Eh (R21, section 10.5). -/
inductive LegOutcome where
  | ok | noResponse | partialResponse | checkError | framing | readback | refused | badAck | expired | aborted | flushed
  | segmentFault | segmentStopped | segmentReset | segmentOff
  deriving DecidableEq, Repr

/-- Status of a completion: the outcome of a leg or operation, a FAN status, or an answer to the request (section 10.5). -/
inductive Status where
  | outcome (o : LegOutcome)
  | someFailed | allFailed
  | badRequest | badTarget | noPath | conflict | notFound | tooLate | notHeld | inUse | busy | noSpace
  deriving DecidableEq, Repr

/-- Leg states (R3). -/
inductive LegState where
  | waiting | onWire | finished
  deriving DecidableEq, Repr

/-- The path of a PAIR leg (R3). -/
inductive Path where
  | primary | secondary
  deriving DecidableEq, Repr

/-- A leg record (R3). -/
structure Leg where
  segment : Seg
  state : LegState
  path : Option Path
  retriesLeft : Nat
  attempts : Nat
  lastFrameSeg : Option Seg
  outcome : Option LegOutcome
  deriving DecidableEq, Repr

/-- Map kind together with the resolved segments a slot keeps (R2, R37). -/
inductive Target where
  | single (a : Seg)
  | pair (a b : Seg)
  | fan (mask : SegSet)
  deriving DecidableEq, Repr

/-- Frame direction: IN for a READ, OUT for a WRITE (R11). -/
inductive Direction where
  | dirIn | dirOut
  deriving DecidableEq, Repr

/-- The fields of a slot written at acceptance of an exchange and not changed afterwards (R2, R11). -/
structure Exchange where
  target : Target
  frameId : Nat
  direction : Direction
  confirmed : Bool
  length : Nat
  priority : Nat
  timeoutClass : Fin 4
  retryBudget : Nat
  deriving DecidableEq, Repr

/-- A slot's deadline: ABSENT, RUNNING with its lifetime in ms, or PASSED (R15). -/
inductive Deadline where
  | absent
  | running (ms : Nat)
  | passed
  deriving DecidableEq, Repr

/-- Arguments of RING_CREATE as stored in the record (R170). -/
structure RingCreateArgs where
  ring : Byte
  cq : Byte
  weight : Byte
  reserve : Byte
  cap : Byte
  size : Half
  base : Addr
  deriving DecidableEq, Repr

/-- Arguments of CQ_CREATE as stored in the record (R170). -/
structure CqCreateArgs where
  cq : Byte
  count : Byte
  delay : Half
  size : Half
  base : Addr
  deriving DecidableEq, Repr

/-- Arguments of SEGMENT_CONFIG as stored in the record (R170). -/
structure SegConfigArgs where
  seg : Byte
  wbase : Byte
  wbyte : Byte
  guard : Byte
  bitTicks : Half
  idleToDormant : Half
  wakeSettle : Byte
  wakeOnDemand : Byte
  noticeCq : Byte
  deriving DecidableEq, Repr

/-- Arguments of SEGMENT_QUERY as stored in the record (R170). -/
structure SegQueryArgs where
  seg : Byte
  first : Byte
  second : Byte
  clear : Byte
  deriving DecidableEq, Repr

/-- Arguments of MAP_WRITE as stored in the record (R170). -/
structure MapWriteArgs where
  entry : Byte
  flags : Byte
  kind : Byte
  segA : Byte
  segB : Byte
  fanMask : Byte
  idBase : Byte
  first : Half
  last : Half
  deriving DecidableEq, Repr

/-- Arguments of SET_LIMITS as stored in the record (R170). -/
structure SetLimitsArgs where
  class0 : Half
  class1 : Half
  class2 : Half
  class3 : Half
  holdLimit : Half
  deriving DecidableEq, Repr

/-- Operation arguments of a control or admin slot (R2, R13, R170). -/
inductive OpArgs where
  | abort (target : Half)
  | hold (named : SegSet)
  | release (named : SegSet)
  | ringCreate (a : RingCreateArgs)
  | ringDelete (ring : Byte)
  | cqCreate (a : CqCreateArgs)
  | cqDelete (cq : Byte)
  | segConfig (a : SegConfigArgs)
  | segStart (seg : Byte)
  | segStop (seg : Byte)
  | segReset (seg : Byte)
  | segSleep (seg : Byte)
  | segWake (seg : Byte)
  | segQuery (a : SegQueryArgs)
  | mapWrite (a : MapWriteArgs)
  | mapRead (entry half : Byte)
  | setLimits (a : SetLimitsArgs)
  deriving DecidableEq, Repr

/-- Progress of a LIVE HOLD: its own set and its granted set (section 6.2). -/
structure HoldProgress where
  own : SegSet
  granted : SegSet
  deriving DecidableEq, Repr

/-- The progress that the block running an operation that takes time records in its LIVE slot (R13, R22): a HOLD's sets; for the
others the stage their rules give, whose names are the model's (DESIGN CHOICE, log entry 39). -/
inductive Progress where
  /-- A HOLD: its own set and its granted set (section 6.2). -/
  | hold (sets : HoldProgress)
  /-- A SEGMENT_START: the segment synchronizes (R87). -/
  | synchronizing
  /-- A SEGMENT_STOP: the frame in progress runs to its end (R95). -/
  | awaitingFrameEnd
  /-- A SEGMENT_SLEEP: its own dormancy command is still to start (R98, R99). -/
  | awaitingIdle
  /-- A SEGMENT_SLEEP: its own dormancy command is in progress (R99). -/
  | sendingDormancy
  /-- A SEGMENT_WAKE: the wake pulse is driven (R91, R100). -/
  | pulsing
  /-- A SEGMENT_WAKE: the segment settles in WAKING (R92). -/
  | settling
  /-- A RING_DELETE: the ring still holds slots (R119). -/
  | drainingRing
  deriving DecidableEq, Repr

/-- What a DONE slot reports (R19 to R22): the fields of its completion record. -/
structure Result where
  status : Status
  attempts : Nat
  lastSeg : Option Seg
  late : Bool
  failover : Bool
  alternate : Bool
  length : Nat
  /-- The eight bytes of the result area. -/
  area : List Byte
  deriving DecidableEq, Repr

/-- A slot record (R2). Fields not yet written read as absent. -/
structure Slot where
  state : SlotState
  ring : Option Ring
  arrival : Option Nat
  tag : Option Half
  cq : Option Cq
  kind : Option Kind
  exchange : Option Exchange
  payload : Option (List Byte)
  deadline : Deadline
  deadlineTimer : Timer
  abortPending : Bool
  late : Bool
  lastEnded : Option Seg
  failoverUsed : Bool
  alternatePath : Bool
  legs : List Leg
  args : Option OpArgs
  /-- How far the slot's operation has come, written by the block that runs it (R2, R13; log entry 39). -/
  progress : Option Progress
  result : Option Result
  deriving DecidableEq, Repr

/-- A FREE slot: every field absent, no legs (R7). -/
def Slot.empty : Slot where
  state := .free
  ring := none
  arrival := none
  tag := none
  cq := none
  kind := none
  exchange := none
  payload := none
  deadline := .absent
  deadlineTimer := .stopped
  abortPending := false
  late := false
  lastEnded := none
  failoverUsed := false
  alternatePath := false
  legs := []
  args := none
  progress := none
  result := none

/-! ### Node map -/

/-- Map kinds (R25). -/
inductive MapKind where
  | single | pair | fan
  deriving DecidableEq, Repr

/-- A node map entry (R25). -/
structure MapEntry where
  valid : Bool
  first : Half
  last : Half
  kind : MapKind
  segA : Seg
  segB : Seg
  fanMask : SegSet
  idBase : Byte
  readOk : Bool
  writeOk : Bool
  deriving DecidableEq, Repr

/-- An invalid entry: every field zero (R25). -/
def MapEntry.empty : MapEntry where
  valid := false
  first := 0
  last := 0
  kind := .single
  segA := 0
  segB := 0
  fanMask := 0
  idBase := 0
  readOk := false
  writeOk := false

/-! ### Segment engines -/

/-- The eight configuration fields of a segment (R80). -/
structure SegConfig where
  bitTicks : Half
  wbase : Byte
  wbyte : Byte
  guard : Byte
  idleToDormant : Half
  wakeSettle : Byte
  wakeOnDemand : Bool
  noticeCq : Cq
  deriving DecidableEq, Repr

/-- The defaults after cold reset (R80). -/
def SegConfig.default : SegConfig where
  bitTicks := 2604
  wbase := 10
  wbyte := 14
  guard := 8
  idleToDormant := 0
  wakeSettle := 20
  wakeOnDemand := false
  noticeCq := 0

/-- Fault reasons (R78). -/
inductive FaultReason where
  | foreign | stuck | noIdle
  deriving DecidableEq, Repr

/-- Line states; FAULTED carries the fault reason, which is present in that state only (R78). -/
inductive LineState where
  | off | syncing | active | dormant | waking
  | faulted (reason : FaultReason)
  deriving DecidableEq, Repr

/-- Frame phases (R78). -/
inductive FramePhase where
  | idle | leadIn | header | gap | responseOut | ackWait | responseIn | recover | guard
  deriving DecidableEq, Repr

/-- Origin of a dormancy command (R78). -/
inductive DormancyOrigin where
  | idleTimer | sleep
  deriving DecidableEq, Repr

/-- Whose frame is in progress: the ON_WIRE leg of a slot on this segment, or a dormancy command (R78). -/
inductive Carrier where
  | exchange (slot : SlotId)
  | dormancy (origin : DormancyOrigin)
  deriving DecidableEq, Repr

/-- The frame in progress: what it was started from (R44, R76) and what it has received (R63). -/
structure Frame where
  carrier : Carrier
  id : Nat
  direction : Direction
  confirmed : Bool
  length : Nat
  payload : List Byte
  received : List Byte
  inReception : Bool
  deriving DecidableEq, Repr

/-- A frame outcome held during RECOVER (R73). -/
inductive PendingOutcome where
  | framing | readback
  deriving DecidableEq, Repr

/-- Segment operations that can be pending (R94). -/
inductive SegOp where
  | start | stop | sleep | wake
  deriving DecidableEq, Repr

/-- The pending operation with the slot of its request (R78). -/
structure PendingOp where
  op : SegOp
  slot : SlotId
  deriving DecidableEq, Repr

/-- Origin of a wake pulse (R91). -/
inductive WakeOrigin where
  | wake | onDemand
  deriving DecidableEq, Repr

/-- The hold fields: holder ring while not NONE, hold slot while DRAINING, hold timer while HELD (R78, R107 to R111). -/
inductive Hold where
  | none
  | draining (holder : Ring) (slot : SlotId)
  | held (holder : Ring) (timerMs : Half)
  deriving DecidableEq, Repr

/-- The recessive-run measurement of SYNCING and RECOVER, with its 1000-bit-time limit (R82, R88, R73). -/
inductive RecessiveRun where
  | notMeasured
  | counting
  | interrupted
  deriving DecidableEq, Repr

/-- What the part puts on a line (R60): nothing, the levels of a sending phase, one a bit time, or the wake pulse. -/
inductive LineDrive where
  | released
  | sending (levels : List Level)
  | wakePulse
  deriving DecidableEq, Repr

/-- A segment record (R78). -/
structure Segment where
  configured : Bool
  config : SegConfig
  lineState : LineState
  phase : FramePhase
  /-- Bit times the timed phase lasts; in ACK_WAIT and RESPONSE_IN the open window, none once it has ended (R64, R69). -/
  phaseBits : Option Nat
  frame : Option Frame
  pendingOutcome : Option PendingOutcome
  pendingOp : Option PendingOp
  wakePulse : Option WakeOrigin
  hold : Hold
  idleTimer : Timer
  settleTimer : Timer
  run : RecessiveRun
  line : LineDrive
  framesOk : Word
  framesFailed : Word
  retries : Word
  lineEvents : Word
  deriving DecidableEq, Repr

/-- A segment record after cold reset (R79). -/
def Segment.cold : Segment where
  configured := false
  config := SegConfig.default
  lineState := .off
  phase := .idle
  phaseBits := none
  frame := none
  pendingOutcome := none
  pendingOp := none
  wakePulse := none
  hold := .none
  idleTimer := .stopped
  settleTimer := .stopped
  run := .notMeasured
  line := .released
  framesOk := 0
  framesFailed := 0
  retries := 0
  lineEvents := 0

/-! ### Ring unit -/

/-- Request ring states (R121). -/
inductive RingState where
  | unconfigured | active | errored | deleting
  deriving DecidableEq, Repr

/-- Why a fetch failed (R128). -/
inductive FetchFailure where
  | readError | readTimeout
  deriving DecidableEq, Repr

/-- What a ring is created with (R121). -/
structure RingConfig where
  base : Addr
  size : Nat
  weight : Option Nat
  reserve : Nat
  cap : Nat
  cq : Cq
  deriving DecidableEq, Repr

/-- A request ring record (R121). -/
structure RequestRing where
  state : RingState
  config : Option RingConfig
  producer : Nat
  consumer : Nat
  error : Option FetchFailure
  deriving DecidableEq, Repr

/-- A request ring after reset (R122). -/
def RequestRing.empty : RequestRing where
  state := .unconfigured
  config := none
  producer := 0
  consumer := 0
  error := none

/-- The fetch in flight (R121). -/
structure Fetch where
  ring : Ring
  index : Nat
  slot : SlotId
  discard : Bool
  deriving DecidableEq, Repr

/-! ### Completion writer -/

/-- Completion ring states (R131). -/
inductive CqState where
  | unconfigured | active | errored
  deriving DecidableEq, Repr

/-- Why a hold was lost (R111, R112). -/
inductive HoldLoss where
  | expired | fault | stopped | reset
  deriving DecidableEq, Repr

/-- A notice with the fields it took when it was posted (R172). -/
inductive Notice where
  | ringError (ring : Ring) (reason : FetchFailure)
  | cqError (cq : Cq)
  | segmentFaulted (seg : Seg) (reason : FaultReason)
  | segmentDormant (seg : Seg)
  | remoteWake (seg : Seg)
  | holdLost (seg : Seg) (reason : HoldLoss) (holder : Ring)
  deriving DecidableEq, Repr

/-- An entry of a backlog (R131). -/
inductive Posting where
  | slot (id : SlotId)
  | notice (n : Notice)
  deriving DecidableEq, Repr

/-- What a completion ring is created with (R131). -/
structure CqConfig where
  base : Addr
  size : Nat
  count : Nat
  delay : Nat
  deriving DecidableEq, Repr

/-- A completion ring record (R131). -/
structure CompletionRing where
  state : CqState
  config : Option CqConfig
  producer : Nat
  release : Nat
  unreleased : Nat
  phase : Bool
  backlog : List Posting
  noticesWaiting : Nat
  noticesLost : Bool
  sinceMessage : Nat
  delayTimer : Timer
  armed : Bool
  deriving DecidableEq, Repr

/-- A completion ring after reset (R131). That the coalescing count and delay are absent then, with the base and the size, is the
model's choice (DESIGN CHOICE, log entry 41): the rule gives them no reset value. -/
def CompletionRing.empty : CompletionRing where
  state := .unconfigured
  config := none
  producer := 0
  release := 0
  unreleased := 0
  phase := true
  backlog := []
  noticesWaiting := 0
  noticesLost := false
  sinceMessage := 0
  delayTimer := .stopped
  armed := false

/-! ### Host port -/

/-- The kind of a reset in progress (R161, R164). -/
inductive ResetKind where
  | cold | function
  deriving DecidableEq, Repr

/-- The ring unit's read at the host port (R165, R166). -/
inductive ReadPort where
  | idle
  | waiting (addr : Addr)
  | outstanding (addr : Addr) (timer : Timer)
  deriving DecidableEq, Repr

/-- The record write that waits for the arbiter (R133, R165). -/
structure WriteRequest where
  cq : Cq
  addr : Addr
  deriving DecidableEq, Repr

/-- The two requesters of the bus-master arbiter (R165). -/
inductive Side where
  | ringUnit | completionWriter
  deriving DecidableEq, Repr

/-- A request the host port has placed on the link (R165 to R168). -/
inductive LinkOp where
  | readRequest (addr : Addr)
  | recordWrite (addr : Addr) (bytes : List Byte)
  | message (number : Nat)
  deriving DecidableEq, Repr

/-! ### The part -/

/-- The whole part (INVENTORY.md, State). -/
structure State where
  slots : Vector Slot 64
  lastArrival : Nat
  lifetimes : Vector Half 4
  map : Vector MapEntry 32
  queues : Vector (List SlotId) 8
  segs : Vector Segment 8
  holdLimit : Half
  rings : Vector RequestRing 8
  rotPtr : Ring
  grantCount : Nat
  fetch : Option Fetch
  cqs : Vector CompletionRing 4
  cqLast : Cq
  resetting : Option ResetKind
  enable : Bool
  adminFault : Bool
  adminRqBase : Addr
  adminCqBase : Addr
  adminSizes : Word
  read : ReadPort
  write : Option WriteRequest
  arbLast : Side
  msgPending : Vector Bool 4
  /-- For each message number the message held pending for it, by the lowest completion ring it stands for (R165, R168). -/
  msgHeld : Vector (Option Cq) 4
  /-- What the host port has placed on the link, oldest first: the model's own field (log entry 8). -/
  link : List LinkOp
  /-- The commands that are waiting, first in, first out. -/
  pending : List Instr
  deriving DecidableEq, Repr

/-- The part right after a cold reset has ended: every field at its cold value, READY = 1 (R7, R26, R39, R79, R122, R131,
R161, R165; log entry 5). -/
def State.reset : State where
  slots := Vector.replicate 64 Slot.empty
  lastArrival := 0
  lifetimes := #v[0, 20, 200, 2000]
  map := Vector.replicate 32 MapEntry.empty
  queues := Vector.replicate 8 []
  segs := Vector.replicate 8 Segment.cold
  holdLimit := 1000
  rings := Vector.replicate 8 RequestRing.empty
  rotPtr := 1
  grantCount := 0
  fetch := none
  cqs := Vector.replicate 4 CompletionRing.empty
  cqLast := 3
  resetting := none
  enable := false
  adminFault := false
  adminRqBase := 0
  adminCqBase := 0
  adminSizes := 0
  read := .idle
  write := none
  arbLast := .completionWriter
  msgPending := Vector.replicate 4 false
  msgHeld := Vector.replicate 4 none
  link := []
  pending := []

/-! ### Outcomes of a step -/

/-- Why the part stops with a fault: never. The spec names no stop of the part (INVENTORY.md, Faults), so no meaning
raises one; having no constructor is safe, since no behaviour is cut off. -/
inductive Fault where
  deriving DecidableEq, Repr

/-- Why a command has no outcome. -/
inductive Refusal where
  /-- Raised by an arm of `exec` whose command has no meaning yet. Safe: nothing is claimed of it. -/
  | notModelled (mnemonic : String)
  deriving DecidableEq, Repr

end Sys2Proof.Machine
end

