-- ==== Sys2Proof/Machine/Operands.lean ====
section
/-! DEFINITION. The operand forms: request records and their argument areas, object numbers, the bytes and levels of a frame,
and the bytes of completion and notice records. Byte positions are those of the chapter Record and Register Formats. -/

namespace Sys2Proof.Machine

/-! ### Byte order and object numbers -/

/-- A 16-bit field, least significant byte at the lowest offset. -/
def le16 (b0 b1 : Byte) : Half := b1 ++ b0

/-- A 64-bit field, least significant byte at the lowest offset. -/
def le64 (b0 b1 b2 b3 b4 b5 b6 b7 : Byte) : Addr := b7 ++ b6 ++ b5 ++ b4 ++ b3 ++ b2 ++ b1 ++ b0

/-- The low byte of a field of at least 8 bits, for a record the part writes. -/
def byteOf (n : Nat) : Byte := BitVec.ofNat 8 n

/-- The `count` bytes of a number from the least significant on. -/
def leBytes (count : Nat) (n : Nat) : List Byte := (List.range count).map fun i => byteOf (n / 256 ^ i)

/-- The segment a byte names, once its range check has passed (R170). -/
def segOf (b : Byte) : Seg := Fin.ofNat 8 b.toNat

/-- The request ring a byte names, once its range check has passed. -/
def ringOf (b : Byte) : Ring := Fin.ofNat 8 b.toNat

/-- The completion ring a byte names, once its range check has passed. -/
def cqOf (b : Byte) : Cq := Fin.ofNat 4 b.toNat

/-- The node map entry a byte names, once its range check has passed. -/
def entryOf (b : Byte) : EntryId := Fin.ofNat 32 b.toNat

/-- A base address has its low 6 bits zero (R145, R148, R162). -/
def aligned64 (a : Addr) : Bool := a.toNat % 64 == 0

/-- Sizes of a request ring (R121). -/
def requestSizes : List Nat := [16, 32, 64, 128, 256, 512, 1024]

/-- Sizes of a completion ring (R131). -/
def completionSizes : List Nat := [16, 32, 64, 128, 256, 512, 1024, 2048, 4096]

/-- The status of the first check that fails, in the order of the list (R9, R144). -/
def firstFailure : List (Bool × Status) → Option Status
  | [] => none
  | (true, _) :: rest => firstFailure rest
  | (false, status) :: _ => some status

/-! ### Segment sets -/

/-- Bit s of a mask stands for SEGs (R170). -/
def inSet (m : SegSet) (s : Seg) : Bool := m.getLsbD s.val

/-- The set with `s` joined to it. -/
def setWith (m : SegSet) (s : Seg) : SegSet := m ||| BitVec.twoPow 8 s.val

/-- The segments of a set, in ascending order. -/
def setMembers (m : SegSet) : List Seg := (List.finRange 8).filter fun s => inSet m s

/-! ### Request records -/

/-- Kind codes (R169). -/
def Kind.ofCode (code : Byte) : Option Kind :=
  match code.toNat with
  | 0x01 => some .read
  | 0x02 => some .write
  | 0x08 => some .abort
  | 0x09 => some .hold
  | 0x0A => some .release
  | 0x20 => some .ringCreate
  | 0x21 => some .ringDelete
  | 0x22 => some .cqCreate
  | 0x23 => some .cqDelete
  | 0x30 => some .segConfig
  | 0x31 => some .segStart
  | 0x32 => some .segStop
  | 0x33 => some .segReset
  | 0x34 => some .segSleep
  | 0x35 => some .segWake
  | 0x36 => some .segQuery
  | 0x40 => some .mapWrite
  | 0x41 => some .mapRead
  | 0x48 => some .setLimits
  | _ => none

/-- READ and WRITE are the exchange kinds. -/
def Kind.isExchange : Kind → Bool
  | .read | .write => true
  | _ => false

/-- READ, WRITE, ABORT, HOLD and RELEASE are allowed on rings 1 to 7, the admin kinds on ring 0 (R9, check 2). -/
def Kind.allowedOn (k : Kind) (r : Ring) : Bool :=
  match k with
  | .read | .write | .abort | .hold | .release => r ≠ 0
  | _ => r = 0

/-- Byte 0: the kind (R169). -/
def kindOf (rec : Record) : Option Kind := Kind.ofCode rec[0]

/-- Byte 1, bits 0-1 (R169). -/
def retryBudgetOf (rec : Record) : Nat := rec[1].toNat % 4

/-- Byte 1, bits 2-3 (R169). -/
def timeoutClassOf (rec : Record) : Fin 4 := Fin.ofNat 4 (rec[1].toNat / 4)

/-- Byte 1, bits 4-5 (R169). -/
def priorityOf (rec : Record) : Nat := rec[1].toNat / 16 % 4

/-- Bytes 2-3 (R169). -/
def tagOf (rec : Record) : Half := le16 rec[2] rec[3]

/-- Bytes 4-5 (R169). -/
def nodeOf (rec : Record) : Half := le16 rec[4] rec[5]

/-- Byte 6 as a whole byte (R169). -/
def lengthOf (rec : Record) : Nat := rec[6].toNat

/-- Byte 7: the reserved-zero byte (R9, check 3). -/
def reservedZero (rec : Record) : Bool := rec[7] == 0

/-- R9, check 4: the length is 0 to 8 and bits 6-7 of byte 1 are zero. -/
def exchangeHeaderOk (rec : Record) : Bool := lengthOf rec ≤ 8 && rec[1].toNat / 64 == 0

/-- The first `length` bytes of the payload area, bytes 8-15 (R169). -/
def payloadOf (rec : Record) : List Byte :=
  [rec[8], rec[9], rec[10], rec[11], rec[12], rec[13], rec[14], rec[15]].take (lengthOf rec)

/-- The arguments of a control or admin kind, from the argument area (R170). -/
def argsOf (k : Kind) (rec : Record) : Option OpArgs :=
  match k with
  | .read | .write => none
  | .abort => some (.abort (le16 rec[16] rec[17]))
  | .hold => some (.hold rec[16])
  | .release => some (.release rec[16])
  | .ringCreate => some (.ringCreate {
      ring := rec[16], cq := rec[17], weight := rec[18], reserve := rec[19], cap := rec[20], size := le16 rec[22] rec[23],
      base := le64 rec[24] rec[25] rec[26] rec[27] rec[28] rec[29] rec[30] rec[31] })
  | .ringDelete => some (.ringDelete rec[16])
  | .cqCreate => some (.cqCreate {
      cq := rec[16], count := rec[17], delay := le16 rec[18] rec[19], size := le16 rec[20] rec[21],
      base := le64 rec[24] rec[25] rec[26] rec[27] rec[28] rec[29] rec[30] rec[31] })
  | .cqDelete => some (.cqDelete rec[16])
  | .segConfig => some (.segConfig {
      seg := rec[16], wbase := rec[17], wbyte := rec[18], guard := rec[19], bitTicks := le16 rec[20] rec[21],
      idleToDormant := le16 rec[22] rec[23], wakeSettle := rec[24], wakeOnDemand := rec[25], noticeCq := rec[26] })
  | .segStart => some (.segStart rec[16])
  | .segStop => some (.segStop rec[16])
  | .segReset => some (.segReset rec[16])
  | .segSleep => some (.segSleep rec[16])
  | .segWake => some (.segWake rec[16])
  | .segQuery => some (.segQuery { seg := rec[16], first := rec[17], second := rec[18], clear := rec[19] })
  | .mapWrite => some (.mapWrite {
      entry := rec[16], flags := rec[17], kind := rec[18], segA := rec[19], segB := rec[20], fanMask := rec[21],
      idBase := rec[22], first := le16 rec[24] rec[25], last := le16 rec[26] rec[27] })
  | .mapRead => some (.mapRead rec[16] rec[17])
  | .setLimits => some (.setLimits {
      class0 := le16 rec[16] rec[17], class1 := le16 rec[18] rec[19], class2 := le16 rec[20] rec[21],
      class3 := le16 rec[22] rec[23], holdLimit := le16 rec[24] rec[25] })

/-- Entry flags of MAP_WRITE: bit 0 valid, bit 1 read allowed, bit 2 write allowed (R170). -/
def MapWriteArgs.valid (a : MapWriteArgs) : Bool := a.flags.getLsbD 0

/-- Entry flags of MAP_WRITE, bit 1 (R170). -/
def MapWriteArgs.readOk (a : MapWriteArgs) : Bool := a.flags.getLsbD 1

/-- Entry flags of MAP_WRITE, bit 2 (R170). -/
def MapWriteArgs.writeOk (a : MapWriteArgs) : Bool := a.flags.getLsbD 2

/-- Map kind codes of MAP_WRITE (R170). -/
def MapKind.ofCode (code : Byte) : Option MapKind :=
  match code.toNat with
  | 0 => some .single
  | 1 => some .pair
  | 2 => some .fan
  | _ => none

/-- Map kind codes of the entry image (R171). -/
def MapKind.code : MapKind → Nat
  | .single => 0
  | .pair => 1
  | .fan => 2

/-! ### The bytes of a frame -/

/-- Header byte H0: identifier and direction (R66). -/
def headerByte0 (f : Frame) : Byte :=
  byteOf (f.id + match f.direction with | .dirIn => 128 | .dirOut => 0)

/-- The header check: 15 minus the sum of the nibbles of H0 and the length, modulo 16 (R66). -/
def headerCheck (f : Frame) : Nat :=
  15 - ((headerByte0 f).toNat % 16 + (headerByte0 f).toNat / 16 + f.length) % 16

/-- Header byte H1: length and header check (R66). -/
def headerByte1 (f : Frame) : Byte := byteOf (f.length + 16 * headerCheck f)

/-- One bit of the CRC-8, most significant bit first (R67). -/
def crcBit (reg : Byte) : Byte :=
  if reg.msb then (reg <<< 1) ^^^ Config.crcPolynomial else reg <<< 1

/-- The CRC-8 register after one more byte (R67). -/
def crcByte (reg byte : Byte) : Byte :=
  crcBit (crcBit (crcBit (crcBit (crcBit (crcBit (crcBit (crcBit (reg ^^^ byte))))))))

/-- The check byte over a list of bytes (R67). -/
def crc8 (bytes : List Byte) : Byte := bytes.foldl crcByte Config.crcInitial ^^^ Config.crcInitial

/-- The check byte of a frame with the given payload bytes: over H0, H1 and the payload (R67). -/
def frameCheck (f : Frame) (payload : List Byte) : Byte := crc8 (headerByte0 f :: headerByte1 f :: payload)

/-- The dormancy command (R76). -/
def dormancyFrame (origin : DormancyOrigin) : Frame where
  carrier := .dormancy origin
  id := Config.dormancyId
  direction := .dirOut
  confirmed := false
  length := 1
  payload := [0]
  received := []
  inReception := false

/-- The frame of an exchange, from the slot's copied fields (R44, R37); a READ sends no payload. -/
def exchangeFrame (id : SlotId) (x : Exchange) (payload : Option (List Byte)) : Frame where
  carrier := .exchange id
  id := x.frameId
  direction := x.direction
  confirmed := x.confirmed
  length := x.length
  payload := match x.direction with
    | .dirIn => []
    | .dirOut => payload.getD []
  received := []
  inReception := false

/-- The levels of one byte on a line: start bit, eight data bits least significant first, stop bit (R62). -/
def byteLevels (b : Byte) : List Level :=
  .dominant :: ((List.range 8).map fun i => if b.getLsbD i then .recessive else .dominant) ++ [.recessive]

/-- The byte that eight sampled levels make, taken least significant bit first: 0 dominant, 1 recessive (R62, R63 step 3). -/
def receivedByte (levels : DataLevels) : Byte :=
  byteOf ((List.finRange 8).map fun n => if levels.get n = .recessive then 2 ^ n.val else 0).sum

/-- The levels of several bytes sent back to back (R62). -/
def bytesLevels (bytes : List Byte) : List Level := bytes.flatMap byteLevels

/-- The levels of a lead-in: 14 dominant, 2 released (R65). -/
def leadInLevels : List Level :=
  List.replicate Config.leadInDominant .dominant ++ List.replicate Config.leadInReleased .recessive

/-- The levels of the header (R66). -/
def headerLevels (f : Frame) : List Level := bytesLevels [headerByte0 f, headerByte1 f]

/-- The levels of an OUT response: payload, then check byte (R68). -/
def responseLevels (f : Frame) : List Level := bytesLevels (f.payload ++ [frameCheck f f.payload])

/-- Length of a response window for `expected` bytes, in bit times (R69). -/
def windowBits (c : SegConfig) (expected : Nat) : Nat := c.wbase.toNat + c.wbyte.toNat * expected

/-! ### Status codes -/

/-- Status codes of outcomes (section 10.5). -/
def LegOutcome.code : LegOutcome → Nat
  | .ok => 0x00
  | .noResponse => 0x01
  | .partialResponse => 0x02
  | .checkError => 0x03
  | .framing => 0x04
  | .readback => 0x05
  | .refused => 0x06
  | .badAck => 0x07
  | .expired => 0x08
  | .aborted => 0x09
  | .flushed => 0x0A
  | .segmentFault => 0x0B
  | .segmentStopped => 0x0C
  | .segmentReset => 0x0D
  | .segmentOff => 0x0E

/-- Status codes (section 10.5). -/
def Status.code : Status → Nat
  | .outcome o => o.code
  | .someFailed => 0x10
  | .allFailed => 0x11
  | .badRequest => 0x20
  | .badTarget => 0x21
  | .noPath => 0x22
  | .conflict => 0x23
  | .notFound => 0x24
  | .tooLate => 0x25
  | .notHeld => 0x26
  | .inUse => 0x27
  | .busy => 0x28
  | .noSpace => 0x29

/-- The leg table's code of a leg: Fh for OK, else its status code (R21). -/
def LegOutcome.nibble : LegOutcome → Nat
  | .ok => 0xF
  | o => o.code

/-! ### Result areas -/

/-- Eight zero bytes. -/
def zeroArea : List Byte := List.replicate 8 0

/-- Bytes from the first place on, the rest of the eight zero (R171). -/
def padArea (bytes : List Byte) : List Byte := (bytes ++ zeroArea).take 8

/-- The leg table's code for a segment: 0h outside the fan mask (R21). -/
def legNibble (legs : List Leg) (s : Seg) : Nat :=
  match legs.find? (fun l => l.segment = s) with
  | some l => match l.outcome with
    | some o => o.nibble
    | none => 0
  | none => 0

/-- The leg table: SEGs in byte s/2, low nibble for even s (R171). -/
def legTable (legs : List Leg) : List Byte :=
  padArea [byteOf (legNibble legs 0 + 16 * legNibble legs 1), byteOf (legNibble legs 2 + 16 * legNibble legs 3),
    byteOf (legNibble legs 4 + 16 * legNibble legs 5), byteOf (legNibble legs 6 + 16 * legNibble legs 7)]

/-- Entry flags of the image (R171). -/
def MapEntry.flags (e : MapEntry) : Byte := byteOf (e.valid.toNat + 2 * e.readOk.toNat + 4 * e.writeOk.toNat)

/-- The last frame identifier an entry can produce (R171). -/
def MapEntry.lastId (e : MapEntry) : Nat := e.idBase.toNat + (e.last.toNat - e.first.toNat)

/-- The 12-byte image of an entry (R171). -/
def MapEntry.image (e : MapEntry) : List Byte :=
  [e.flags, byteOf e.kind.code, byteOf e.segA.val, byteOf e.segB.val, e.fanMask, e.idBase, byteOf e.lastId, 0]
    ++ leBytes 2 e.first.toNat ++ leBytes 2 e.last.toNat

/-- The half of an image that a half selector names: bytes 0-7, or bytes 4-11 (R29). -/
def imageHalf (image : List Byte) (half : Byte) : List Byte :=
  if half == 0 then image.take 8 else image.drop 4

/-- Line state codes of SEGMENT_QUERY (R171). -/
def LineState.code : LineState → Nat
  | .off => 0
  | .syncing => 1
  | .active => 2
  | .dormant => 3
  | .waking => 4
  | .faulted .foreign => 5
  | .faulted .stuck => 6
  | .faulted .noIdle => 7

/-- Hold state codes of SEGMENT_QUERY (R171). -/
def Hold.code : Hold → Nat
  | .none => 0
  | .draining _ _ => 1
  | .held _ _ => 2

/-- The holder ring, absent while the hold state is NONE (R78). -/
def Hold.holder : Hold → Option Ring
  | .none => Option.none
  | .draining r _ => some r
  | .held r _ => some r

/-- A counter selector names one of the four counters (R170). -/
def Segment.counter (g : Segment) (selector : Byte) : Word :=
  match selector.toNat with
  | 0 => g.framesOk
  | 1 => g.framesFailed
  | 2 => g.retries
  | _ => g.lineEvents

/-- The segment with the selected counter set to 0 (R101). -/
def Segment.clearCounter (g : Segment) (selector : Byte) : Segment :=
  match selector.toNat with
  | 0 => { g with framesOk := 0 }
  | 1 => { g with framesFailed := 0 }
  | 2 => { g with retries := 0 }
  | _ => { g with lineEvents := 0 }

/-- The SEGMENT_QUERY result (R152, R171). -/
def queryArea (g : Segment) (queueLength : Nat) (a : SegQueryArgs) : List Byte :=
  [byteOf (g.lineState.code + 8 * g.hold.code + 32 * (g.hold.holder.getD 0).val), byteOf queueLength]
    ++ leBytes 3 (g.counter a.first).toNat ++ leBytes 3 (g.counter a.second).toNat

/-! ### Records the part writes -/

/-- The completion record of a DONE slot, written with the given phase (R171). -/
def completionRecord (slot : Slot) (r : Result) (flags : Byte) : List Byte :=
  leBytes 2 ((slot.tag.getD 0).toNat) ++
    [byteOf (slot.ring.getD 0).val, byteOf r.status.code, byteOf r.attempts, flags, byteOf r.length,
      match r.lastSeg with
      | some s => byteOf s.val
      | none => 0xFF]
    ++ r.area

/-- Notice kind codes (R172). -/
def Notice.code : Notice → Nat
  | .ringError _ _ => 1
  | .cqError _ => 2
  | .segmentFaulted _ _ => 3
  | .segmentDormant _ => 4
  | .remoteWake _ => 5
  | .holdLost _ _ _ => 6

/-- A notice's subject: a segment or a ring number (R172). -/
def Notice.subject : Notice → Nat
  | .ringError r _ => r.val
  | .cqError c => c.val
  | .segmentFaulted s _ => s.val
  | .segmentDormant s => s.val
  | .remoteWake s => s.val
  | .holdLost s _ _ => s.val

/-- Reason codes of RING_ERROR (R172). -/
def FetchFailure.code : FetchFailure → Nat
  | .readError => 1
  | .readTimeout => 2

/-- Reason codes of SEGMENT_FAULTED (R172). -/
def FaultReason.code : FaultReason → Nat
  | .foreign => 1
  | .stuck => 2
  | .noIdle => 3

/-- Reason codes of HOLD_LOST (R172). -/
def HoldLoss.code : HoldLoss → Nat
  | .expired => 1
  | .fault => 2
  | .stopped => 3
  | .reset => 4

/-- A notice's reason code, 0 where the kind has none (R172). -/
def Notice.reason : Notice → Nat
  | .ringError _ f => f.code
  | .segmentFaulted _ f => f.code
  | .holdLost _ f _ => f.code
  | .cqError _ | .segmentDormant _ | .remoteWake _ => 0

/-- The holder ring of HOLD_LOST, 0 otherwise (R172). -/
def Notice.holder : Notice → Nat
  | .holdLost _ _ r => r.val
  | _ => 0

/-- The notice record (R172). -/
def noticeRecord (n : Notice) (flags : Byte) : List Byte :=
  [0, 0, 0x80, byteOf n.code, byteOf n.subject, flags, byteOf n.reason, byteOf n.holder] ++ zeroArea

end Sys2Proof.Machine
end

