-- ==== Sys2Proof/Machine/Flags.lean ====
section
/-! DEFINITION. The flag bytes of the records the part writes, and what a read of the register window returns. -/

namespace Sys2Proof.Machine

/-! ### Flag bytes -/

/-- Byte 5 of a completion record: LATE, FAILOVER, ALTERNATE and the phase; NOTICES_LOST is always 0 (R171). -/
def completionFlags (r : Result) (phase : Bool) : Byte :=
  byteOf (r.late.toNat + 2 * r.failover.toNat + 4 * r.alternate.toNat + 128 * phase.toNat)

/-- Byte 5 of a notice record: NOTICES_LOST and the phase (R172). -/
def noticeFlags (lost phase : Bool) : Byte := byteOf (8 * lost.toNat + 128 * phase.toNat)

/-! ### The register window -/

/-- CONTROL bit 0, ENABLE (R173). -/
def controlEnable (v : Word) : Bool := v.getLsbD 0

/-- CONTROL bit 1, RESET (R173). -/
def controlResetBit (v : Word) : Bool := v.getLsbD 1

/-- The index an RQ_POST or CQ_RELEASE write carries: bits 0-15 (R173). -/
def indexOf (v : Word) : Nat := v.toNat % 65536

/-- Size of request ring 0 in ADMIN_SIZES, bits 0-15 (R173). -/
def adminRqSize (v : Word) : Nat := v.toNat % 65536

/-- Size of completion ring 0 in ADMIN_SIZES, bits 16-31 (R173). -/
def adminCqSize (v : Word) : Nat := v.toNat / 65536

/-- The low word of a 64-bit register. -/
def lowWord (a : Addr) : Word := a.setWidth 32

/-- The high word of a 64-bit register. -/
def highWord (a : Addr) : Word := (a >>> 32).setWidth 32

/-- A 64-bit register with its low word replaced. -/
def withLowWord (a : Addr) (v : Word) : Addr := highWord a ++ v

/-- A 64-bit register with its high word replaced. -/
def withHighWord (a : Addr) (v : Word) : Addr := v ++ lowWord a

/-- The registers of the window by their offsets (R173). -/
inductive Register where
  | control | status
  | adminRqBaseLow | adminRqBaseHigh | adminCqBaseLow | adminCqBaseHigh | adminSizes
  | rqPost (r : Ring)
  | cqRelease (c : Cq)
  deriving DecidableEq, Repr

/-- The register at an offset, none where the window holds none (R159, R173). -/
def registerAt (offset : Nat) : Option Register :=
  if offset = 0x000 then some .control
  else if offset = 0x004 then some .status
  else if offset = 0x010 then some .adminRqBaseLow
  else if offset = 0x014 then some .adminRqBaseHigh
  else if offset = 0x018 then some .adminCqBaseLow
  else if offset = 0x01C then some .adminCqBaseHigh
  else if offset = 0x020 then some .adminSizes
  else if offset % 4 = 0 ∧ 0x100 ≤ offset ∧ offset < 0x120 then some (.rqPost (Fin.ofNat 8 ((offset - 0x100) / 4)))
  else if offset % 4 = 0 ∧ 0x200 ≤ offset ∧ offset < 0x210 then some (.cqRelease (Fin.ofNat 4 ((offset - 0x200) / 4)))
  else none

/-- READY: no reset is in progress (R161). -/
def State.ready (s : State) : Bool := s.resetting.isNone

/-- Bit 8 + r of STATUS: request ring r is ERRORED (R161). -/
def State.ringErrored (s : State) (r : Ring) : Bool := (s.rings.get r).state == .errored

/-- Bit 16 + c of STATUS: completion ring c is ERRORED (R161). -/
def State.cqErrored (s : State) (c : Cq) : Bool := (s.cqs.get c).state == .errored

/-- STATUS (R161, R173). -/
def State.status (s : State) : Word :=
  BitVec.ofNat 32 (s.ready.toNat + 2 * s.adminFault.toNat
    + ((List.finRange 8).map fun r => 2 ^ (8 + r.val) * (s.ringErrored r).toNat).sum
    + ((List.finRange 4).map fun c => 2 ^ (16 + c.val) * (s.cqErrored c).toNat).sum)

/-- What a 32-bit read of a register returns while no reset is in progress (R160). -/
def State.registerValue (s : State) : Register → Word
  | .control => BitVec.ofNat 32 s.enable.toNat
  | .status => s.status
  | .adminRqBaseLow => lowWord s.adminRqBase
  | .adminRqBaseHigh => highWord s.adminRqBase
  | .adminCqBaseLow => lowWord s.adminCqBase
  | .adminCqBaseHigh => highWord s.adminCqBase
  | .adminSizes => s.adminSizes
  | .rqPost r => if (s.rings.get r).state = .unconfigured then 0 else BitVec.ofNat 32 (s.rings.get r).consumer
  | .cqRelease c => if (s.cqs.get c).state = .unconfigured then 0 else BitVec.ofNat 32 (s.cqs.get c).producer

/-- A 32-bit read of the window: it changes no state; while a reset is in progress every register but STATUS reads 0 (R159). -/
def State.readRegister (s : State) (offset : Nat) : Word :=
  match registerAt offset with
  | none => 0
  | some .status => s.status
  | some r => if s.ready then s.registerValue r else 0

/-- The byte at an offset of the window, as a read of any width returns it (R159). -/
def State.readByte (s : State) (offset : Nat) : Byte :=
  byteOf ((s.readRegister (offset - offset % 4)).toNat / 256 ^ (offset % 4))

/-- A read of `count` bytes: narrow reads return the addressed bytes of the word, 64-bit reads two words (R159). -/
def State.readWindow (s : State) (offset count : Nat) : List Byte :=
  (List.range count).map fun i => s.readByte (offset + i)

end Sys2Proof.Machine
end

