-- ==== Sys2Proof/Machine/Ops.lean ====
section
/-! DEFINITION. The named operations over the state that the meanings share: the tables' accessors, slots and postings,
dispatch queues, legs, holds, frames, faults, stops and resets. -/

namespace Sys2Proof.Machine

/-! ### Accessors -/

/-- Slot record `i`. -/
def State.slot (s : State) (i : SlotId) : Slot := s.slots.get i

/-- Segment record `i`. -/
def State.seg (s : State) (i : Seg) : Segment := s.segs.get i

/-- The dispatch queue of segment `i`. -/
def State.queue (s : State) (i : Seg) : List SlotId := s.queues.get i

/-- Request ring record `r`. -/
def State.ring (s : State) (r : Ring) : RequestRing := s.rings.get r

/-- Completion ring record `c`. -/
def State.cq (s : State) (c : Cq) : CompletionRing := s.cqs.get c

/-- Replace a slot record. -/
def State.setSlot (s : State) (i : SlotId) (x : Slot) : State := { s with slots := s.slots.set i.val x i.isLt }

/-- Replace a segment record. -/
def State.setSeg (s : State) (i : Seg) (x : Segment) : State := { s with segs := s.segs.set i.val x i.isLt }

/-- Replace a dispatch queue. -/
def State.setQueue (s : State) (i : Seg) (x : List SlotId) : State := { s with queues := s.queues.set i.val x i.isLt }

/-- Replace a request ring record. -/
def State.setRing (s : State) (r : Ring) (x : RequestRing) : State := { s with rings := s.rings.set r.val x r.isLt }

/-- Replace a completion ring record. -/
def State.setCq (s : State) (c : Cq) (x : CompletionRing) : State := { s with cqs := s.cqs.set c.val x c.isLt }

/-- Change a slot record. -/
def State.modSlot (s : State) (i : SlotId) (f : Slot → Slot) : State := s.setSlot i (f (s.slot i))

/-- Change a segment record. -/
def State.modSeg (s : State) (i : Seg) (f : Segment → Segment) : State := s.setSeg i (f (s.seg i))

/-- Change a completion ring record. -/
def State.modCq (s : State) (c : Cq) (f : CompletionRing → CompletionRing) : State := s.setCq c (f (s.cq c))

/-- Change a request ring record. -/
def State.modRing (s : State) (r : Ring) (f : RequestRing → RequestRing) : State := s.setRing r (f (s.ring r))

/-! ### Ordered lists -/

/-- Insert after every entry that does not order after `x` (R40). -/
def insertOrdered {α : Type} (before : α → α → Bool) (x : α) : List α → List α
  | [] => [x]
  | y :: rest => if before x y then x :: y :: rest else y :: insertOrdered before x rest

/-- A list put in order by insertion. -/
def sortOrdered {α : Type} (before : α → α → Bool) : List α → List α
  | [] => []
  | x :: rest => insertOrdered before x (sortOrdered before rest)

/-- The arrival position of a slot (R8). -/
def State.arrivalOf (s : State) (i : SlotId) : Nat := (s.slot i).arrival.getD 0

/-- The priority of a slot's exchange (R2). -/
def State.priorityOf (s : State) (i : SlotId) : Nat :=
  match (s.slot i).exchange with
  | some x => x.priority
  | none => 0

/-- Arrival order (R8). -/
def State.arrivedBefore (s : State) (i j : SlotId) : Bool := s.arrivalOf i < s.arrivalOf j

/-- The order of a dispatch queue: priority 3 first, then arrival (R38). -/
def State.ordersBefore (s : State) (i j : SlotId) : Bool :=
  s.priorityOf j < s.priorityOf i || (s.priorityOf i == s.priorityOf j && s.arrivedBefore i j)

/-- The slots that satisfy a test, in arrival order. -/
def State.slotsInOrder (s : State) (p : Slot → Bool) : List SlotId :=
  sortOrdered s.arrivedBefore ((List.finRange 64).filter fun i => p (s.slot i))

/-! ### Postings (R132, R135) -/

/-- A slot becomes FREE, every field absent (R1, R7). -/
def State.freeSlot (s : State) (i : SlotId) : State := s.setSlot i Slot.empty

/-- A slot in state `st` becomes FREE; a slot in another state is left as it is (R1). -/
def State.freeSlotFrom (s : State) (st : SlotState) (i : SlotId) : State :=
  if (s.slot i).state = st then s.freeSlot i else s

/-- A DONE slot joins the backlog of its completion ring at the tail, or is discarded and becomes FREE where that ring is
not ACTIVE (R23, R132). -/
def State.postSlot (s : State) (i : SlotId) : State :=
  match (s.slot i).cq with
  | none => s.freeSlot i
  | some c =>
    if (s.cq c).state = .active then s.modCq c fun q => { q with backlog := q.backlog ++ [.slot i] }
    else s.freeSlot i

/-- A notice joins the backlog of a completion ring at the tail; it is dropped where 8 notices wait already, and discarded
where the ring is not ACTIVE (R132, R135). -/
def State.postNotice (s : State) (c : Cq) (n : Notice) : State :=
  if (s.cq c).state = .active then
    if (s.cq c).noticesWaiting < Config.noticeAllowance then
      s.modCq c fun q => { q with backlog := q.backlog ++ [.notice n], noticesWaiting := q.noticesWaiting + 1 }
    else s.modCq c fun q => { q with noticesLost := true }
  else s

/-! ### The end of a request -/

/-- A FETCHING or LIVE slot goes DONE with its result, its deadline timer stopped, and joins its backlog (R1, R18, R23). -/
def State.completeSlot (s : State) (i : SlotId) (r : Result) : State :=
  if (s.slot i).state = .fetching ∨ (s.slot i).state = .live then
    (s.modSlot i fun t => { t with state := .done, deadlineTimer := .stopped, result := some r }).postSlot i
  else s

/-- The result of a refused record, or of a control or admin slot (R10, R22). -/
def plainResult (status : Status) (length : Nat) (area : List Byte) : Result where
  status := status
  attempts := 0
  lastSeg := none
  late := false
  failover := false
  alternate := false
  length := length
  area := area

/-- A refused record, or a control or admin request, goes DONE with a result of its own (R10, R22). A slot that carries an
exchange goes DONE by its legs alone (R18). -/
def State.answerResult (s : State) (i : SlotId) (r : Result) : State :=
  if (s.slot i).exchange.isNone then s.completeSlot i r else s

/-- A request is answered with a status and no data (R22). -/
def State.answer (s : State) (i : SlotId) (status : Status) : State := s.answerResult i (plainResult status 0 zeroArea)

/-- A request is answered OK with eight bytes of admin result (R22, R29, R101). -/
def State.answerWith (s : State) (i : SlotId) (area : List Byte) : State :=
  s.answerResult i (plainResult (.outcome .ok) 8 area)

/-- A record is refused: its operation fields stay absent, its slot goes DONE with the status (R2, R10). -/
def State.refuse (s : State) (i : SlotId) (status : Status) : State :=
  (s.modSlot i fun t => { t with args := none }).answer i status

/-- The status of a FAN slot from its legs' outcomes (R21). -/
def fanStatus (legs : List Leg) : Status :=
  if legs.all (fun l => l.outcome = some .ok) then .outcome .ok
  else if legs.any (fun l => l.outcome = some .ok) then .someFailed
  else .allFailed

/-- The result of an exchange whose legs are all FINISHED (R19, R20, R21). -/
def exchangeResult (t : Slot) (x : Exchange) : Result :=
  let failover := t.failoverUsed && !t.alternatePath
  match x.target with
  | .fan _ =>
    { status := fanStatus t.legs, attempts := (t.legs.map Leg.attempts).sum, lastSeg := t.lastEnded, late := t.late
      failover := failover, alternate := t.alternatePath, length := 0, area := legTable t.legs }
  | .single _ | .pair _ _ =>
    match t.legs.head? with
    | none => plainResult .noPath 0 zeroArea
    | some leg =>
      let outcome := leg.outcome.getD .ok
      let returns := x.direction = .dirIn ∧ outcome = .ok
      { status := .outcome outcome, attempts := leg.attempts, lastSeg := leg.lastFrameSeg, late := t.late
        failover := failover, alternate := t.alternatePath
        length := if returns then x.length else 0
        area := if returns then padArea (t.payload.getD []) else zeroArea }

/-- No leg of the slot is WAITING or ON_WIRE (R18). -/
def Slot.legsFinished (t : Slot) : Bool := t.legs.all fun l => l.state = .finished

/-- A LIVE exchange slot with no unfinished leg goes DONE (R18). -/
def State.checkDone (s : State) (i : SlotId) : State :=
  match (s.slot i).exchange with
  | none => s
  | some x =>
    if (s.slot i).state = .live ∧ (s.slot i).legsFinished then s.completeSlot i (exchangeResult (s.slot i) x) else s

/-! ### Wake pulse (R91, R93) -/

/-- The part drives a wake pulse: the line is driven dominant and the pulse records its origin (R91). -/
def State.startWakePulse (s : State) (g : Seg) (origin : WakeOrigin) : State :=
  s.modSeg g fun x => { x with wakePulse := some origin, line := .wakePulse }

/-- A DORMANT segment with wake_on_demand set, a leg in its queue and no wake pulse in progress starts one (R93). -/
def State.wakeOnDemand (s : State) (g : Seg) : State :=
  if (s.seg g).lineState = .dormant ∧ (s.seg g).config.wakeOnDemand ∧ (s.seg g).wakePulse = none ∧ s.queue g ≠ [] then
    s.startWakePulse g .onDemand
  else s

/-! ### Dispatch queues (R38 to R41) -/

/-- The slot's leg on segment `g` joins that segment's queue at its sorted position (R40); a DORMANT segment may wake
(R93). The leg's own state is set by the caller. -/
def State.joinQueue (s : State) (i : SlotId) (g : Seg) : State :=
  (s.setQueue g (insertOrdered s.ordersBefore i (s.queue g))).wakeOnDemand g

/-- The slot's leg on segment `g` leaves that segment's queue; the rest close up (R41). -/
def State.leaveQueue (s : State) (i : SlotId) (g : Seg) : State :=
  s.setQueue g ((s.queue g).filter fun j => j ≠ i)

/-! ### Legs -/

/-- The leg of a slot on segment `g`; a slot has at most one there (R3). -/
def Slot.legOn (t : Slot) (g : Seg) : Option Leg := t.legs.find? fun l => l.segment = g

/-- The slot with its leg on segment `g` changed. -/
def Slot.mapLeg (t : Slot) (g : Seg) (f : Leg → Leg) : Slot :=
  { t with legs := t.legs.map fun l => if l.segment = g then f l else l }

/-- A leg FINISHED with an outcome; it keeps its attempts and last frame segment (R51). -/
def Leg.finish (l : Leg) (o : LegOutcome) : Leg := { l with state := .finished, outcome := some o }

/-- The leg on segment `g` finishes with an outcome, and the slot goes DONE if it was the last (R18, R51). -/
def State.finishLeg (s : State) (i : SlotId) (g : Seg) (o : LegOutcome) : State :=
  (s.modSlot i fun t => t.mapLeg g fun l => l.finish o).checkDone i

/-- A WAITING leg leaves its queue and finishes with an outcome (R41). -/
def State.finishWaiting (s : State) (i : SlotId) (g : Seg) (o : LegOutcome) : State :=
  (s.leaveQueue i g).finishLeg i g o

/-- The segments on which a slot has a WAITING leg, in leg-list order. -/
def Slot.waitingOn (t : Slot) : List Seg := (t.legs.filter fun l => l.state = .waiting).map Leg.segment

/-- Every WAITING leg of a slot leaves its queue and finishes with an outcome, in leg-list order; the slot goes DONE if
nothing is left unfinished (R16, R105, R117). -/
def State.finishWaitingLegs (s : State) (i : SlotId) (o : LegOutcome) : State :=
  ((s.slot i).waitingOn.foldl (fun s g => s.finishWaiting i g o) s).checkDone i

/-- A segment is usable in SYNCING, ACTIVE, DORMANT and WAKING (R33). -/
def LineState.usable : LineState → Bool
  | .syncing | .active | .dormant | .waking => true
  | .off | .faulted _ => false

/-- Outcomes that are retried on the same segment (R46). -/
def LegOutcome.retryable : LegOutcome → Bool
  | .noResponse | .partialResponse | .checkError | .framing | .readback | .badAck => true
  | _ => false

/-- Outcomes that permit failover of a PAIR leg on its primary (R46, R55). -/
def LegOutcome.permitsFailover : LegOutcome → Bool
  | .segmentFault | .segmentReset | .segmentStopped => true
  | o => o.retryable

/-- The secondary a leg fails over to with the given outcome, if every condition of R52 holds. -/
def State.failoverTo (s : State) (i : SlotId) (l : Leg) (o : LegOutcome) : Option Seg :=
  let t := s.slot i
  match t.exchange with
  | some { target := .pair _ b, .. } =>
    if l.path = some .primary ∧ t.failoverUsed = false ∧ t.abortPending = false ∧ t.deadline ≠ .passed ∧
        o.permitsFailover ∧ (s.seg b).lineState.usable then some b
    else none
  | _ => none

/-- The retry budget of a slot (R2). -/
def Slot.retryBudget (t : Slot) : Nat :=
  match t.exchange with
  | some x => x.retryBudget
  | none => 0

/-- The PAIR leg on segment `g` moves once to its secondary `b`, with its retries restored (R52). -/
def State.failover (s : State) (i : SlotId) (g b : Seg) : State :=
  (s.modSlot i fun t =>
    { t.mapLeg g fun l =>
        { l with segment := b, path := some .secondary, retriesLeft := t.retryBudget, state := .waiting }
      with failoverUsed := true }).joinQueue i b

/-- The leg on segment `g` goes back into that segment's queue for a retry (R50). -/
def State.retry (s : State) (i : SlotId) (g : Seg) : State :=
  ((s.modSlot i fun t => t.mapLeg g fun l => { l with retriesLeft := l.retriesLeft - 1, state := .waiting }).modSeg g
    fun x => { x with retries := x.retries + 1 }).joinQueue i g

/-- A leg finishes OK; for a READ the bytes received become the slot's payload (R48). -/
def State.finishOk (s : State) (i : SlotId) (g : Seg) (bytes : List Byte) : State :=
  (s.modSlot i fun t =>
    match t.exchange with
    | some { direction := .dirIn, .. } => { t with payload := some bytes }
    | _ => t).finishLeg i g .ok

/-- What the dispatcher decides of a leg whose frame has ended: the first row of R47's table that applies. -/
inductive LegDecision where
  | finishLate
  | finishOk
  | finish (o : LegOutcome)
  | retry
  | failover (b : Seg)
  deriving DecidableEq, Repr

/-- The first row of R47's table that applies to a leg with a frame outcome. -/
def State.legDecision (s : State) (i : SlotId) (l : Leg) (o : LegOutcome) : LegDecision :=
  let t := s.slot i
  if t.deadline = .passed then (if o = .ok then .finishLate else .finish .expired)
  else if o = .ok then .finishOk
  else if t.abortPending then .finish o
  else if o.retryable ∧ 0 < l.retriesLeft then .retry
  else match s.failoverTo i l o with
    | some b => .failover b
    | none => .finish o

/-- The dispatcher carries out its decision on the leg on segment `g` (R17, R47 to R52). -/
def State.applyDecision (s : State) (i : SlotId) (g : Seg) (bytes : List Byte) : LegDecision → State
  | .finishLate => (s.modSlot i fun t => { t with late := true }).finishOk i g bytes
  | .finishOk => s.finishOk i g bytes
  | .finish o => s.finishLeg i g o
  | .retry => s.retry i g
  | .failover b => s.failover i g b

/-- The frame of the ON_WIRE leg on segment `g` has ended: the slot's last ended segment is set, and the dispatcher
decides the leg (R2, R47). -/
def State.legFrameEnded (s : State) (i : SlotId) (g : Seg) (o : LegOutcome) (bytes : List Byte) : State :=
  match (s.slot i).legOn g with
  | some l =>
    if l.state = .onWire then
      let s := s.modSlot i fun t => { t with lastEnded := some g }
      s.applyDecision i g bytes (s.legDecision i l o)
    else s
  | none => s

/-- A WAITING leg displaced from the queue of segment `g`: it fails over, or finishes with the cause (R55). -/
def State.displaceLeg (s : State) (g : Seg) (cause : LegOutcome) (i : SlotId) : State :=
  match (s.slot i).legOn g with
  | some l =>
    match s.failoverTo i l cause with
    | some b => (s.leaveQueue i g).failover i g b
    | none => s.finishWaiting i g cause
  | none => s.leaveQueue i g

/-- Every leg of a segment's queue is displaced, from the head to the tail (R55). -/
def State.displaceQueue (s : State) (g : Seg) (cause : LegOutcome) : State :=
  (s.queue g).foldl (fun s i => s.displaceLeg g cause i) s

/-! ### Holds (R107 to R118) -/

/-- The named set of a HOLD slot (section 6.2). -/
def Slot.namedSet (t : Slot) : SegSet :=
  match t.args with
  | some (.hold m) => m
  | _ => 0

/-- The own set of a HOLD slot (section 6.2). -/
def Slot.ownSet (t : Slot) : SegSet :=
  match t.progress with
  | some (.hold p) => p.own
  | _ => 0

/-- The granted set of a HOLD slot (section 6.2). -/
def Slot.grantedSet (t : Slot) : SegSet :=
  match t.progress with
  | some (.hold p) => p.granted
  | _ => 0

/-- The LIVE HOLDs whose named set includes segment `g`, in arrival order (R110; log entry 11). -/
def State.liveHoldsNaming (s : State) (g : Seg) : List SlotId :=
  s.slotsInOrder fun t => t.state = .live ∧ t.kind = some .hold ∧ inSet t.namedSet g

/-- The segment's hold fields return to NONE, holder and hold slot absent, hold timer stopped. -/
def State.clearHold (s : State) (g : Seg) : State := s.modSeg g fun x => { x with hold := .none }

/-- Each listed segment that is DRAINING or HELD by ring `r` returns to NONE. -/
def State.clearHoldsOf (s : State) (r : Ring) (gs : List Seg) : State :=
  gs.foldl (fun s g => if (s.seg g).hold.holder = some r then s.clearHold g else s) s

/-- A LIVE HOLD ends without its grant: its own set returns to NONE and it completes with the status (R110). -/
def State.endHold (s : State) (status : Status) (i : SlotId) : State :=
  let t := s.slot i
  if t.state = .live ∧ t.kind = some .hold then
    match t.ring with
    | some r => (s.clearHoldsOf r (setMembers t.ownSet)).answer i status
    | none => s.answer i status
  else s

/-- The completion ring a request ring is bound to (R121). -/
def State.ringCq (s : State) (r : Ring) : Option Cq := (s.ring r).config.map RingConfig.cq

/-- The status a lost hold's LIVE HOLD completes with (R110). -/
def HoldLoss.status : HoldLoss → Status
  | .expired => .outcome .expired
  | .fault => .outcome .segmentFault
  | .stopped => .outcome .segmentStopped
  | .reset => .outcome .segmentReset

/-- The HOLD_LOST notice to the holder ring's completion ring (R111, R112). -/
def State.postHoldLost (s : State) (g : Seg) (why : HoldLoss) (r : Ring) : State :=
  match s.ringCq r with
  | some c => s.postNotice c (.holdLost g why r)
  | none => s

/-- Segment `g`, held by ring `r`, is in the own set of a LIVE HOLD (R111, R112). -/
def State.inLiveOwnSet (s : State) (g : Seg) (r : Ring) : Bool :=
  (s.liveHoldsNaming g).any fun i => (s.slot i).ring = some r ∧ inSet (s.slot i).ownSet g

/-- The LIVE HOLDs that the loss of segment `g` ends: each one that names it, whoever holds it then; by an expiry, each one of the
ring that held it (R110; log entry 13). -/
def State.holdsLost (s : State) (g : Seg) (why : HoldLoss) : List SlotId :=
  if why = .expired then (s.liveHoldsNaming g).filter fun i => (s.slot i).ring = (s.seg g).hold.holder
  else s.liveHoldsNaming g

/-- A segment is lost by expiry, fault, stop or reset: its hold fields are cleared, a HELD segment in no LIVE HOLD's own set posts
HOLD_LOST, and the LIVE HOLDs that name the segment end (R110 to R112). -/
def State.loseHold (s : State) (g : Seg) (why : HoldLoss) : State :=
  let holds := s.holdsLost g why
  let t := match (s.seg g).hold with
    | .held r _ => if s.inLiveOwnSet g r then s.clearHold g else (s.clearHold g).postHoldLost g why r
    | .draining _ _ => s.clearHold g
    | .none => s
  holds.foldl (fun s i => s.endHold why.status i) t

/-- The segment is HELD by ring `r` with its hold timer started from hold_limit (R108, R109). -/
def State.grantHold (s : State) (g : Seg) (r : Ring) : State :=
  s.modSeg g fun x => { x with hold := .held r s.holdLimit }

/-- A HOLD whose granted set equals its named set completes OK (R108, R109). -/
def State.checkHoldGranted (s : State) (i : SlotId) : State :=
  if (s.slot i).grantedSet = (s.slot i).namedSet then s.answer i (.outcome .ok) else s

/-- A frame holds a segment back from a HOLD of ring `r`: a dormancy command, or a frame of another ring (R108). -/
def State.heldBackFrom (s : State) (g : Seg) (r : Ring) : Bool :=
  match (s.seg g).frame with
  | none => false
  | some f => match f.carrier with
    | .dormancy _ => true
    | .exchange i => (s.slot i).ring ≠ some r

/-- A segment joins the own set or the granted set of a HOLD slot, or both (R108, R109). -/
def State.joinHoldSets (s : State) (i : SlotId) (g : Seg) (own granted : Bool) : State :=
  s.modSlot i fun t =>
    { t with progress := some (.hold {
        own := if own then setWith t.ownSet g else t.ownSet
        granted := if granted then setWith t.grantedSet g else t.grantedSet }) }

/-- The segment is DRAINING, and no frame holds it back any more (R109). -/
def State.grantDue (s : State) (g : Seg) : Bool :=
  match (s.seg g).hold with
  | .draining r _ => !s.heldBackFrom g r
  | .none | .held _ _ => false

/-- A DRAINING segment becomes HELD and joins its HOLD's granted set; the HOLD completes OK when that was its last segment
(R109). -/
def State.grantDrained (s : State) (g : Seg) : State :=
  match (s.seg g).hold with
  | .draining r i => ((s.grantHold g r).joinHoldSets i g false true).checkHoldGranted i
  | .none | .held _ _ => s

/-! ### Frames (R64 to R76, R81) -/

/-- A frame starts: the lead-in is driven (R64, R65, R81). -/
def State.startFrame (s : State) (g : Seg) (f : Frame) : State :=
  s.modSeg g fun x =>
    { x with phase := .leadIn, phaseBits := some Config.leadInBits, frame := some f, line := .sending leadInLevels }

/-- A frame is counted once, at its end, under its outcome (R102). -/
def Segment.countFrame (x : Segment) (o : LegOutcome) : Segment :=
  if o = .ok then { x with framesOk := x.framesOk + 1 } else { x with framesFailed := x.framesFailed + 1 }

/-- The record after a frame that does not leave ACTIVE: GUARD begins, the line released (R75). -/
def Segment.enterGuard (x : Segment) : Segment :=
  { x with
    phase := .guard, phaseBits := some x.config.guard.toNat, frame := none, pendingOutcome := none, run := .notMeasured,
    line := .released }

/-- The pending operation ends: its LIVE request completes with the status and the field becomes NONE (R94). -/
def State.endPendingOp (s : State) (g : Seg) (status : Status) : State :=
  match (s.seg g).pendingOp with
  | none => s
  | some p =>
    let s := s.modSeg g fun x => { x with pendingOp := none }
    if (s.slot p.slot).state = .live then s.answer p.slot status else s

/-- The pending operation ends if it is the named one (R94). -/
def State.endOp (s : State) (g : Seg) (op : SegOp) (status : Status) : State :=
  match (s.seg g).pendingOp with
  | some p => if p.op = op then s.endPendingOp g status else s
  | none => s

/-- The pending operation of a segment, NONE where absent (R94). -/
def Segment.pendingIs (x : Segment) (op : SegOp) : Bool :=
  match x.pendingOp with
  | some p => p.op == op
  | none => false

/-- The block that runs the operation of slot `i` records how far it has come (R13). -/
def State.setProgress (s : State) (i : SlotId) (p : Progress) : State := s.modSlot i fun t => { t with progress := some p }

/-- The engine records how far the named operation has come, if that is the one pending and its request LIVE (R13). -/
def State.recordProgress (s : State) (g : Seg) (op : SegOp) (p : Progress) : State :=
  match (s.seg g).pendingOp with
  | some q => if q.op = op ∧ (s.slot q.slot).state = .live then s.setProgress q.slot p else s
  | none => s

/-- A segment notice joins the backlog named by the segment's notice completion ring field (R103). -/
def State.postSegmentNotice (s : State) (g : Seg) (n : Notice) : State := s.postNotice (s.seg g).config.noticeCq n

/-- The part's own dormancy command ended OK: the segment goes DORMANT with no guard, the notice of an idle timer's command
is posted, a pending SLEEP completes OK, and a waiting leg may wake the segment (R90 row 3). -/
def State.enterDormant (s : State) (g : Seg) (origin : DormancyOrigin) : State :=
  let s := s.modSeg g fun x => { x with lineState := .dormant, phase := .idle, phaseBits := none }
  let s := match origin with
    | .idleTimer => s.postSegmentNotice g (.segmentDormant g)
    | .sleep => s
  (s.endOp g .sleep (.outcome .ok)).wakeOnDemand g

/-- A dormancy command ended uncut: it hands over to a pending STOP, enters DORMANT, or stays ACTIVE (R90 rows 2 to 4). -/
def State.dormancyEnded (s : State) (g : Seg) (origin : DormancyOrigin) (o : LegOutcome) : State :=
  if (s.seg g).pendingIs .stop then s
  else if o = .ok then s.enterDormant g origin
  else match origin with
    | .sleep => s.endOp g .sleep (.outcome .readback)
    | .idleTimer => s

/-- The frame in progress ends uncut with its outcome: it is counted, GUARD begins, and the outcome goes to the dispatcher
or, for a dormancy command, to the engine (R72, R81, R102). -/
def State.endFrame (s : State) (g : Seg) (o : LegOutcome) (bytes : List Byte) : State :=
  match (s.seg g).frame with
  | none => s
  | some f =>
    let s := s.modSeg g fun x => (x.countFrame o).enterGuard
    match f.carrier with
    | .exchange i => s.legFrameEnded i g o bytes
    | .dormancy origin => s.dormancyEnded g origin o

/-- The frame in progress, if any, is cut: the line is released, the frame is counted as failed and a leg is decided with
the cause (R74, R57, R58). -/
def State.cutFrame (s : State) (g : Seg) (cause : LegOutcome) : State :=
  match (s.seg g).frame with
  | none => s
  | some f =>
    let s := s.modSeg g fun x =>
      { x.countFrame cause with frame := none, pendingOutcome := none, line := .released }
    match f.carrier with
    | .exchange i => s.legFrameEnded i g cause []
    | .dormancy _ => s

/-- The record with the line released, no phase, frame, pulse or timer running (R86 steps 1 and 2, R96 step 1). -/
def Segment.quiet (x : Segment) : Segment :=
  { x with
    phase := .idle, phaseBits := none, frame := none, pendingOutcome := none, wakePulse := none, idleTimer := .stopped,
    settleTimer := .stopped, run := .notMeasured, line := .released }

/-- The segment enters FAULTED, in the six steps of R86. -/
def State.enterFaulted (s : State) (g : Seg) (reason : FaultReason) : State :=
  let s := s.cutFrame g .segmentFault
  let s := s.modSeg g fun x => { x.quiet with lineState := .faulted reason }
  let s := s.postSegmentNotice g (.segmentFaulted g reason)
  let s := s.displaceQueue g .segmentFault
  let s := s.loseHold g .fault
  s.endPendingOp g (.outcome .segmentFault)

/-- The segment with one more line event (R102). -/
def Segment.countLineEvent (x : Segment) : Segment := { x with lineEvents := x.lineEvents + 1 }

/-- A foreign master is found: a line event, and FAULTED with reason FOREIGN (R83). -/
def State.foreignMaster (s : State) (g : Seg) : State := (s.modSeg g Segment.countLineEvent).enterFaulted g .foreign

/-- The segment has entered IDLE or GUARD with its line at the level carried in: a dominant one that meets the limit of 10 bit
times meets it at the entry (R82, R83). -/
def State.enterMeasured (s : State) (carried : CarriedLevel) : State :=
  if carried.dominant < Config.foreignBits then s else s.foreignMaster carried.seg

/-- A stop acts: steps 1 to 4 of R96; the STOP request is completed by the caller. -/
def State.stopSegment (s : State) (g : Seg) : State :=
  let s := s.modSeg g Segment.quiet
  let s := s.displaceQueue g .segmentStopped
  let s := s.loseHold g .stopped
  s.modSeg g fun x => { x.quiet with lineState := .off }

/-- The segment is DRAINING (R78). -/
def Hold.isDraining : Hold → Bool
  | .draining _ _ => true
  | .none | .held _ _ => false

/-- A STOP that waited for its frame may act: no frame in progress, and the hold grant of that frame's end made (R96). -/
def Segment.stopMayAct (x : Segment) : Bool := x.pendingIs .stop && x.frame.isNone && !x.hold.isDraining

/-- A STOP that waited for its frame acts, and its request completes OK (R96). -/
def State.actStop (s : State) (g : Seg) : State := (s.stopSegment g).endOp g .stop (.outcome .ok)

/-- The segment has entered GUARD with its line at the level carried in. A dominant one of 10 bit times or more is a foreign master
at the entry, which comes after what the frame's end has still to do before its guard: the hold grant, then the stop, which takes
the segment OFF and drops the level (R64, R82, R83, R96, R109). -/
def State.enterGuardMeasured (s : State) (carried : CarriedLevel) : State :=
  if carried.dominant < Config.foreignBits then s
  else
    let t := if s.grantDue carried.seg then s.grantDrained carried.seg else s
    if (t.seg carried.seg).stopMayAct then t.actStop carried.seg else t.enterMeasured carried

/-- SEGMENT_RESET of a segment, steps 1 to 5 of R97; the request itself is completed by the caller. -/
def State.resetSegment (s : State) (g : Seg) : State :=
  let s := s.cutFrame g .segmentReset
  let s := s.modSeg g Segment.quiet
  let s := s.displaceQueue g .segmentReset
  let s := s.loseHold g .reset
  let s := s.endPendingOp g (.outcome .segmentReset)
  s.modSeg g fun x => { x.quiet with lineState := .off }

/-! ### The idle timer (R89) -/

/-- The five conditions under which the idle timer runs (R89). -/
def Segment.idleRuns (x : Segment) (queue : List SlotId) : Bool :=
  x.config.idleToDormant ≠ 0 && x.lineState = .active && x.phase = .idle && queue.isEmpty && x.hold = .none &&
    x.pendingOp.isNone

/-- The idle timer as R89 has it: running from idle_to_dormant while the five conditions hold, else stopped. -/
def Segment.idleTimerFor (x : Segment) (queue : List SlotId) : Timer :=
  if x.idleRuns queue then .running (x.config.idleToDormant.toNat * Config.usPerMs) else .stopped

/-- Every segment's idle timer brought to what R89 asks for, at the end of a step. -/
def State.refreshIdle (s : State) : State :=
  { s with segs := Vector.ofFn fun g => { s.seg g with idleTimer := (s.seg g).idleTimerFor (s.queue g) } }

/-- The outcome of a step that may have started or stopped an idle timer. -/
def settled (s : State) : Host.Outcome State Fault Refusal := .next s.refreshIdle

/-! ### The line watch (R82) -/

/-- The recessive run once the released line is at a level: a dominant level breaks it, a recessive one lets it count (R73,
R88). -/
def runAt : Level → RecessiveRun
  | .dominant => .interrupted
  | .recessive => .counting

/-- What a dominant level is measured for (R82). -/
inductive DominantWatch where
  | nothing
  | noiseAndForeign
  | readback
  | stuck
  | pulse
  deriving DecidableEq, Repr

/-- What the line watch measures a dominant level for in the present line state and frame phase (R82). -/
def Segment.watch (x : Segment) : DominantWatch :=
  match x.lineState with
  | .off | .faulted _ => .nothing
  | .syncing | .waking => .stuck
  | .dormant => if x.wakePulse.isSome then .nothing else .pulse
  | .active => match x.phase with
    | .idle | .guard => .noiseAndForeign
    | .leadIn | .header | .gap | .responseOut => .readback
    | .ackWait | .responseIn | .recover => .stuck

/-! ### Slot allowance (R4) -/

/-- held(r): the slots in FETCHING, LIVE or DONE whose ring is r (R4). -/
def State.held (s : State) (r : Ring) : Nat :=
  ((List.finRange 64).filter fun i => (s.slot i).state ≠ .free ∧ (s.slot i).ring = some r).length

/-- A ring counts as configured while it is ACTIVE, ERRORED or DELETING (R4). -/
def RequestRing.configured (q : RequestRing) : Bool := q.state ≠ .unconfigured

/-- A ring's reserve, 0 while it is UNCONFIGURED (R4, R6). -/
def RequestRing.reserve (q : RequestRing) : Nat :=
  if q.configured then (match q.config with | some c => c.reserve | none => 0) else 0

/-- A ring's cap, 0 while it is UNCONFIGURED. -/
def RequestRing.cap (q : RequestRing) : Nat :=
  if q.configured then (match q.config with | some c => c.cap | none => 0) else 0

/-- A ring's size, 0 while it is absent. -/
def RequestRing.size (q : RequestRing) : Nat :=
  match q.config with
  | some c => c.size
  | none => 0

/-- The sum of the reserves of the configured rings (R4). -/
def State.reserveSum (s : State) : Nat := ((List.finRange 8).map fun r => (s.ring r).reserve).sum

/-- 64 minus the reserve sum (R4). -/
def State.sharedPool (s : State) : Nat := Config.slotCount - s.reserveSum

/-- beyond(r): what a ring holds beyond its reserve (R4). -/
def State.beyond (s : State) (r : Ring) : Nat := s.held r - (s.ring r).reserve

/-- Shared in use: the sum of beyond(r) over all rings (R4). -/
def State.sharedInUse (s : State) : Nat := ((List.finRange 8).map fun r => s.beyond r).sum

/-- Ring r has a slot allowance (R4). -/
def State.hasAllowance (s : State) (r : Ring) : Bool :=
  (s.ring r).configured && s.held r < (s.ring r).cap &&
    (s.held r < (s.ring r).reserve || s.sharedInUse < s.sharedPool)

/-- The lowest-numbered FREE slot (R5). -/
def State.lowestFree (s : State) : Option SlotId := (List.finRange 64).find? fun i => (s.slot i).state = .free

/-! ### Request rings (R124, R127, R128, R119) -/

/-- The pending count of a ring (R124). -/
def RequestRing.pendingCount (q : RequestRing) : Nat := (q.producer + q.size - q.consumer) % q.size

/-- Ring r is eligible for a fetch (R124). -/
def State.eligible (s : State) (r : Ring) : Bool :=
  s.enable && (s.ring r).state = .active && 1 ≤ (s.ring r).pendingCount && s.hasAllowance r &&
    (match s.fetch with | some f => f.ring ≠ r | none => true)

/-- A ring that has just become ACTIVE with the given configuration (R122). -/
def RequestRing.created (c : RingConfig) : RequestRing where
  state := .active
  config := some c
  producer := 0
  consumer := 0
  error := none

/-- A completion ring that has just become ACTIVE with the given configuration (R131). -/
def CompletionRing.created (c : CqConfig) : CompletionRing :=
  { CompletionRing.empty with state := .active, config := some c, armed := true }

/-- The read of the fetch in flight ended with an error or a timeout (R128). -/
def State.fetchFailed (s : State) (f : Fetch) (reason : FetchFailure) : State :=
  let s := { s with fetch := none, read := .idle }.freeSlotFrom .fetching f.slot
  if f.discard then s
  else (s.modRing f.ring fun q => { q with state := .errored, error := some reason }).postNotice 0 (.ringError f.ring reason)

/-- Ring r holds no slots: none of its slots is FETCHING, LIVE or DONE, and no fetch is in flight for it (R119). -/
def State.holdsNoSlot (s : State) (r : Ring) : Bool :=
  s.held r == 0 && (match s.fetch with | some f => f.ring ≠ r | none => true)

/-- The LIVE RING_DELETE slot that names ring r (R147). -/
def State.deletionOf (s : State) (r : Ring) : Option SlotId :=
  (List.finRange 64).find? fun i =>
    match (s.slot i).args with
    | some (.ringDelete b) => (s.slot i).state = .live && (s.slot i).kind = some .ringDelete && ringOf b = r
    | _ => false

/-- The deletion of ring r completes: the ring becomes UNCONFIGURED with the values of a reset (log entry 19), and its
RING_DELETE completes OK (R119). -/
def State.completeDeletion (s : State) (r : Ring) : State :=
  let s := s.setRing r RequestRing.empty
  match s.deletionOf r with
  | some i => s.answer i (.outcome .ok)
  | none => s

/-! ### Completion rings (R133 to R141) -/

/-- A completion ring's size, 0 while absent. -/
def CompletionRing.size (q : CompletionRing) : Nat :=
  match q.config with
  | some c => c.size
  | none => 0

/-- A completion ring's base address, 0 while absent. -/
def CompletionRing.base (q : CompletionRing) : Addr :=
  match q.config with
  | some c => c.base
  | none => 0

/-- A completion ring's coalescing count. -/
def CompletionRing.count (q : CompletionRing) : Nat :=
  match q.config with
  | some c => c.count
  | none => 0

/-- A completion ring's coalescing delay, in us. -/
def CompletionRing.delay (q : CompletionRing) : Nat :=
  match q.config with
  | some c => c.delay
  | none => 0

/-- The head of an ACTIVE ring's backlog may be written while unreleased is below size (R133). -/
def CompletionRing.writable (q : CompletionRing) : Bool :=
  q.state = .active && !q.backlog.isEmpty && q.unreleased < q.size

/-- A message is sent for ring c: disarmed, count 0, timer stopped, and the host port is asked for the message (R141). -/
def State.sendMessage (s : State) (c : Cq) : State :=
  let s := s.modCq c fun q => { q with armed := false, sinceMessage := 0, delayTimer := .stopped }
  { s with msgPending := s.msgPending.set c.val true c.isLt }

/-- Ring c's delay timer runs out: an armed ring sends its message, another stops (R140). -/
def State.delayRunsOut (s : State) (c : Cq) : State :=
  if (s.cq c).armed then s.sendMessage c else s.modCq c fun q => { q with delayTimer := .stopped }

/-- Ring c's delay timer starts with the coalescing delay; a delay of 0 runs out as it starts (R140). -/
def State.startDelay (s : State) (c : Cq) : State :=
  if (s.cq c).delay = 0 then s.delayRunsOut c
  else s.modCq c fun q => { q with delayTimer := .running q.delay }

/-- An entry has been written to ring c: it is counted, and coalescing acts (R140). -/
def State.entryWritten (s : State) (c : Cq) : State :=
  let s := s.modCq c fun q => { q with sinceMessage := q.sinceMessage + 1 }
  if (s.cq c).armed ∧ (s.cq c).count ≤ (s.cq c).sinceMessage then s.sendMessage c
  else if (s.cq c).sinceMessage = 1 then s.startDelay c
  else s

/-- An accepted CQ_RELEASE re-arms ring c (R141). -/
def State.rearm (s : State) (c : Cq) : State :=
  if (s.cq c).sinceMessage = 0 then s.modCq c fun q => { q with armed := true }
  else if (s.cq c).count ≤ (s.cq c).sinceMessage then s.sendMessage c
  else (s.modCq c fun q => { q with armed := true }).startDelay c

/-- The record of the head posting, built for the write (R133, R171, R172). -/
def State.postingRecord (s : State) (c : Cq) : Posting → List Byte
  | .slot i =>
    let r := (s.slot i).result.getD (plainResult (.outcome .ok) 0 zeroArea)
    completionRecord (s.slot i) r (completionFlags r (s.cq c).phase)
  | .notice n => noticeRecord n (noticeFlags (s.cq c).noticesLost (s.cq c).phase)

/-- The posting at the head leaves the backlog: its slot becomes FREE, or a notice is no longer waiting and takes the
NOTICES_LOST mark with it (R133, R135). -/
def State.takePosting (s : State) (c : Cq) : Posting → State
  | .slot i => (s.modCq c fun q => { q with backlog := q.backlog.tail }).freeSlotFrom .done i
  | .notice _ => s.modCq c fun q =>
      { q with backlog := q.backlog.tail, noticesWaiting := q.noticesWaiting - 1, noticesLost := false }

/-- The write address of ring c's next entry (R131). -/
def CompletionRing.entryAddr (q : CompletionRing) : Addr :=
  q.base + BitVec.ofNat 64 (Config.completionBytes * q.producer)

/-- The producer index advances; when it wraps to 0 the phase changes; one more entry is unreleased (R133). -/
def CompletionRing.advance (q : CompletionRing) : CompletionRing :=
  { q with
    producer := if q.producer + 1 < q.size then q.producer + 1 else 0
    phase := if q.producer + 1 < q.size then q.phase else !q.phase
    unreleased := q.unreleased + 1 }

/-- A backlog is discarded from head to tail: its DONE slots become FREE (R138, R149). -/
def State.discardPostings (s : State) (l : List Posting) : State :=
  l.foldl (fun s p => match p with | .slot i => s.freeSlotFrom .done i | .notice _ => s) s

/-- A record write to ring c cannot be issued: the five steps of R138. -/
def State.writeFailed (s : State) (c : Cq) : State :=
  let backlog := (s.cq c).backlog
  let s := s.modCq c fun q =>
    { q with
      state := .errored, backlog := [], noticesWaiting := 0, noticesLost := false, delayTimer := .stopped, sinceMessage := 0,
      armed := false }
  let s := s.discardPostings backlog
  if c = 0 then s else s.postNotice 0 (.cqError c)

/-! ### The bus-master arbiter (R165, R168) -/

/-- The message number of completion ring c: c modulo the number enabled (R168). -/
def messageNumber (p : PcieConfig) (c : Cq) : Cq := Fin.ofNat 4 (c.val % p.enabled)

/-- A message number is masked (R168). -/
def numberMasked (p : PcieConfig) (n : Cq) : Bool := p.mask.getLsbD n.val

/-- Messages and bus mastering are both enabled (R168). -/
def sendsMessages (p : PcieConfig) : Bool := p.messages && p.busMaster

/-- The message held for number n is completion ring c's, and the number is unmasked (R168). -/
def State.heldReady (s : State) (p : PcieConfig) (c n : Cq) : Bool := s.msgHeld.get n = some c && !numberMasked p n

/-- The number under which completion ring c's message waits for its turn: the lowest unmasked one that holds a message of the
ring, or else the ring's own, where the ring has asked (R168; log entry 42). -/
def State.ringMessage (s : State) (p : PcieConfig) (c : Cq) : Option Cq :=
  match (List.finRange 4).find? (s.heldReady p c) with
  | some n => some n
  | none => if s.msgPending.get c then some (messageNumber p c) else none

/-- The number whose message goes next: messages go in the order of their completion rings, 0 to 3 (R165). -/
def State.nextMessage (s : State) (p : PcieConfig) : Option Cq := (List.finRange 4).findSome? (s.ringMessage p)

/-- The lowest completion ring that the message for number n stands for: the ring of the held one, or one that has asked for the
number (R168; log entry 17). -/
def State.messageRing (s : State) (p : PcieConfig) (n : Cq) : Option Cq :=
  (List.finRange 4).find? fun c => s.msgHeld.get n = some c || s.msgPending.get c && messageNumber p c = n

/-- The ring unit has a read waiting. -/
def State.readWaits (s : State) : Bool :=
  match s.read with
  | .waiting _ => true
  | _ => false

/-- An interrupt message waits for its turn: one a ring asked for, or a held one whose number is unmasked (R168; log
entry 16). -/
def State.messageWaits (s : State) (p : PcieConfig) : Bool := (s.nextMessage p).isSome

/-- The completion writer's side has a record write or a message waiting. -/
def State.writerWaits (s : State) (p : PcieConfig) : Bool := s.write.isSome || s.messageWaits p

/-- It is the ring unit's turn: its read waits, and the other side does not wait or was served last (R165). -/
def State.readTurn (s : State) (p : PcieConfig) : Bool :=
  s.readWaits && (!s.writerWaits p || s.arbLast = .completionWriter)

/-- It is the completion writer's turn against the ring unit: no read waits, or the ring unit was served last (R165). -/
def State.writerTurn (s : State) : Bool := !s.readWaits || s.arbLast = .ringUnit

/-! ### Resets (R7, R164) -/

/-- A segment record after a function reset: configuration, configured and counters kept (R79). -/
def Segment.functionReset (x : Segment) : Segment :=
  { x.quiet with lineState := .off, pendingOp := none, hold := .none }

/-- A function reset begins: every block takes its function-reset values (R164 and the rules of its table). What is already
on the link stays there. -/
def State.beginFunctionReset (s : State) : State :=
  { State.reset with
    resetting := some .function
    lifetimes := s.lifetimes
    map := s.map
    segs := Vector.ofFn fun g => (s.seg g).functionReset
    holdLimit := s.holdLimit
    link := s.link
    pending := s.pending }

end Sys2Proof.Machine
end

