-- ==== Sys2Proof/Machine/Completion.lean ====
section
/-! DEFINITION. The completion writer's steps: RECORD_WRITE_REQUEST, RECORD_WRITE_ISSUE, INTERRUPT_MESSAGE_ISSUE,
COALESCING_DELAY_EXPIRY. -/

namespace Sys2Proof.Machine

/-- The completion rings in rotation, beginning with the one after the ring served last (R133). -/
def cqsAfter (c : Cq) : List Cq := (List.range 4).map fun k => Fin.ofNat 4 (c.val + 1 + k)

/-- The ring the completion writer serves next: the first in rotation whose head is writable (R133). -/
def State.nextWritable (s : State) : Option Cq := (cqsAfter s.cqLast).find? fun c => (s.cq c).writable

/-- With no record write outstanding, the completion writer asks for the write of the next writable head (R133; log
entry 15). -/
def execRecordWriteRequest (s : State) : Host.Outcome State Fault Refusal :=
  .next (match s.write, s.nextWritable with
    | none, some c => { s with write := some { cq := c, addr := (s.cq c).entryAddr }, cqLast := c }
    | _, _ => s)

/-- The head of ring c's backlog is written: the record goes onto the link, the posting leaves, the indices and the phase
advance, and coalescing acts (R133, R140, R167). -/
def State.writeRecord (s : State) (c : Cq) (a : Addr) (p : Posting) : State :=
  let record := s.postingRecord c p
  let s := { s with link := s.link ++ [LinkOp.recordWrite a record] }
  ((s.takePosting c p).modCq c CompletionRing.advance).entryWritten c

/-- The arbiter gives the record write its turn, after any message that waits with it (R165, R167; log entries 14, 16). -/
def execRecordWriteIssue (config : PcieConfig) (s : State) : Host.Outcome State Fault Refusal :=
  .next (match s.write with
    | none => s
    | some w =>
      if s.writerTurn ∧ s.messageWaits config = false ∧ (s.cq w.cq).writable then
        let s := { s with write := none, arbLast := .completionWriter }
        if config.busMaster then
          match (s.cq w.cq).backlog.head? with
          | some p => s.writeRecord w.cq w.addr p
          | none => s
        else s.writeFailed w.cq
      else s)

/-- The turn of message number n: every waiting request for it is one message, merged with the one held for it. That message
is issued where it may be sent and is unmasked, held while masked for the lowest ring it stands for, and dropped otherwise (R168;
log entry 17). -/
def State.takeMessage (s : State) (p : PcieConfig) (n : Cq) : State :=
  { s with
    link := if sendsMessages p ∧ numberMasked p n = false then s.link ++ [LinkOp.message n.val] else s.link
    msgPending := Vector.ofFn fun c => s.msgPending.get c && messageNumber p c ≠ n
    msgHeld := s.msgHeld.set n.val
      (if numberMasked p n && (sendsMessages p || (s.msgHeld.get n).isSome) then s.messageRing p n else none) n.isLt }

/-- The arbiter gives the next interrupt message its turn, in the order of the completion rings, held ones among them (R165, R168;
log entries 7, 16, 17, 42). -/
def execInterruptMessageIssue (config : PcieConfig) (s : State) : Host.Outcome State Fault Refusal :=
  .next (match s.nextMessage config with
    | none => s
    | some n => if s.writerTurn then { s with arbLast := .completionWriter }.takeMessage config n else s)

/-- Ring c's delay timer runs out (R140). -/
def execCoalescingDelayExpiry (c : Cq) (s : State) : Host.Outcome State Fault Refusal :=
  .next (match (s.cq c).delayTimer with
    | .running _ => s.delayRunsOut c
    | .stopped => s)

end Sys2Proof.Machine
end

