-- ==== Sys2Proof/Machine/Acceptance.lean ====
section
/-! DEFINITION. Acceptance of a READ or WRITE record: node map resolution, path choice, legs and deadline (R11, R12, R15,
R30 to R37). -/

namespace Sys2Proof.Machine

/-- An entry holds a node address (R30). -/
def MapEntry.covers (e : MapEntry) (node : Half) : Bool :=
  e.valid && e.first.toNat ≤ node.toNat && node.toNat ≤ e.last.toNat

/-- The matching entry: the first valid one, in ascending order, whose range holds the address (R30). -/
def State.matchingEntry (s : State) (node : Half) : Option MapEntry :=
  ((List.finRange 32).find? fun e => (s.map.get e).covers node).map fun e => s.map.get e

/-- The entry permits the request's kind; a FAN entry serves WRITE only (R31). -/
def MapEntry.permits (e : MapEntry) (k : Kind) : Bool :=
  match k with
  | .read => e.readOk && e.kind ≠ .fan
  | .write => e.writeOk
  | _ => false

/-- The frame identifier: identifier base + (node address - first address) (R32). -/
def MapEntry.frameId (e : MapEntry) (node : Half) : Nat := e.idBase.toNat + (node.toNat - e.first.toNat)

/-- What path choice gives an exchange: its target, its legs, and whether it starts on the secondary (R34 to R36). -/
structure Route where
  target : Target
  legs : List Leg
  alternate : Bool
  deriving DecidableEq, Repr

/-- A leg created WAITING (R12). -/
def waitingLeg (g : Seg) (path : Option Path) (budget : Nat) : Leg where
  segment := g
  state := .waiting
  path := path
  retriesLeft := budget
  attempts := 0
  lastFrameSeg := none
  outcome := none

/-- A FAN leg on a segment in the given line state: WAITING where usable, else created FINISHED (R36). -/
def fanLeg (g : Seg) (line : LineState) (budget : Nat) : Leg :=
  match line with
  | .off => (waitingLeg g none budget).finish .segmentOff
  | .faulted _ => (waitingLeg g none budget).finish .segmentFault
  | .syncing | .active | .dormant | .waking => waitingLeg g none budget

/-- Path choice for an entry, against the line states as they stand (R34, R35, R36). -/
def State.pathChoice (s : State) (e : MapEntry) (budget : Nat) : Except Status Route :=
  match e.kind with
  | .single =>
    match (s.seg e.segA).lineState with
    | .off => .error (.outcome .segmentOff)
    | .faulted _ => .error (.outcome .segmentFault)
    | .syncing | .active | .dormant | .waking => .ok ⟨.single e.segA, [waitingLeg e.segA none budget], false⟩
  | .pair =>
    if (s.seg e.segA).lineState.usable then
      .ok ⟨.pair e.segA e.segB, [waitingLeg e.segA (some .primary) budget], false⟩
    else if (s.seg e.segB).lineState.usable then
      .ok ⟨.pair e.segA e.segB, [waitingLeg e.segB (some .secondary) budget], true⟩
    else .error .noPath
  | .fan =>
    .ok ⟨.fan e.fanMask, (setMembers e.fanMask).map (fun g => fanLeg g (s.seg g).lineState budget), false⟩

/-- The deadline at acceptance: ABSENT for a lifetime of 0, else RUNNING (R15). -/
def deadlineFor (lifetime : Half) : Deadline :=
  if lifetime = 0 then .absent else .running lifetime.toNat

/-- The deadline timer at acceptance (R15). -/
def deadlineTimerFor (lifetime : Half) : Timer :=
  if lifetime = 0 then .stopped else .running (lifetime.toNat * Config.usPerMs)

/-- The exchange fields copied into the slot (R11, R37). -/
def exchangeOf (k : Kind) (rec : Record) (target : Target) (frameId : Nat) : Exchange where
  target := target
  frameId := frameId
  direction := if k = .read then .dirIn else .dirOut
  confirmed := k = .write && frameId ≤ Config.lastConfirmedId
  length := lengthOf rec
  priority := priorityOf rec
  timeoutClass := timeoutClassOf rec
  retryBudget := retryBudgetOf rec

/-- The slot's WAITING legs join their queues one at a time, in leg-list order (R12). -/
def State.joinWaiting (s : State) (i : SlotId) : State :=
  (s.slot i).waitingOn.foldl (fun s g => s.joinQueue i g) s

/-- An exchange that passed its checks: fields copied, deadline set, legs created and handed to the dispatcher. The slot
becomes LIVE, or DONE at once where every leg was created FINISHED (R11, R12, R15). -/
def State.launch (s : State) (i : SlotId) (k : Kind) (rec : Record) (frameId : Nat) (route : Route) : State :=
  let lifetime := s.lifetimes.get (timeoutClassOf rec)
  let s := s.modSlot i fun t =>
    { t with
      state := .live
      exchange := some (exchangeOf k rec route.target frameId)
      payload := if k = .write then some (payloadOf rec) else none
      deadline := deadlineFor lifetime
      deadlineTimer := deadlineTimerFor lifetime
      alternatePath := route.alternate
      failoverUsed := route.alternate
      legs := route.legs }
  (s.joinWaiting i).checkDone i

/-- Checks 4 to 6 of a READ or WRITE record and its acceptance (R9 to R12, R30 to R37). -/
def State.acceptExchange (s : State) (i : SlotId) (k : Kind) (rec : Record) : State :=
  if exchangeHeaderOk rec = false then s.refuse i .badRequest
  else match s.matchingEntry (nodeOf rec) with
    | none => s.refuse i .badTarget
    | some e =>
      if e.permits k = false then s.refuse i .badTarget
      else match s.pathChoice e (retryBudgetOf rec) with
        | .error status => s.refuse i status
        | .ok route => s.launch i k rec (e.frameId (nodeOf rec)) route

end Sys2Proof.Machine
end

