-- ==== Sys2Proof/Machine/Admin.lean ====
section
/-! DEFINITION. The administration requests of ring 0 (chapter Administration Requests). Slot `i` carries the request; its
arguments are already copied. -/

namespace Sys2Proof.Machine

/-- The slot of a request that takes time is LIVE until the operation ends (R13, R143). -/
def State.setLive (s : State) (i : SlotId) : State := s.modSlot i fun t => { t with state := .live }

/-! ### Rings -/

/-- The checks of RING_CREATE (R145). -/
def State.ringCreateChecks (s : State) (a : RingCreateArgs) : List (Bool × Status) :=
  [ (1 ≤ a.ring.toNat && a.ring.toNat ≤ 7, .badRequest),
    (aligned64 a.base, .badRequest),
    (requestSizes.contains a.size.toNat, .badRequest),
    (1 ≤ a.weight.toNat && a.weight.toNat ≤ 15, .badRequest),
    (a.reserve.toNat ≤ 16, .badRequest),
    (1 ≤ a.cap.toNat && a.cap.toNat ≤ 64 && a.reserve.toNat ≤ a.cap.toNat, .badRequest),
    (a.cq.toNat ≤ 3, .badRequest),
    ((s.ring (ringOf a.ring)).state = .unconfigured, .inUse),
    ((s.cq (cqOf a.cq)).state = .active, .notFound),
    (s.reserveSum + a.reserve.toNat + s.sharedInUse ≤ Config.slotCount, .noSpace) ]

/-- The configuration a RING_CREATE gives (R146). -/
def RingCreateArgs.config (a : RingCreateArgs) : RingConfig where
  base := a.base
  size := a.size.toNat
  weight := some a.weight.toNat
  reserve := a.reserve.toNat
  cap := a.cap.toNat
  cq := cqOf a.cq

/-- RING_CREATE (R145, R146). -/
def State.takeRingCreate (s : State) (i : SlotId) (a : RingCreateArgs) : State :=
  match firstFailure (s.ringCreateChecks a) with
  | some status => s.refuse i status
  | none => (s.setRing (ringOf a.ring) (RequestRing.created a.config)).answer i (.outcome .ok)

/-- The checks of RING_DELETE (R147). -/
def State.ringDeleteChecks (s : State) (b : Byte) : List (Bool × Status) :=
  [ (1 ≤ b.toNat && b.toNat ≤ 7, .badRequest),
    ((s.ring (ringOf b)).state ≠ .unconfigured, .notFound),
    ((s.ring (ringOf b)).state ≠ .deleting, .busy) ]

/-- A fetch in flight for ring r is marked for discard (R116 step 2). -/
def State.markDiscard (s : State) (r : Ring) : State :=
  match s.fetch with
  | some f => if f.ring = r then { s with fetch := some { f with discard := true } } else s
  | none => s

/-- A LIVE slot of a deleted ring is flushed (R117). -/
def State.flushSlot (s : State) (j : SlotId) : State :=
  match (s.slot j).kind with
  | some .read | some .write =>
    (s.modSlot j fun t => { t with abortPending := true }).finishWaitingLegs j .flushed
  | some .hold => s.endHold (.outcome .aborted) j
  | _ => s

/-- The LIVE slots of ring r are flushed one at a time, in arrival order (R117). -/
def State.flushRing (s : State) (r : Ring) : State :=
  (s.slotsInOrder fun t => t.state = .live && t.ring = some r).foldl State.flushSlot s

/-- RING_DELETE (R116 to R119, R147). A deletion that does not complete as it is taken has its progress recorded (R13). -/
def State.takeRingDelete (s : State) (i : SlotId) (b : Byte) : State :=
  match firstFailure (s.ringDeleteChecks b) with
  | some status => s.refuse i status
  | none =>
    let r := ringOf b
    let s := (s.setLive i).modRing r fun q => { q with state := .deleting }
    let s := (s.markDiscard r).flushRing r
    let s := s.clearHoldsOf r (List.finRange 8)
    if s.holdsNoSlot r then s.completeDeletion r else s.setProgress i .drainingRing

/-- The checks of CQ_CREATE (R148). -/
def State.cqCreateChecks (s : State) (a : CqCreateArgs) : List (Bool × Status) :=
  [ (1 ≤ a.cq.toNat && a.cq.toNat ≤ 3, .badRequest),
    (aligned64 a.base, .badRequest),
    (completionSizes.contains a.size.toNat, .badRequest),
    (1 ≤ a.count.toNat, .badRequest),
    ((s.cq (cqOf a.cq)).state = .unconfigured, .inUse) ]

/-- The configuration a CQ_CREATE gives (R148). -/
def CqCreateArgs.config (a : CqCreateArgs) : CqConfig where
  base := a.base
  size := a.size.toNat
  count := a.count.toNat
  delay := a.delay.toNat

/-- CQ_CREATE (R148, R131). -/
def State.takeCqCreate (s : State) (i : SlotId) (a : CqCreateArgs) : State :=
  match firstFailure (s.cqCreateChecks a) with
  | some status => s.refuse i status
  | none => (s.setCq (cqOf a.cq) (CompletionRing.created a.config)).answer i (.outcome .ok)

/-- A request ring in state ACTIVE, ERRORED or DELETING is bound to completion ring c (R149). -/
def State.boundTo (s : State) (c : Cq) : Bool :=
  (List.finRange 8).any fun r => (s.ring r).configured && s.ringCq r = some c

/-- A segment's notice completion ring field names completion ring c (R149). -/
def State.namedForNotices (s : State) (c : Cq) : Bool :=
  (List.finRange 8).any fun g => (s.seg g).config.noticeCq = c

/-- The checks of CQ_DELETE (R149). -/
def State.cqDeleteChecks (s : State) (b : Byte) : List (Bool × Status) :=
  [ (1 ≤ b.toNat && b.toNat ≤ 3, .badRequest),
    ((s.cq (cqOf b)).state ≠ .unconfigured, .notFound),
    (!s.boundTo (cqOf b), .inUse),
    (!s.namedForNotices (cqOf b), .inUse) ]

/-- A record write requested for ring c and not yet issued is withdrawn (R149). -/
def State.withdrawWrite (s : State) (c : Cq) : State :=
  match s.write with
  | some w => if w.cq = c then { s with write := none } else s
  | none => s

/-- Completion ring c returns to UNCONFIGURED with the values of a reset; its postings are discarded (R131, R149). -/
def State.deleteCq (s : State) (c : Cq) : State :=
  ((s.setCq c CompletionRing.empty).discardPostings (s.cq c).backlog).withdrawWrite c

/-- CQ_DELETE (R149). -/
def State.takeCqDelete (s : State) (i : SlotId) (b : Byte) : State :=
  match firstFailure (s.cqDeleteChecks b) with
  | some status => s.refuse i status
  | none => (s.deleteCq (cqOf b)).answer i (.outcome .ok)

/-! ### Segments -/

/-- The checks of SEGMENT_CONFIG (R150). -/
def State.segConfigChecks (s : State) (a : SegConfigArgs) : List (Bool × Status) :=
  [ (a.seg.toNat ≤ 7, .badRequest),
    (200 ≤ a.bitTicks.toNat && a.bitTicks.toNat ≤ 20833, .badRequest),
    (4 ≤ a.wbase.toNat && a.wbase.toNat ≤ 63, .badRequest),
    (10 ≤ a.wbyte.toNat && a.wbyte.toNat ≤ 15, .badRequest),
    (4 ≤ a.guard.toNat, .badRequest),
    (1 ≤ a.wakeSettle.toNat, .badRequest),
    (a.wakeOnDemand.toNat ≤ 1, .badRequest),
    (a.noticeCq.toNat ≤ 3, .badRequest),
    ((s.seg (segOf a.seg)).lineState = .off, .inUse) ]

/-- The eight configuration fields of a SEGMENT_CONFIG (R80). -/
def SegConfigArgs.config (a : SegConfigArgs) : SegConfig where
  bitTicks := a.bitTicks
  wbase := a.wbase
  wbyte := a.wbyte
  guard := a.guard
  idleToDormant := a.idleToDormant
  wakeSettle := a.wakeSettle
  wakeOnDemand := a.wakeOnDemand = 1
  noticeCq := cqOf a.noticeCq

/-- SEGMENT_CONFIG (R80, R150). -/
def State.takeSegConfig (s : State) (i : SlotId) (a : SegConfigArgs) : State :=
  match firstFailure (s.segConfigChecks a) with
  | some status => s.refuse i status
  | none =>
    (s.modSeg (segOf a.seg) fun x => { x with configured := true, config := a.config }).answer i (.outcome .ok)

/-- The progress of a segment operation as it becomes pending (R87, R95, R98, R100; log entry 39). -/
def SegOp.firstProgress : SegOp → Progress
  | .start => .synchronizing
  | .stop => .awaitingFrameEnd
  | .sleep => .awaitingIdle
  | .wake => .pulsing

/-- The request's operation becomes pending on the segment, its slot LIVE and its progress recorded (R13, R94). -/
def State.setPending (s : State) (i : SlotId) (g : Seg) (op : SegOp) : State :=
  ((s.setLive i).setProgress i op.firstProgress).modSeg g fun x => { x with pendingOp := some { op := op, slot := i } }

/-- SEGMENT_START on a segment (R87). -/
def State.startSegment (s : State) (i : SlotId) (g : Seg) : State :=
  if (s.seg g).lineState = .off ∧ (s.seg g).configured then
    (s.setPending i g .start).modSeg g fun x => { x with lineState := .syncing, run := .counting }
  else s.refuse i .busy

/-- SEGMENT_STOP on a segment (R95, R96). -/
def State.stopRequest (s : State) (i : SlotId) (g : Seg) : State :=
  if (s.seg g).pendingOp.isSome then s.refuse i .busy
  else match (s.seg g).lineState with
    | .off => s.answer i (.outcome .ok)
    | .faulted _ => (s.modSeg g fun x => { x with lineState := .off }).answer i (.outcome .ok)
    | .active =>
      if (s.seg g).frame.isSome then s.setPending i g .stop else (s.stopSegment g).answer i (.outcome .ok)
    | .syncing | .dormant | .waking => (s.stopSegment g).answer i (.outcome .ok)

/-- SEGMENT_SLEEP on a segment; the checks in the order of R98. -/
def State.sleepRequest (s : State) (i : SlotId) (g : Seg) : State :=
  let x := s.seg g
  if x.pendingOp.isSome then s.refuse i .busy
  else match x.lineState with
    | .off | .syncing | .waking | .faulted _ => s.refuse i .busy
    | .dormant =>
      if x.hold ≠ .none then s.refuse i .conflict
      else if x.wakePulse.isSome then s.refuse i .busy
      else s.answer i (.outcome .ok)
    | .active =>
      if x.hold ≠ .none then s.refuse i .conflict
      else if (s.queue g).isEmpty then s.setPending i g .sleep
      else s.refuse i .busy

/-- SEGMENT_WAKE on a segment; a WAKE adopts an ON_DEMAND pulse (R100). -/
def State.wakeRequest (s : State) (i : SlotId) (g : Seg) : State :=
  let x := s.seg g
  if x.pendingOp.isSome then s.refuse i .busy
  else match x.lineState with
    | .active => s.answer i (.outcome .ok)
    | .dormant =>
      let s := s.setPending i g .wake
      if x.wakePulse.isSome then s else s.startWakePulse g .wake
    | .off | .syncing | .waking | .faulted _ => s.refuse i .busy

/-- A segment number above 7 is refused, any other is handed to its engine (R151). -/
def State.withSegment (s : State) (i : SlotId) (b : Byte) (f : Seg → State) : State :=
  if b.toNat ≤ 7 then f (segOf b) else s.refuse i .badRequest

/-- The checks of SEGMENT_QUERY (R152). -/
def queryChecks (a : SegQueryArgs) : List (Bool × Status) :=
  [ (a.seg.toNat ≤ 7, .badRequest),
    (a.first.toNat ≤ 3, .badRequest),
    (a.second.toNat ≤ 3, .badRequest),
    (a.clear.toNat ≤ 1, .badRequest) ]

/-- SEGMENT_QUERY: the result is taken first, then the selected counters are cleared if asked (R101, R152). -/
def State.takeSegQuery (s : State) (i : SlotId) (a : SegQueryArgs) : State :=
  match firstFailure (queryChecks a) with
  | some status => s.refuse i status
  | none =>
    let g := segOf a.seg
    let area := queryArea (s.seg g) (s.queue g).length a
    (if a.clear = 1 then s.modSeg g fun x => (x.clearCounter a.first).clearCounter a.second else s).answerWith i area

/-! ### Node map -/

/-- The checks of MAP_WRITE (R27); with the valid field no, only the entry number is checked. -/
def mapWriteChecks (a : MapWriteArgs) : List (Bool × Status) :=
  let kind := MapKind.ofCode a.kind
  let usesAB := kind = some .single || kind = some .pair
  (a.entry.toNat ≤ 31, .badRequest) ::
    if a.valid = false then []
    else [
      (kind.isSome, .badRequest),
      (a.first.toNat ≤ a.last.toNat, .badRequest),
      (a.idBase.toNat + (a.last.toNat - a.first.toNat) ≤ Config.lastFrameId, .badRequest),
      (!usesAB || a.segA.toNat ≤ 7, .badRequest),
      (kind ≠ some .pair || a.segB.toNat ≤ 7, .badRequest),
      (kind ≠ some .pair || a.segB ≠ a.segA, .badRequest),
      (kind ≠ some .fan || a.fanMask ≠ 0, .badRequest) ]

/-- The entry an accepted MAP_WRITE stores: fields the kind does not use are zero; an invalid entry is all zero (R25, R28). -/
def MapWriteArgs.stored (a : MapWriteArgs) : MapEntry :=
  if a.valid then
    match MapKind.ofCode a.kind with
    | none => MapEntry.empty
    | some kind =>
      { valid := true
        first := a.first
        last := a.last
        kind := kind
        segA := if kind = .fan then 0 else segOf a.segA
        segB := if kind = .pair then segOf a.segB else 0
        fanMask := if kind = .fan then a.fanMask else 0
        idBase := a.idBase
        readOk := a.readOk
        writeOk := a.writeOk }
  else MapEntry.empty

/-- Replace a node map entry. -/
def State.setEntry (s : State) (e : EntryId) (x : MapEntry) : State := { s with map := s.map.set e.val x e.isLt }

/-- MAP_WRITE (R27, R28, R153). -/
def State.takeMapWrite (s : State) (i : SlotId) (a : MapWriteArgs) : State :=
  match firstFailure (mapWriteChecks a) with
  | some status => s.refuse i status
  | none => (s.setEntry (entryOf a.entry) a.stored).answer i (.outcome .ok)

/-- MAP_READ (R29, R153). -/
def State.takeMapRead (s : State) (i : SlotId) (entry half : Byte) : State :=
  if entry.toNat ≤ 31 ∧ half.toNat ≤ 1 then
    s.answerWith i (imageHalf (s.map.get (entryOf entry)).image half)
  else s.refuse i .badRequest

/-! ### Limits -/

/-- SET_LIMITS (R154). -/
def State.takeSetLimits (s : State) (i : SlotId) (a : SetLimitsArgs) : State :=
  if a.holdLimit = 0 then s.refuse i .badRequest
  else
    { s with lifetimes := #v[a.class0, a.class1, a.class2, a.class3], holdLimit := a.holdLimit }.answer i (.outcome .ok)

end Sys2Proof.Machine
end

