-- ==== Sys2Proof/Machine/Control.lean ====
section
/-! DEFINITION. The control requests ABORT, HOLD and RELEASE (chapter Abort, Hold and Flush). Slot `i` carries the request
and belongs to ring `r`; its arguments are already copied. -/

namespace Sys2Proof.Machine

/-- A slot an ABORT of ring `r` can name: an exchange of that ring with the target tag, in the given state (R104). -/
def Slot.abortMatches (t : Slot) (st : SlotState) (r : Ring) (tag : Half) : Bool :=
  t.state = st && t.ring = some r && (t.kind = some .read || t.kind = some .write) && t.tag = some tag

/-- The target of an ABORT: the oldest LIVE exchange of the ring with the tag (R104). -/
def State.abortTarget (s : State) (r : Ring) (tag : Half) : Option SlotId :=
  (s.slotsInOrder fun t => t.abortMatches .live r tag).head?

/-- On the target, abort-pending is set and the WAITING legs finish ABORTED (R105). -/
def State.abortSlot (s : State) (j : SlotId) : State :=
  (s.modSlot j fun t => { t with abortPending := true }).finishWaitingLegs j .aborted

/-- ABORT (R104, R105). -/
def State.takeAbort (s : State) (i : SlotId) (r : Ring) (tag : Half) : State :=
  match s.abortTarget r tag with
  | some j =>
    let removed := !(s.slot j).waitingOn.isEmpty
    (s.abortSlot j).answer i (if removed then .outcome .ok else .tooLate)
  | none =>
    if (List.finRange 64).any fun j => (s.slot j).abortMatches .done r tag then s.answer i .tooLate
    else s.answer i .notFound

/-- The checks of a HOLD, over its whole named set (R107). -/
def State.holdChecks (s : State) (r : Ring) (named : SegSet) : List (Bool × Status) :=
  let gs := setMembers named
  [ (named ≠ 0, .badRequest),
    (gs.all fun g => (s.seg g).hold.holder.isNone || (s.seg g).hold.holder = some r, .conflict),
    (gs.all fun g => match (s.seg g).hold with | .draining _ _ => false | _ => true, .busy),
    (gs.all fun g => (s.seg g).lineState ≠ .off, .outcome .segmentOff),
    (gs.all fun g => match (s.seg g).lineState with | .faulted _ => false | _ => true, .outcome .segmentFault) ]

/-- A HOLD of ring `r` acts on one named segment (R108). -/
def State.holdSegment (s : State) (i : SlotId) (r : Ring) (g : Seg) : State :=
  match (s.seg g).hold with
  | .held _ _ => s.joinHoldSets i g false true
  | .draining _ _ => s
  | .none =>
    if s.heldBackFrom g r then
      (s.modSeg g fun x => { x with hold := .draining r i }).joinHoldSets i g true false
    else (s.grantHold g r).joinHoldSets i g true true

/-- HOLD (R107, R108). -/
def State.takeHold (s : State) (i : SlotId) (r : Ring) (named : SegSet) : State :=
  match firstFailure (s.holdChecks r named) with
  | some status => s.refuse i status
  | none =>
    let s := s.modSlot i fun t => { t with state := .live, progress := some (.hold { own := 0, granted := 0 }) }
    ((setMembers named).foldl (fun s g => s.holdSegment i r g) s).checkHoldGranted i

/-- RELEASE (R113). -/
def State.takeRelease (s : State) (i : SlotId) (r : Ring) (named : SegSet) : State :=
  if named = 0 then s.refuse i .badRequest
  else
    let gs := setMembers named
    let all := gs.all fun g => (s.seg g).hold.holder = some r
    let s := s.clearHoldsOf r gs
    let holds := s.slotsInOrder fun t =>
      t.state = .live && t.kind = some .hold && t.ring = some r && t.namedSet &&& named ≠ 0
    let s := holds.foldl (fun s j => s.endHold (.outcome .aborted) j) s
    s.answer i (if all then .outcome .ok else .notHeld)

end Sys2Proof.Machine
end

