-- ==== Sys2Proof/Machine/Fetch.lean ====
section
/-! DEFINITION. The ring unit's steps: FETCH_GRANT, READ_ISSUE, FETCH_COMPLETE with acceptance, FETCH_ERROR, FETCH_TIMEOUT,
LATE_READ_COMPLETION, RING_DELETE_COMPLETE. -/

namespace Sys2Proof.Machine

/-! ### Grants -/

/-- The rings after `p` in cyclic order 1 to 7, ending with `p` itself (R125). -/
def ringsAfter (p : Ring) : List Ring :=
  (List.range 7).map fun k => Fin.ofNat 8 ((p.val + k) % 7 + 1)

/-- A ring's weight, 0 where absent (R121). -/
def RequestRing.weight (q : RequestRing) : Nat :=
  match q.config with
  | some c => c.weight.getD 0
  | none => 0

/-- What a grant chooses: the ring, with the rotation pointer and grant count after it (R125). -/
structure Grant where
  ring : Ring
  rotPtr : Ring
  grantCount : Nat
  deriving DecidableEq, Repr

/-- The ring unit's choice among the eligible rings (R125). -/
def State.chooseRing (s : State) : Option Grant :=
  if s.eligible 0 then some ⟨0, s.rotPtr, s.grantCount⟩
  else if s.eligible s.rotPtr ∧ s.grantCount < (s.ring s.rotPtr).weight then
    some ⟨s.rotPtr, s.rotPtr, s.grantCount + 1⟩
  else ((ringsAfter s.rotPtr).find? s.eligible).map fun r => ⟨r, r, 1⟩

/-- The host memory address of record `index` of a ring (R121). -/
def RequestRing.recordAddr (q : RequestRing) (index : Nat) : Addr :=
  (match q.config with | some c => c.base | none => 0) + BitVec.ofNat 64 (Config.requestBytes * index)

/-- A grant: the slot is reserved, the fetch recorded, and the read asked for (R5, R125, R126). -/
def State.grantFetch (s : State) (g : Grant) (i : SlotId) : State :=
  { s.setSlot i { Slot.empty with state := .fetching, ring := some g.ring } with
    rotPtr := g.rotPtr
    grantCount := g.grantCount
    fetch := some { ring := g.ring, index := (s.ring g.ring).consumer, slot := i, discard := false }
    read := .waiting ((s.ring g.ring).recordAddr (s.ring g.ring).consumer) }

/-- With no fetch in flight and a ring eligible, the next fetch is granted (R125, R126). -/
def State.nextGrant (s : State) : State :=
  match s.fetch, s.chooseRing, s.lowestFree with
  | none, some g, some i => s.grantFetch g i
  | _, _, _ => s

/-- The ring unit decides its next grant (R125, R126). -/
def execFetchGrant (s : State) : Host.Outcome State Fault Refusal := .next s.nextGrant

/-- The arbiter gives the read its turn: it is placed on the link and its 50 ms timer starts, or it ends at once as an error
where bus mastering is disabled (R165, R166). -/
def execReadIssue (config : PcieConfig) (s : State) : Host.Outcome State Fault Refusal :=
  .next (match s.read, s.fetch with
    | .waiting a, some f =>
      if s.readTurn config then
        let s := { s with arbLast := .ringUnit }
        if config.busMaster then
          { s with read := .outstanding a (.running Config.readTimeoutUs), link := s.link ++ [.readRequest a] }
        else s.fetchFailed f .readError
      else s
    | _, _ => s)

/-! ### Acceptance -/

/-- The completion ring of an arrived record: 0 for ring 0, else the ring's own (R8). -/
def State.arrivalCq (s : State) (r : Ring) : Cq := if r = 0 then 0 else (s.ringCq r).getD 0

/-- On arrival, before any check: arrival position, tag, kind and completion ring (R8). -/
def State.arrive (s : State) (i : SlotId) (r : Ring) (rec : Record) : State :=
  { s.modSlot i fun t =>
      { t with
        arrival := some (s.lastArrival + 1), tag := some (tagOf rec), kind := kindOf rec, cq := some (s.arrivalCq r) }
    with lastArrival := s.lastArrival + 1 }

/-- A control or admin request is handed to the block that runs its kind (R13). -/
def State.takeOperation (s : State) (i : SlotId) (r : Ring) : OpArgs → State
  | .abort tag => s.takeAbort i r tag
  | .hold named => s.takeHold i r named
  | .release named => s.takeRelease i r named
  | .ringCreate a => s.takeRingCreate i a
  | .ringDelete b => s.takeRingDelete i b
  | .cqCreate a => s.takeCqCreate i a
  | .cqDelete b => s.takeCqDelete i b
  | .segConfig a => s.takeSegConfig i a
  | .segStart b => s.withSegment i b fun g => s.startSegment i g
  | .segStop b => s.withSegment i b fun g => s.stopRequest i g
  | .segReset b => s.withSegment i b fun g => (s.resetSegment g).answer i (.outcome .ok)
  | .segSleep b => s.withSegment i b fun g => s.sleepRequest i g
  | .segWake b => s.withSegment i b fun g => s.wakeRequest i g
  | .segQuery a => s.takeSegQuery i a
  | .mapWrite a => s.takeMapWrite i a
  | .mapRead entry half => s.takeMapRead i entry half
  | .setLimits a => s.takeSetLimits i a

/-- Checks 1 to 3 of R9, then the kind's own acceptance (R9, R13). -/
def State.checkRecord (s : State) (i : SlotId) (r : Ring) (rec : Record) : State :=
  match kindOf rec with
  | none => s.refuse i .badRequest
  | some k =>
    if k.allowedOn r = false then s.refuse i .badRequest
    else if reservedZero rec = false then s.refuse i .badRequest
    else match argsOf k rec with
      | none => s.acceptExchange i k rec
      | some args => (s.modSlot i fun t => { t with args := some args }).takeOperation i r args

/-- Acceptance of a record that has arrived for a FETCHING slot (section 1.5). -/
def State.accept (s : State) (i : SlotId) (rec : Record) : State :=
  match (s.slot i).state, (s.slot i).ring with
  | .fetching, some r => (s.arrive i r rec).checkRecord i r rec
  | _, _ => s

/-- The record is dropped: the fetch was marked for discard, or an RQ_POST write withdrew it (R127). -/
def State.dropsRecord (s : State) (f : Fetch) : Bool := f.discard || (s.ring f.ring).pendingCount == 0

/-- The consumer index after one more record, modulo the size (R127). -/
def RequestRing.consume (q : RequestRing) : RequestRing :=
  { q with consumer := if q.consumer + 1 < q.size then q.consumer + 1 else 0 }

/-- The next grant, where it follows in the step that ended a fetch (R127; log entry 40). -/
def State.grantIf (s : State) (granted : Bool) : State := if granted then s.nextGrant else s

/-- The read data of the fetch arrives: the record is dropped, or consumed and handed to acceptance; the fetch is over, and the
next grant may follow in the same step, before the acceptance (R127, R130). -/
def execFetchComplete (data : ReadData) (s : State) : Host.Outcome State Fault Refusal :=
  match s.read, s.fetch with
  | .outstanding _ _, some f =>
    let t := { s with fetch := none, read := .idle }
    if s.dropsRecord f then .next ((t.freeSlotFrom .fetching f.slot).grantIf data.granted)
    else
      let u := (t.modRing f.ring RequestRing.consume).grantIf data.granted
      settled (if (s.slot f.slot).state = .fetching then u.accept f.slot data.record else u)
  | _, _ => .next s

/-- The read ends with an error completion (R128). -/
def execFetchError (s : State) : Host.Outcome State Fault Refusal :=
  .next (match s.read, s.fetch with
    | .outstanding _ _, some f => s.fetchFailed f .readError
    | _, _ => s)

/-- The read's 50 ms timer expires with bytes missing (R128, R166). -/
def execFetchTimeout (s : State) : Host.Outcome State Fault Refusal :=
  .next (match s.read, s.fetch with
    | .outstanding _ _, some f => s.fetchFailed f .readTimeout
    | _, _ => s)

/-- A completion for a read already ended, or issued before a function reset, is discarded (R164, R166). -/
def execLateReadCompletion (s : State) : Host.Outcome State Fault Refusal := .next s

/-- A DELETING ring that holds no slots becomes UNCONFIGURED and its RING_DELETE completes (R119; log entry 10). It is a command
that follows the step that freed the ring's last slot, so where R138's discard freed it, the completion joins completion ring 0's
backlog after that step's CQ_ERROR notice: R155 gives no order, and this one is the model's choice (DESIGN CHOICE, log entry 10). -/
def execRingDeleteComplete (r : Ring) (s : State) : Host.Outcome State Fault Refusal :=
  .next (if (s.ring r).state = .deleting ∧ s.holdsNoSlot r then s.completeDeletion r else s)

end Sys2Proof.Machine
end

