-- ==== Sys2Proof/Machine/Frames.lean ====
section
/-! DEFINITION. The steps of a frame: PICK, LEAD_IN_END, HEADER_SENT, GAP_END, RESPONSE_OUT_END, START_CHECK, BYTE_RECEIVED,
ACK_RECEIVED, WINDOW_END, READBACK_DIFFERENCE, FRAMING_DETECTED, RECOVER_END, RECOVER_NO_IDLE. -/

namespace Sys2Proof.Machine

/-! ### The pick -/

/-- A leg of slot `i` is eligible for the segment under its hold state (R42). -/
def State.legEligible (s : State) (g : Seg) (i : SlotId) : Bool :=
  match (s.seg g).hold.holder with
  | none => true
  | some r => (s.slot i).ring = some r

/-- The segment's own conditions for an exchange frame: ACTIVE, IDLE, neither STOP nor SLEEP pending (R43). -/
def Segment.mayStart (x : Segment) : Bool :=
  x.lineState = .active && x.phase = .idle && !x.pendingIs .stop && !x.pendingIs .sleep

/-- The leg a pick takes: the first eligible one of the queue, scanning from the head (R44). -/
def State.firstEligible (s : State) (g : Seg) : Option SlotId := (s.queue g).find? fun i => s.legEligible g i

/-- The picked leg: ON_WIRE, one more attempt, its last frame on this segment (R44). -/
def Leg.picked (l : Leg) (g : Seg) : Leg :=
  { l with state := .onWire, attempts := l.attempts + 1, lastFrameSeg := some g }

/-- The leg of slot `i` leaves the queue and its frame starts (R44). -/
def State.pickLeg (s : State) (g : Seg) (i : SlotId) : State :=
  match (s.slot i).exchange with
  | some x =>
    ((s.leaveQueue i g).modSlot i fun t => t.mapLeg g fun l => l.picked g).startFrame g
      (exchangeFrame i x (s.slot i).payload)
  | none => s

/-- The dispatcher picks the first eligible leg (R42, R43, R44). -/
def execPick (seg : Seg) (s : State) : Host.Outcome State Fault Refusal :=
  if (s.seg seg).mayStart then
    match s.firstEligible seg with
    | some i => settled (s.pickLeg seg i)
    | none => .next s
  else .next s

/-! ### The phases the part sends in -/

/-- The segment's frame moves on to the next phase (R64). -/
def State.enterPhase (s : State) (g : Seg) (phase : FramePhase) (bits : Nat) (line : LineDrive) : State :=
  s.modSeg g fun x => { x with phase := phase, phaseBits := some bits, line := line }

/-- The frame in progress while the segment is ACTIVE in the given phase. -/
def Segment.frameIn (x : Segment) (phase : FramePhase) : Option Frame :=
  if x.lineState = .active ∧ x.phase = phase then x.frame else none

/-- The lead-in is over: the header is sent (R64, R65, R66). -/
def execLeadInEnd (seg : Seg) (s : State) : Host.Outcome State Fault Refusal :=
  match (s.seg seg).frameIn .leadIn with
  | some f => settled (s.enterPhase seg .header Config.headerBits (.sending (headerLevels f)))
  | none => .next s

/-- The header has been sent: an IN frame opens its response window, an OUT frame leaves its gap (R64, R68, R69). -/
def execHeaderSent (seg : Seg) (s : State) : Host.Outcome State Fault Refusal :=
  match (s.seg seg).frameIn .header with
  | some f =>
    settled (match f.direction with
      | .dirIn => s.enterPhase seg .responseIn (windowBits (s.seg seg).config (f.length + 1)) .released
      | .dirOut => s.enterPhase seg .gap Config.gapBits .released)
  | none => .next s

/-- The gap has passed: payload and check byte are sent (R64, R68). -/
def execGapEnd (seg : Seg) (s : State) : Host.Outcome State Fault Refusal :=
  match (s.seg seg).frameIn .gap with
  | some f => settled (s.enterPhase seg .responseOut (Config.byteBits * (f.length + 1)) (.sending (responseLevels f)))
  | none => .next s

/-- The check byte has been sent: an unconfirmed frame ends OK, a confirmed one waits for its acknowledgment (R68, R72). -/
def execResponseOutEnd (seg : Seg) (s : State) : Host.Outcome State Fault Refusal :=
  match (s.seg seg).frameIn .responseOut with
  | some f =>
    settled (if f.confirmed then s.enterPhase seg .ackWait (windowBits (s.seg seg).config 1) .released
      else s.endFrame seg .ok [])
  | none => .next s

/-! ### Reception -/

/-- The frame that listens in ACK_WAIT or RESPONSE_IN (R63). -/
def Segment.listening (x : Segment) : Option Frame :=
  match x.frameIn .ackWait with
  | some f => some f
  | none => x.frameIn .responseIn

/-- The frame in progress is replaced. -/
def State.setFrame (s : State) (g : Seg) (f : Frame) : State := s.modSeg g fun x => { x with frame := some f }

/-- The start check: with the window open and no byte in reception, a dominant level at the sample point takes a byte into
reception; a recessive one is disregarded (R63, R69). -/
def execStartCheck (seg : Seg) (level : Level) (s : State) : Host.Outcome State Fault Refusal :=
  match (s.seg seg).listening with
  | some f =>
    if f.inReception = false ∧ (s.seg seg).phaseBits ≠ none ∧ level = .dominant then
      settled (s.setFrame seg { f with inReception := true })
    else .next s
  | none => .next s

/-- The outcome of an IN frame whose last expected byte has been received (R72). -/
def responseOutcome (f : Frame) (bytes : List Byte) : LegOutcome :=
  if frameCheck f (bytes.take f.length) = bytes.getD f.length 0 then .ok else .checkError

/-- The byte in reception is received in RESPONSE_IN (R63): the last one expected ends the frame, one that was in reception
at the window's end and leaves bytes missing ends it PARTIAL, any other is kept (R69, R72). -/
def execByteReceived (seg : Seg) (levels : DataLevels) (s : State) : Host.Outcome State Fault Refusal :=
  match (s.seg seg).frameIn .responseIn with
  | some f =>
    if f.inReception then
      let bytes := f.received ++ [receivedByte levels]
      settled (
        if bytes.length = f.length + 1 then s.endFrame seg (responseOutcome f bytes) (bytes.take f.length)
        else if (s.seg seg).phaseBits = none then s.endFrame seg .partialResponse []
        else s.setFrame seg { f with received := bytes, inReception := false })
    else .next s
  | none => .next s

/-- The outcome an acknowledgment byte stands for (R71). -/
def ackOutcome (byte : Byte) : LegOutcome :=
  if byte = Config.ackAccept then .ok else if byte = Config.ackRefuse then .refused else .badAck

/-- The byte in reception is received in ACK_WAIT, and ends the frame (R71, R72). -/
def execAckReceived (seg : Seg) (levels : DataLevels) (s : State) : Host.Outcome State Fault Refusal :=
  match (s.seg seg).frameIn .ackWait with
  | some f => if f.inReception then settled (s.endFrame seg (ackOutcome (receivedByte levels)) []) else .next s
  | none => .next s

/-- The outcome of a frame whose window ends with no byte in reception (R71, R72). -/
def windowOutcome (f : Frame) : LegOutcome := if f.received = [] then .noResponse else .partialResponse

/-- The response window ends: a byte in reception is still received, otherwise the frame ends (R69, R72). A dominant level of 10
bit times or more is a foreign master at the entry into GUARD, once the frame's end has granted its hold and let its stop act (R64,
R82, R83, R96, R109; log entry 9). -/
def execWindowEnd (carried : CarriedLevel) (s : State) : Host.Outcome State Fault Refusal :=
  match (s.seg carried.seg).listening with
  | some f =>
    if (s.seg carried.seg).phaseBits = none then .next s
    else settled (if f.inReception then s.modSeg carried.seg fun x => { x with phaseBits := none }
      else (s.endFrame carried.seg (windowOutcome f) []).enterGuardMeasured carried)
  | none => .next s

/-! ### RECOVER -/

/-- The line is released and the frame passes into RECOVER with its pending outcome; the recessive run is measured from
here on, and a dominant level at the sample that led here is carried in and holds the run off until it ends (R61, R63, R73,
R82). -/
def Segment.enterRecover (x : Segment) (o : PendingOutcome) (level : Level) : Segment :=
  { x with
    phase := .recover
    phaseBits := none
    frame := x.frame.map fun f => { f with inReception := false }
    pendingOutcome := some o
    run := runAt level
    line := .released }

/-- The level the part expects to read in a bit time of the phase it sends in: the level it drives there, recessive in the gap;
none outside the phase (R61). -/
def Segment.expectedLevel (x : Segment) (bit : Nat) : Option Level :=
  match x.watch, x.line with
  | .readback, .sending levels => levels[bit]?
  | .readback, .released => if bit < Config.gapBits then some .recessive else none
  | _, _ => none

/-- A sample while sending reads other than expected: a line event, and READBACK is pending; one that reads as expected changes
nothing (R61, R102). -/
def execReadbackDifference (sample : LineSample) (s : State) : Host.Outcome State Fault Refusal :=
  match (s.seg sample.seg).expectedLevel sample.bit with
  | some level =>
    if sample.level = level then .next s
    else settled (s.modSeg sample.seg fun x => { x.enterRecover .readback sample.level with lineEvents := x.lineEvents + 1 })
  | none => .next s

/-- The stop bit of the byte in reception reads dominant: FRAMING is pending (R63). -/
def execFramingDetected (seg : Seg) (s : State) : Host.Outcome State Fault Refusal :=
  match (s.seg seg).listening with
  | some f => if f.inReception then settled (s.modSeg seg fun x => x.enterRecover .framing .dominant) else .next s
  | none => .next s

/-- The frame outcome a pending outcome becomes (R73). -/
def PendingOutcome.outcome : PendingOutcome → LegOutcome
  | .framing => .framing
  | .readback => .readback

/-- 24 recessive bit times have passed without a break: the frame ends with its pending outcome (R73). -/
def execRecoverEnd (seg : Seg) (s : State) : Host.Outcome State Fault Refusal :=
  match (s.seg seg).frameIn .recover, (s.seg seg).pendingOutcome with
  | some _, some o =>
    if (s.seg seg).run = .counting then settled (s.endFrame seg o.outcome []) else .next s
  | _, _ => .next s

/-- 1000 bit times have passed since RECOVER began: the segment enters FAULTED, reason NO_IDLE (R73). -/
def execRecoverNoIdle (seg : Seg) (s : State) : Host.Outcome State Fault Refusal :=
  if (s.seg seg).lineState = .active ∧ (s.seg seg).phase = .recover then settled (s.enterFaulted seg .noIdle) else .next s

end Sys2Proof.Machine
end

