-- ==== Sys2Proof/Machine/Timers.lean ====
section
/-! DEFINITION. The expiries of the part's timers and the steps it takes on its own account once a wait is over:
DEADLINE_EXPIRY, HOLD_TIMER_EXPIRY, HOLD_GRANT, IDLE_TIMER_EXPIRY, SLEEP_COMMAND_START, WAKE_PULSE_END,
SETTLE_TIMER_EXPIRY, STOP_ACT, GUARD_END. -/

namespace Sys2Proof.Machine

/-- A slot's deadline can expire: it is LIVE, its deadline RUNNING (R16). -/
def Slot.deadlineRuns (t : Slot) : Bool :=
  t.state = .live && (match t.deadline with | .running _ => true | .absent | .passed => false) &&
    (match t.deadlineTimer with | .running _ => true | .stopped => false)

/-- The deadline timer of a slot expires: the deadline is PASSED, its WAITING legs finish EXPIRED, and legs on the wire are
left to their frames (R16). -/
def execDeadlineExpiry (slot : SlotId) (s : State) : Host.Outcome State Fault Refusal :=
  if (s.slot slot).deadlineRuns then
    settled ((s.modSlot slot fun t => { t with deadline := .passed, deadlineTimer := .stopped }).finishWaitingLegs slot
      .expired)
  else .next s

/-- The hold timer of a HELD segment expires (R111). -/
def execHoldTimerExpiry (seg : Seg) (s : State) : Host.Outcome State Fault Refusal :=
  match (s.seg seg).hold with
  | .held _ _ => settled (s.loseHold seg .expired)
  | .none | .draining _ _ => .next s

/-- A DRAINING segment that no frame holds back any more becomes HELD and joins its HOLD's granted set; the HOLD completes
OK when that was its last segment (R109; log entry 9). -/
def execHoldGrant (seg : Seg) (s : State) : Host.Outcome State Fault Refusal :=
  if s.grantDue seg then settled (s.grantDrained seg) else .next s

/-- The idle timer expires: a dormancy command with origin IDLE_TIMER starts in the same step (R89). -/
def execIdleTimerExpiry (seg : Seg) (s : State) : Host.Outcome State Fault Refusal :=
  match (s.seg seg).idleTimer with
  | .running _ =>
    if (s.seg seg).idleRuns (s.queue seg) then settled (s.startFrame seg (dormancyFrame .idleTimer)) else .next s
  | .stopped => .next s

/-- The engine may start the dormancy command of a pending SLEEP: ACTIVE, in IDLE, no frame in progress (R99). -/
def Segment.sleepMayStart (x : Segment) : Bool :=
  x.pendingIs .sleep && x.lineState = .active && x.phase = .idle && x.frame.isNone

/-- The engine starts a dormancy command with origin SLEEP, and records that it has (R13, R99; log entries 9, 39). -/
def execSleepCommandStart (seg : Seg) (s : State) : Host.Outcome State Fault Refusal :=
  if (s.seg seg).sleepMayStart then
    settled ((s.recordProgress seg .sleep .sendingDormancy).startFrame seg (dormancyFrame .sleep))
  else .next s

/-- The segment enters WAKING with its settle timer started (R92). -/
def State.enterWaking (s : State) (g : Seg) : State :=
  s.modSeg g fun x =>
    { x with lineState := .waking, settleTimer := .running (x.config.wakeSettle.toNat * Config.usPerMs) }

/-- The wake pulse ends: the line is released and the segment enters WAKING, where a pending WAKE waits for it to settle (R77, R91,
R92; log entry 39). -/
def execWakePulseEnd (seg : Seg) (s : State) : Host.Outcome State Fault Refusal :=
  if (s.seg seg).lineState = .dormant ∧ (s.seg seg).wakePulse ≠ none then
    settled (((s.recordProgress seg .wake .settling).modSeg seg fun x => { x with wakePulse := none, line := .released }).enterWaking
      seg)
  else .next s

/-- The settle timer runs (R92). -/
def Segment.settling (x : Segment) : Bool :=
  x.lineState = .waking && (match x.settleTimer with | .running _ => true | .stopped => false)

/-- The settled segment is ACTIVE in IDLE, and a pending WAKE completes OK (R92, R100). -/
def State.settleSegment (s : State) (g : Seg) : State :=
  (s.modSeg g fun x => { x with lineState := .active, phase := .idle, settleTimer := .stopped }).endOp g .wake (.outcome .ok)

/-- The settle timer expires. A dominant level of 10 bit times or more that is carried into IDLE is a foreign master at the
entry (R82, R83, R92; log entry 4). -/
def execSettleTimerExpiry (carried : CarriedLevel) (s : State) : Host.Outcome State Fault Refusal :=
  if (s.seg carried.seg).settling then
    settled ((s.settleSegment carried.seg).enterMeasured carried)
  else .next s

/-- A STOP that waited for its frame acts, and its request completes OK (R96; log entry 9). -/
def execStopAct (seg : Seg) (s : State) : Host.Outcome State Fault Refusal :=
  if (s.seg seg).stopMayAct then settled (s.actStop seg) else .next s

/-- The guard time has passed: the frame phase becomes IDLE (R75, R81). -/
def execGuardEnd (seg : Seg) (s : State) : Host.Outcome State Fault Refusal :=
  if (s.seg seg).lineState = .active ∧ (s.seg seg).phase = .guard then
    settled (s.modSeg seg fun x => { x with phase := .idle, phaseBits := none })
  else .next s

end Sys2Proof.Machine
end

