-- ==== Sys2Proof/Machine/LineWatch.lean ====
section
/-! DEFINITION. What the line watch reports: NOISE, FOREIGN_MASTER, STUCK_LINE, SYNC_COMPLETE, SYNC_NO_IDLE, REMOTE_WAKE,
DORMANT_STUCK, RECESSIVE_RUN_RESTART. -/

namespace Sys2Proof.Machine

/-- A dominant level in IDLE or GUARD ended before 10 bit times: noise is counted, nothing else changes (R83). -/
def execNoise (seg : Seg) (s : State) : Host.Outcome State Fault Refusal :=
  if (s.seg seg).watch = .noiseAndForeign then settled (s.modSeg seg Segment.countLineEvent) else .next s

/-- A dominant level in IDLE or GUARD reached 10 bit times: a line event, and FAULTED with reason FOREIGN (R83). -/
def execForeignMaster (seg : Seg) (s : State) : Host.Outcome State Fault Refusal :=
  if (s.seg seg).watch = .noiseAndForeign then
    settled (s.foreignMaster seg)
  else .next s

/-- A dominant level reached 64 bit times where it is measured for that: FAULTED with reason STUCK (R84). -/
def execStuckLine (seg : Seg) (s : State) : Host.Outcome State Fault Refusal :=
  if (s.seg seg).watch = .stuck then settled (s.enterFaulted seg .stuck) else .next s

/-- 24 recessive bit times have passed in SYNCING without a break: the segment is ACTIVE in IDLE, and the START completes
OK (R88). -/
def execSyncComplete (seg : Seg) (s : State) : Host.Outcome State Fault Refusal :=
  if (s.seg seg).lineState = .syncing ∧ (s.seg seg).run = .counting then
    settled ((s.modSeg seg fun x => { x with lineState := .active, phase := .idle, run := .notMeasured }).endOp seg .start
      (.outcome .ok))
  else .next s

/-- 1000 bit times have passed since the entry into SYNCING: FAULTED with reason NO_IDLE (R88). -/
def execSyncNoIdle (seg : Seg) (s : State) : Host.Outcome State Fault Refusal :=
  if (s.seg seg).lineState = .syncing then settled (s.enterFaulted seg .noIdle) else .next s

/-- The length of a pulse that is a remote wake (R85). -/
def isRemoteWake (us : Nat) : Bool := Config.remoteWakeMin ≤ us && us < Config.dormantStuckAt

/-- A dominant pulse on a DORMANT line is released: a remote wake where its length makes it one (R85, R92, R103; log
entry 38). -/
def execRemoteWake (seg : Seg) (us : Nat) (s : State) : Host.Outcome State Fault Refusal :=
  if (s.seg seg).watch = .pulse ∧ isRemoteWake us then
    settled ((s.enterWaking seg).postSegmentNotice seg (.remoteWake seg))
  else .next s

/-- A dominant pulse on a DORMANT line reached 5000 us: FAULTED with reason STUCK (R85). -/
def execDormantStuck (seg : Seg) (s : State) : Host.Outcome State Fault Refusal :=
  if (s.seg seg).watch = .pulse then settled (s.enterFaulted seg .stuck) else .next s

/-- The released line changes level while a recessive run is measured: a dominant level breaks the run, the return to
recessive starts it anew (R73, R82, R88; log entry 4). -/
def execRecessiveRunRestart (seg : Seg) (level : Level) (s : State) : Host.Outcome State Fault Refusal :=
  if (s.seg seg).run = .notMeasured then .next s
  else settled (s.modSeg seg fun x => { x with run := runAt level })

end Sys2Proof.Machine
end

