-- ==== Sys2Proof/Machine/Reset.lean ====
section
/-! DEFINITION. The resets: COLD_RESET, COLD_RESET_END, CONTROL_RESET, FUNCTION_LEVEL_RESET, FUNCTION_RESET_END. -/

namespace Sys2Proof.Machine

/-- A function reset starts, unless a reset is in progress (R159, R164; log entry 6). -/
def State.startFunctionReset (s : State) : State :=
  match s.resetting with
  | none => s.beginFunctionReset
  | some _ => s

/-- A cold reset begins: every block takes its cold values, whatever was in progress (R7, R26, R39, R79, R122, R131, R161,
R164). What is already on the link stays there (log entry 8). -/
def execColdReset (s : State) : Host.Outcome State Fault Refusal :=
  .next { State.reset with resetting := some .cold, link := s.link, pending := s.pending }

/-- The cold reset ends: READY becomes 1 (R161). -/
def execColdResetEnd (s : State) : Host.Outcome State Fault Refusal :=
  .next (if s.resetting = some .cold then { s with resetting := none } else s)

/-- A CONTROL write with RESET = 1 starts a function reset (R160, R164). -/
def execControlReset (s : State) : Host.Outcome State Fault Refusal :=
  .next s.startFunctionReset

/-- A PCIe function-level reset starts a function reset; it has no further effect while one is in progress (R164). -/
def execFunctionLevelReset (s : State) : Host.Outcome State Fault Refusal :=
  .next s.startFunctionReset

/-- The function reset ends: READY becomes 1 and register writes are taken again (R164). -/
def execFunctionResetEnd (s : State) : Host.Outcome State Fault Refusal :=
  .next (if s.resetting = some .function then { s with resetting := none } else s)

end Sys2Proof.Machine
end

