-- ==== Sys2Proof/Machine/Registers.lean ====
section
/-! DEFINITION. Host writes to the register window: ADMIN_BRING_UP, ENABLE_SET, ENABLE_CLEAR, RQ_POST, CQ_RELEASE,
REGISTER_WRITE. -/

namespace Sys2Proof.Machine

/-- The admin registers pass the four checks of a bring-up (R162). -/
def State.adminRegistersValid (s : State) : Bool :=
  aligned64 s.adminRqBase && aligned64 s.adminCqBase && requestSizes.contains (adminRqSize s.adminSizes) &&
    completionSizes.contains (adminCqSize s.adminSizes)

/-- What request ring 0 is brought up with (R162). -/
def State.adminRingConfig (s : State) : RingConfig where
  base := s.adminRqBase
  size := adminRqSize s.adminSizes
  weight := none
  reserve := Config.adminReserve
  cap := Config.adminCap
  cq := 0

/-- What completion ring 0 is brought up with (R131, R162). -/
def State.adminCqConfig (s : State) : CqConfig where
  base := s.adminCqBase
  size := adminCqSize s.adminSizes
  count := Config.adminCoalescingCount
  delay := Config.adminCoalescingDelay

/-- A bring-up: request ring 0 and completion ring 0 become ACTIVE and ENABLE 1, or ADMIN_FAULT becomes 1 (R162). -/
def State.bringUp (s : State) : State :=
  if s.adminRegistersValid then
    { (s.setRing 0 (RequestRing.created s.adminRingConfig)).setCq 0 (CompletionRing.created s.adminCqConfig) with
      enable := true, adminFault := false }
  else { s with adminFault := true }

/-- Request ring 0 is UNCONFIGURED: bring-up has not succeeded since the last reset (R162). -/
def State.beforeBringUp (s : State) : Bool := (s.ring 0).state = .unconfigured

/-- A CONTROL write (R160, R162, R163). -/
def State.writeControl (s : State) (v : Word) : State :=
  if controlResetBit v then s.startFunctionReset
  else if controlEnable v = s.enable then s
  else if controlEnable v then (if s.beforeBringUp then s.bringUp else { s with enable := true })
  else { s with enable := false }

/-- The admin registers are taken while ENABLE is 0 and request ring 0 is UNCONFIGURED (R160). -/
def State.adminWritable (s : State) : Bool := !s.enable && s.beforeBringUp

/-- A write of word `v` to RQ_POST[r] (R123). -/
def State.postProducer (s : State) (r : Ring) (v : Word) : State :=
  if (s.ring r).configured ∧ indexOf v < (s.ring r).size then s.modRing r fun q => { q with producer := indexOf v } else s

/-- The entries a CQ_RELEASE value would release: (v - release index) mod size (R134). -/
def CompletionRing.released (q : CompletionRing) (v : Nat) : Nat := (v + q.size - q.release) % q.size

/-- A write of word `v` to CQ_RELEASE[c] (R134, R141). -/
def State.releaseEntries (s : State) (c : Cq) (v : Word) : State :=
  let q := s.cq c
  let i := indexOf v
  if q.state ≠ .active ∨ q.size ≤ i then s
  else if i = q.producer then (s.setCq c { q with release := i, unreleased := 0 }).rearm c
  else if q.released i < q.unreleased then
    (s.setCq c { q with release := i, unreleased := q.unreleased - q.released i }).rearm c
  else s

/-- A 32-bit write to the window; while a reset is in progress every write is ignored (R159, R160, R173; log entry 21). -/
def State.writeWord (s : State) (offset : Nat) (v : Word) : State :=
  if s.ready = false then s
  else match registerAt offset with
    | none => s
    | some .status => s
    | some .control => s.writeControl v
    | some .adminRqBaseLow => if s.adminWritable then { s with adminRqBase := withLowWord s.adminRqBase v } else s
    | some .adminRqBaseHigh => if s.adminWritable then { s with adminRqBase := withHighWord s.adminRqBase v } else s
    | some .adminCqBaseLow => if s.adminWritable then { s with adminCqBase := withLowWord s.adminCqBase v } else s
    | some .adminCqBaseHigh => if s.adminWritable then { s with adminCqBase := withHighWord s.adminCqBase v } else s
    | some .adminSizes => if s.adminWritable then { s with adminSizes := v } else s
    | some (.rqPost r) => s.postProducer r v
    | some (.cqRelease c) => s.releaseEntries c v

/-- CONTROL.ENABLE = 1 written while ENABLE is 0 and request ring 0 is UNCONFIGURED (R162; log entry 22). -/
def execAdminBringUp (s : State) : Host.Outcome State Fault Refusal :=
  .next (if s.ready ∧ s.enable = false ∧ s.beforeBringUp then s.bringUp else s)

/-- CONTROL.ENABLE = 1 written after bring-up: grants go on again, without any check (R163; log entry 22). -/
def execEnableSet (s : State) : Host.Outcome State Fault Refusal :=
  .next (if s.ready ∧ s.beforeBringUp = false then { s with enable := true } else s)

/-- CONTROL.ENABLE = 0 written: no further fetch is granted (R163). -/
def execEnableClear (s : State) : Host.Outcome State Fault Refusal :=
  .next (if s.ready then { s with enable := false } else s)

/-- A host write to RQ_POST[r] (R123, R159). -/
def execRqPost (r : Ring) (value : Word) (s : State) : Host.Outcome State Fault Refusal :=
  .next (if s.ready then s.postProducer r value else s)

/-- A host write to CQ_RELEASE[c] (R134, R159). -/
def execCqRelease (c : Cq) (value : Word) (s : State) : Host.Outcome State Fault Refusal :=
  .next (if s.ready then s.releaseEntries c value else s)

/-- A host write at an offset of the window: a 64-bit access is two 32-bit accesses, the lower address first, and a
narrower one is ignored (R159, R160). -/
def execRegisterWrite (offset : Nat) (width : AccessWidth) (value : BitVec 64) (s : State) :
    Host.Outcome State Fault Refusal :=
  .next (match width with
    | .bits8 => s
    | .bits16 => s
    | .bits32 => s.writeWord offset (lowWord value)
    | .bits64 => (s.writeWord offset (lowWord value)).writeWord (offset + 4) (highWord value))

end Sys2Proof.Machine
end

