-- ==== Sys2Proof/Machine/Dispatch.lean ====
section
/-! DEFINITION. The one match from a command to its meaning: an arm for each constructor of `Instr`. -/

namespace Sys2Proof.Machine

def exec (i : Instr) (s : State) : Host.Outcome State Fault Refusal :=
  match i with
  | .coldReset => Sys2Proof.Machine.execColdReset s
  | .controlReset => Sys2Proof.Machine.execControlReset s
  | .functionLevelReset => Sys2Proof.Machine.execFunctionLevelReset s
  | .functionResetEnd => Sys2Proof.Machine.execFunctionResetEnd s
  | .adminBringUp => Sys2Proof.Machine.execAdminBringUp s
  | .enableSet => Sys2Proof.Machine.execEnableSet s
  | .enableClear => Sys2Proof.Machine.execEnableClear s
  | .rqPost r value => Sys2Proof.Machine.execRqPost r value s
  | .cqRelease c value => Sys2Proof.Machine.execCqRelease c value s
  | .registerWrite offset width value => Sys2Proof.Machine.execRegisterWrite offset width value s
  | .fetchGrant => Sys2Proof.Machine.execFetchGrant s
  | .readIssue config => Sys2Proof.Machine.execReadIssue config s
  | .fetchComplete data => Sys2Proof.Machine.execFetchComplete data s
  | .ringDeleteComplete r => Sys2Proof.Machine.execRingDeleteComplete r s
  | .fetchError => Sys2Proof.Machine.execFetchError s
  | .fetchTimeout => Sys2Proof.Machine.execFetchTimeout s
  | .lateReadCompletion => Sys2Proof.Machine.execLateReadCompletion s
  | .recordWriteRequest => Sys2Proof.Machine.execRecordWriteRequest s
  | .recordWriteIssue config => Sys2Proof.Machine.execRecordWriteIssue config s
  | .interruptMessageIssue config => Sys2Proof.Machine.execInterruptMessageIssue config s
  | .coalescingDelayExpiry c => Sys2Proof.Machine.execCoalescingDelayExpiry c s
  | .deadlineExpiry slot => Sys2Proof.Machine.execDeadlineExpiry slot s
  | .holdTimerExpiry seg => Sys2Proof.Machine.execHoldTimerExpiry seg s
  | .holdGrant seg => Sys2Proof.Machine.execHoldGrant seg s
  | .idleTimerExpiry seg => Sys2Proof.Machine.execIdleTimerExpiry seg s
  | .sleepCommandStart seg => Sys2Proof.Machine.execSleepCommandStart seg s
  | .wakePulseEnd seg => Sys2Proof.Machine.execWakePulseEnd seg s
  | .settleTimerExpiry carried => Sys2Proof.Machine.execSettleTimerExpiry carried s
  | .pick seg => Sys2Proof.Machine.execPick seg s
  | .leadInEnd seg => Sys2Proof.Machine.execLeadInEnd seg s
  | .headerSent seg => Sys2Proof.Machine.execHeaderSent seg s
  | .gapEnd seg => Sys2Proof.Machine.execGapEnd seg s
  | .responseOutEnd seg => Sys2Proof.Machine.execResponseOutEnd seg s
  | .byteReceived seg byte => Sys2Proof.Machine.execByteReceived seg byte s
  | .ackReceived seg byte => Sys2Proof.Machine.execAckReceived seg byte s
  | .windowEnd carried => Sys2Proof.Machine.execWindowEnd carried s
  | .stopAct seg => Sys2Proof.Machine.execStopAct seg s
  | .guardEnd seg => Sys2Proof.Machine.execGuardEnd seg s
  | .readbackDifference sample => Sys2Proof.Machine.execReadbackDifference sample s
  | .framingDetected seg => Sys2Proof.Machine.execFramingDetected seg s
  | .recoverEnd seg => Sys2Proof.Machine.execRecoverEnd seg s
  | .recoverNoIdle seg => Sys2Proof.Machine.execRecoverNoIdle seg s
  | .noise seg => Sys2Proof.Machine.execNoise seg s
  | .foreignMaster seg => Sys2Proof.Machine.execForeignMaster seg s
  | .stuckLine seg => Sys2Proof.Machine.execStuckLine seg s
  | .syncComplete seg => Sys2Proof.Machine.execSyncComplete seg s
  | .syncNoIdle seg => Sys2Proof.Machine.execSyncNoIdle seg s
  | .remoteWake seg us => Sys2Proof.Machine.execRemoteWake seg us s
  | .dormantStuck seg => Sys2Proof.Machine.execDormantStuck seg s
  | .startCheck seg level => Sys2Proof.Machine.execStartCheck seg level s
  | .recessiveRunRestart seg level => Sys2Proof.Machine.execRecessiveRunRestart seg level s
  | .coldResetEnd => Sys2Proof.Machine.execColdResetEnd s

end Sys2Proof.Machine
end

