-- ==== Sys2Proof/Safety.lean ====
section
/-! DEFINITION. What the statements speak of: a run that does not stop, what a step may leave unchanged, and what holds of
every legal state of the part. -/

namespace Sys2Proof.Machine

/-- The step from `s` answers a next state. -/
def Continues (s : State) : Prop := ∃ t, step s = .next t

/-! ### Frames -/

/-- `t` is `s` but for the record of segment `g`. -/
def OnlySegment (g : Seg) (s t : State) : Prop := t = s.setSeg g (t.seg g)

/-- `t` is `s` but for the slots, the dispatch queues, the segment records and the completion rings' backlogs: the part's
configuration, its rings, its host port and what stands on the link are as they were. -/
def OnlyWork (s t : State) : Prop :=
  t = { s with slots := t.slots, queues := t.queues, segs := t.segs, cqs := t.cqs } ∧
    (∀ g, (t.seg g).configured = (s.seg g).configured ∧ (t.seg g).config = (s.seg g).config) ∧
    ∀ c, t.cq c = { s.cq c with
      backlog := (t.cq c).backlog, noticesWaiting := (t.cq c).noticesWaiting, noticesLost := (t.cq c).noticesLost }

/-! ### What holds of every legal state -/

/-- Every segment's idle timer runs, from idle_to_dormant ms, exactly while the five conditions of R89 hold. -/
def IdleTimersFollow (s : State) : Prop :=
  ∀ g : Seg, (s.seg g).idleTimer =
    if (s.seg g).config.idleToDormant ≠ 0 ∧ (s.seg g).lineState = .active ∧ (s.seg g).phase = .idle ∧ s.queue g = [] ∧
        (s.seg g).hold = .none ∧ (s.seg g).pendingOp = none
    then .running ((s.seg g).config.idleToDormant.toNat * 1000) else .stopped

/-- The operations that can be pending in a line state (R94). -/
def opsPendingIn : LineState → List (Option SegOp)
  | .off => [none]
  | .faulted _ => [none]
  | .syncing => [some .start]
  | .active => [none, some .stop, some .sleep]
  | .dormant => [none, some .wake]
  | .waking => [none, some .wake]

/-- A segment record agrees with itself: what R60, R78, R81, R82, R91, R92 and R94 say of its line state, frame phase, frame,
pending outcome, pending operation, wake pulse, hold, settle timer, measurement and line drive. -/
structure SegmentLegal (x : Segment) : Prop where
  phaseOnlyInActive : x.lineState ≠ .active → x.phase = .idle
  frameInPhase : x.frame = none ↔ x.phase = .idle ∨ x.phase = .guard
  outcomeInRecover : x.pendingOutcome = none ↔ x.phase ≠ .recover
  opInLineState : x.pendingOp.map PendingOp.op ∈ opsPendingIn x.lineState
  pulseInDormant : x.wakePulse ≠ none → x.lineState = .dormant
  wakeHasPulse : x.lineState = .dormant → x.pendingOp ≠ none → x.wakePulse ≠ none
  holdOnUsable : x.hold ≠ .none → x.lineState.usable = true
  holderIsNoAdmin : x.hold.holder ≠ some 0
  settleInWaking : x.settleTimer = .stopped ↔ x.lineState ≠ .waking
  runWhereMeasured : x.run = .notMeasured ↔ x.lineState ≠ .syncing ∧ x.phase ≠ .recover
  drivesPulse : x.line = .wakePulse ↔ x.wakePulse ≠ none
  drivesFrame : (∃ levels, x.line = .sending levels) ↔ x.phase = .leadIn ∨ x.phase = .header ∨ x.phase = .responseOut

/-- Every segment record is legal. -/
def SegmentsLegal (s : State) : Prop := ∀ g : Seg, SegmentLegal (s.seg g)

/-- The field ranges of a request ring's configuration (R121). -/
structure RingConfigLegal (r : Ring) (c : RingConfig) : Prop where
  base : aligned64 c.base = true
  size : c.size ∈ requestSizes
  admin : r = 0 → c.weight = none ∧ c.reserve = 4 ∧ c.cap = 8 ∧ c.cq = 0
  weight : r ≠ 0 → ∃ w, c.weight = some w ∧ 1 ≤ w ∧ w ≤ 15
  reserve : c.reserve ≤ 16 ∧ c.reserve ≤ c.cap
  cap : 1 ≤ c.cap ∧ c.cap ≤ 64

/-- A request ring record agrees with itself (R121, R122, R128). -/
structure RingLegal (r : Ring) (q : RequestRing) : Prop where
  configured : q.config = none ↔ q.state = .unconfigured
  config : ∀ c, q.config = some c → RingConfigLegal r c ∧ q.producer < c.size ∧ q.consumer < c.size
  unconfigured : q.state = .unconfigured → q = RequestRing.empty
  errored : q.state = .errored → q.error ≠ none
  active : q.state = .active → q.error = none
  adminKept : r = 0 → q.state ≠ .deleting

/-- Every request ring record is legal, the rotation pointer and grant count are in range (R121), and a fetch in flight is for
an ACTIVE ring, or marked for discard for a DELETING one (R116, R122). -/
structure RingsLegal (s : State) : Prop where
  rings : ∀ r : Ring, RingLegal r (s.ring r)
  pointer : s.rotPtr ≠ 0
  grants : s.grantCount ≤ 15
  fetch : ∀ f, s.fetch = some f →
    (s.ring f.ring).state = .active ∨ (s.ring f.ring).state = .deleting ∧ f.discard = true

/-- The notices of a backlog. -/
def noticesIn (l : List Posting) : Nat :=
  (l.filter fun p => match p with | .notice _ => true | .slot _ => false).length

/-- A completion ring record agrees with itself: the ranges of R131, the index relation behind R133 and R134 (the entries from
the release index on are the unreleased ones), the notice allowance of R135 and the interrupt state of R140. -/
structure CqLegal (q : CompletionRing) : Prop where
  configured : q.config = none ↔ q.state = .unconfigured
  config : ∀ c, q.config = some c → aligned64 c.base = true ∧ c.size ∈ completionSizes ∧ 1 ≤ c.count ∧ c.count ≤ 255 ∧
    c.delay ≤ 65535 ∧ q.producer < c.size ∧ q.release < c.size ∧ q.unreleased ≤ c.size ∧
    (q.release + q.unreleased) % c.size = q.producer
  unconfigured : q.state = .unconfigured → q = CompletionRing.empty
  backlog : q.backlog ≠ [] → q.state = .active
  notices : q.noticesWaiting = noticesIn q.backlog ∧ q.noticesWaiting ≤ 8
  message : q.state ≠ .active → q.sinceMessage = 0 ∧ q.armed = false ∧ q.noticesLost = false
  timer : q.delayTimer ≠ .stopped → 1 ≤ q.sinceMessage

/-- Every completion ring record is legal (R131, R133, R135). -/
def CqsLegal (s : State) : Prop := ∀ c : Cq, CqLegal (s.cq c)

/-- A record write that waits at the host port is for the head of an ACTIVE completion ring's backlog, for the entry at the base plus
16 times the producer index, with room for it (R133); and completion ring 0 is configured with ring 0 only, which is not deleted
(R147, R162). -/
structure WriteLegal (s : State) : Prop where
  waiting : ∀ w, s.write = some w → (s.cq w.cq).state = .active ∧ (s.cq w.cq).backlog ≠ [] ∧
    ∃ cfg, (s.cq w.cq).config = some cfg ∧ (s.cq w.cq).unreleased < cfg.size ∧
      w.addr = cfg.base + BitVec.ofNat 64 (16 * (s.cq w.cq).producer)
  adminPair : (s.ring 0).state = .unconfigured → (s.cq 0).state = .unconfigured
  adminKept : (s.ring 0).state ≠ .deleting

/-- The allocation of slots to rings keeps within R4's bounds: every slot that is not FREE is held by a ring, no ring holds
more than its cap (an UNCONFIGURED ring holds none), and what is held beyond the reserves fits in the shared pool. With ring 0
UNCONFIGURED no ring is configured (R122, R162), and ring 0 is not deleted. -/
structure AllocationLegal (s : State) : Prop where
  owned : ∀ i : SlotId, (s.slot i).state ≠ .free → (s.slot i).ring ≠ none
  withinCap : ∀ r : Ring, s.held r ≤ (s.ring r).cap
  withinPool : s.sharedInUse + s.reserveSum ≤ 64
  adminFirst : (s.ring 0).state = .unconfigured → ∀ r : Ring, (s.ring r).state = .unconfigured
  adminKept : (s.ring 0).state ≠ .deleting

/-- A leg of slot `i` waits on segment `g`. -/
def LegWaits (s : State) (g : Seg) (i : SlotId) : Prop :=
  (s.slot i).state = .live ∧ ∃ l ∈ (s.slot i).legs, l.segment = g ∧ l.state = .waiting

/-- The legs of a slot agree with its exchange (R2, R3, R12, R52): no legs without an exchange, no two on one segment, and a
PAIR's one leg on its primary by path PRIMARY or on its secondary by path SECONDARY with failover-used set. -/
structure LegsLegal (t : Slot) : Prop where
  noExchange : t.exchange = none → t.legs = []
  distinct : t.legs.Pairwise fun l m => l.segment ≠ m.segment
  pair : ∀ x a b, t.exchange = some x → x.target = .pair a b → a ≠ b ∧ ∃ l, t.legs = [l] ∧
    (l.path = some .primary ∧ l.segment = a ∨ l.path = some .secondary ∧ l.segment = b ∧ t.failoverUsed = true)
  noPath : ∀ x, t.exchange = some x → (∀ a b, x.target ≠ .pair a b) → ∀ l ∈ t.legs, l.path = none
  ended : t.state ≠ .live → ∀ l ∈ t.legs, l.state = .finished

/-- The dispatch queues and the legs describe the same thing from two sides (R38): a queue holds exactly the slots with a leg
WAITING on its segment, ordered by priority and, within a priority, by arrival. -/
structure DispatchLegal (s : State) : Prop where
  queued : ∀ g i, i ∈ s.queue g ↔ LegWaits s g i
  ordered : ∀ g, (s.queue g).Pairwise fun i j => s.ordersBefore i j = true
  legs : ∀ i, LegsLegal (s.slot i)
  arrived : ∀ i, (s.slot i).state = .live → ∃ n, (s.slot i).arrival = some n ∧ n ≤ s.lastArrival
  inOrder : ∀ i j, (s.slot i).state = .live → (s.slot j).state = .live → (s.slot i).arrival = (s.slot j).arrival → i = j
  entries : ∀ e, (s.map.get e).kind = .pair → (s.map.get e).segA ≠ (s.map.get e).segB

/-- The state changes of a slot that the table of R1 permits in one step, its two-event paths through DONE included: a slot that
goes DONE where its completion ring is not ACTIVE becomes FREE in the same step (R132). -/
def slotMoves : SlotState → List SlotState
  | .free => [.free, .fetching]
  | .fetching => [.fetching, .live, .done, .free]
  | .live => [.live, .done, .free]
  | .done => [.done, .free]

/-- Slot `i` has a leg ON_WIRE on segment `g`. -/
def LegOnWire (s : State) (g : Seg) (i : SlotId) : Prop :=
  (s.slot i).state = .live ∧ ∃ l ∈ (s.slot i).legs, l.segment = g ∧ l.state = .onWire

/-- Every ON_WIRE leg is the frame in progress on its own segment, and every exchange frame in progress is such a leg (R81). -/
def FramesLegal (s : State) : Prop :=
  ∀ g i, LegOnWire s g i ↔ ∃ f, (s.seg g).frame = some f ∧ f.carrier = .exchange i

/-! ### Arrivals and answers -/

/-- The record of fetch `f` is about to arrive and will be handed to acceptance: its read is outstanding, it is neither
discarded nor withdrawn, and its slot is as it was reserved (R5, R126, R127). -/
structure Arriving (s : State) (f : Fetch) (cfg : RingConfig) : Prop where
  reading : ∃ a timer, s.read = .outstanding a timer
  inFlight : s.fetch = some f
  kept : f.discard = false
  waiting : (s.ring f.ring).pendingCount ≠ 0
  config : (s.ring f.ring).config = some cfg
  consumer : (s.ring f.ring).consumer < cfg.size
  reserved : s.slot f.slot = { Slot.empty with state := .fetching, ring := some f.ring }

/-- The part once the record of `f` is consumed: no fetch in flight, the consumer index one further modulo the size, one more
arrival (R8, R127); and with `granted`, once the ring unit has made its next grant in the same step (R125, R127). -/
def State.consumed (s : State) (f : Fetch) (size : Nat) (granted : Bool) : State :=
  ({ s with fetch := none, read := .idle, lastArrival := s.lastArrival + 1 }.setRing f.ring
    { s.ring f.ring with consumer := ((s.ring f.ring).consumer + 1) % size }).grantIf granted

/-- Entry `e` is the matching entry of a node address: the first valid one, in ascending order, whose range holds it (R30). -/
def Matches (s : State) (e : EntryId) (node : Half) : Prop :=
  ((s.map.get e).valid = true ∧ (s.map.get e).first.toNat ≤ node.toNat ∧ node.toNat ≤ (s.map.get e).last.toNat) ∧
  ∀ d : EntryId, d < e → ¬ ((s.map.get d).valid = true ∧ (s.map.get d).first.toNat ≤ node.toNat ∧
    node.toNat ≤ (s.map.get d).last.toNat)

/-- A LIVE HOLD of ring `r` (R108). -/
def LiveHold (s : State) (r : Ring) (i : SlotId) : Prop :=
  (s.slot i).state = .live ∧ (s.slot i).kind = some .hold ∧ (s.slot i).ring = some r

/-- The completion ring a record of fetch `f` is answered on (R8). -/
def answerRing (f : Fetch) (cfg : RingConfig) : Cq := if f.ring = 0 then 0 else cfg.cq

/-- The slot of fetch `f` on the arrival of its record (R8). -/
def arrivedSlot (s : State) (f : Fetch) (cfg : RingConfig) (record : Record) : Slot :=
  { Slot.empty with
    state := .fetching, ring := some f.ring, arrival := some (s.lastArrival + 1), tag := some (tagOf record),
    cq := some (answerRing f cfg), kind := kindOf record }

/-- Slot record `x` DONE with a result (R2, R18). -/
def doneWith (x : Slot) (r : Result) : Slot := { x with state := .done, deadlineTimer := .stopped, result := some r }

/-- Slot `i` has become the DONE record `x` and stands at the tail of the backlog of completion ring `c`; or it is FREE with
nothing posted, where that ring is not ACTIVE (R23, R132). -/
def State.answered (s : State) (i : SlotId) (c : Cq) (x : Slot) : State :=
  if (s.cq c).state = .active then
    (s.setSlot i x).setCq c { s.cq c with backlog := (s.cq c).backlog ++ [.slot i] }
  else s.setSlot i Slot.empty

/-- The DONE record `x`, or the FREE slot it has become where completion ring `c` is not ACTIVE (R23, R132). -/
def State.posted (s : State) (c : Cq) (x : Slot) : Slot := if (s.cq c).state = .active then x else Slot.empty

/-- What slot record `y` of exchange `x` becomes once legs of it have finished: DONE with its result where none is left WAITING
or ON_WIRE (FREE where completion ring `c` is not ACTIVE), `y` itself otherwise (R18, R23). -/
def State.legsEnded (s : State) (c : Cq) (x : Exchange) (y : Slot) : Slot :=
  if ∀ l ∈ y.legs, l.state = .finished then s.posted c (doneWith y (exchangeResult y x)) else y

/-- Slot record `y` with every WAITING leg finished with outcome `o`, attempts and last frame segment kept (R16, R105, R117). -/
def Slot.waitingEnded (y : Slot) (o : LegOutcome) : Slot :=
  { y with legs := y.legs.map fun l => if l.state = .waiting then { l with state := .finished, outcome := some o } else l }

/-- Slot record `y` with its leg on segment `g` finished with outcome `o`, attempts and last frame segment kept (R41, R51). -/
def Slot.legEndedOn (y : Slot) (g : Seg) (o : LegOutcome) : Slot :=
  { y with legs := y.legs.map fun l => if l.segment = g then { l with state := .finished, outcome := some o } else l }

/-! ### Displacement (R52, R55) -/

/-- A leg `l` of slot `j`, an exchange `x`, on the primary `g` of a PAIR may fail over to the secondary `b` (R52). -/
def MayFailOver (s : State) (j : SlotId) (x : Exchange) (l : Leg) (g b : Seg) : Prop :=
  x.target = .pair g b ∧ l.path = some .primary ∧ (s.slot j).failoverUsed = false ∧ (s.slot j).abortPending = false ∧
    (s.slot j).deadline ≠ .passed ∧ (s.seg b).lineState ∈ [.syncing, .active, .dormant, .waking]

/-- From `s` to `t` the queue of segment `g` has been displaced with the cause outcome (R55): it is empty, and each slot that had
a leg in it has failed over to its usable secondary, whose queue it has joined, or has that leg finished with the cause. -/
def Displaced (s t : State) (g : Seg) (cause : LegOutcome) : Prop :=
  t.queue g = [] ∧
  ∀ (j : SlotId) (x : Exchange) (l : Leg) (c : Cq), j ∈ s.queue g → (s.slot j).exchange = some x → l ∈ (s.slot j).legs →
    l.segment = g → (s.slot j).cq = some c →
    (∀ b, MayFailOver s j x l g b → j ∈ t.queue b ∧ t.slot j = { s.slot j with
      failoverUsed := true
      legs := [{ l with segment := b, path := some .secondary, state := .waiting, retriesLeft := x.retryBudget }] }) ∧
    ((∀ b, ¬ MayFailOver s j x l g b) → t.slot j = s.legsEnded c x ((s.slot j).legEndedOn g cause))

/-- From `s` to `t` the exchange frame in progress on segment `g`, if any, has been cut with the cause outcome (R57, R58): its
ON_WIRE leg has finished, EXPIRED where the deadline is PASSED, or has failed over to its usable secondary. -/
def FrameCut (s t : State) (g : Seg) (cause : LegOutcome) : Prop :=
  ∀ (f : Frame) (j : SlotId) (x : Exchange) (l : Leg) (c : Cq), (s.seg g).frame = some f → f.carrier = .exchange j →
    (s.slot j).state = .live → (s.slot j).exchange = some x → l ∈ (s.slot j).legs → l.segment = g → l.state = .onWire →
    (s.slot j).cq = some c →
    let y : Slot := { s.slot j with lastEnded := some g }
    (∀ b, MayFailOver s j x l g b → j ∈ t.queue b ∧ t.slot j = { y with
      failoverUsed := true
      legs := [{ l with segment := b, path := some .secondary, state := .waiting, retriesLeft := x.retryBudget }] }) ∧
    ((∀ b, ¬ MayFailOver s j x l g b) → t.slot j =
      s.legsEnded c x (y.legEndedOn g (if (s.slot j).deadline = .passed then .expired else cause)))

/-! ### Lost holds (R110 to R112) -/

/-- HOLD slot `i` ends when segment `g` is lost: it is LIVE and names the segment, and where the loss is an expiry it is the holder
ring's (R110; that an expiry ends the holder ring's HOLDs only is log entry 13). -/
def HoldEnds (s : State) (g : Seg) (why : HoldLoss) (i : SlotId) : Prop :=
  (s.slot i).state = .live ∧ (s.slot i).kind = some .hold ∧ (s.slot i).namedSet.getLsbD g.val = true ∧
    (why = .expired → (s.slot i).ring = (s.seg g).hold.holder)

/-- The status of the HOLDs that the loss of a segment ends (R110). -/
def lossStatus : HoldLoss → Status
  | .expired => .outcome .expired
  | .fault => .outcome .segmentFault
  | .stopped => .outcome .segmentStopped
  | .reset => .outcome .segmentReset

/-- From `s` to `t` segment `g` has been lost (R110 to R112): it holds for no ring; each HOLD that this ends has completed with
its status, its own set returned to NONE; a HELD segment in no LIVE HOLD's own set has posted HOLD_LOST, ahead of the HOLDs that
end, and any other segment, one in some LIVE HOLD's own set and named by another among them (log entry 12), has posted none. A
fault's own notice may be the eighth to wait, so room for two is asked of it there. -/
def HoldLost (s t : State) (g : Seg) (why : HoldLoss) : Prop :=
  (t.seg g).hold = .none ∧
  (∀ i c, HoldEnds s g why i → (s.slot i).exchange = none → (s.slot i).cq = some c →
    t.slot i = s.posted c (doneWith (s.slot i) (plainResult (lossStatus why) 0 zeroArea))) ∧
  (∀ i r (h : Seg), HoldEnds s g why i → (s.slot i).ring = some r → (s.slot i).ownSet.getLsbD h.val = true →
    (s.seg h).hold.holder = some r → (t.seg h).hold = .none) ∧
  let reported (r : Ring) := ∃ i, LiveHold s r i ∧ (s.slot i).namedSet.getLsbD g.val = true ∧
    (s.slot i).ownSet.getLsbD g.val = true
  ((∀ r ms, (s.seg g).hold = .held r ms → reported r) → ∀ c r,
    .notice (.holdLost g why r) ∉ (t.cq c).backlog.drop (s.cq c).backlog.length) ∧
  ∀ r ms cfg, (s.seg g).hold = .held r ms → ¬ reported r → (s.ring r).config = some cfg → (s.cq cfg.cq).state = .active →
    (s.cq cfg.cq).noticesWaiting + (if why = .fault then 1 else 0) < 8 →
    ∃ before after, (t.cq cfg.cq).backlog = (s.cq cfg.cq).backlog ++ before ++ .notice (.holdLost g why r) :: after ∧
      ∀ i, HoldEnds s g why i → (s.slot i).exchange = none → .slot i ∉ before ∧ ((s.slot i).cq = some cfg.cq → .slot i ∈ after)

/-- Segment record `x` once a stop or a reset has taken it OFF: configuration and counters kept, the rest as after a cold reset
(R79, R96, R97). -/
def offRecord (x : Segment) : Segment :=
  { Segment.cold with
    configured := x.configured, config := x.config, framesOk := x.framesOk, framesFailed := x.framesFailed
    retries := x.retries, lineEvents := x.lineEvents }

/-! ### Frame ends -/

/-- The commands that end the frame `f` of segment record `x` without cutting it, each with the outcome it fixes and the bytes
reported: the rows of R71 and R72. A window that ends with a dominant level of 10 bit times or more on the line is none of them
(R82). -/
inductive EndsFrame (x : Segment) (g : Seg) (f : Frame) : Instr → LegOutcome → List Byte → Prop where
  | accepted (b : DataLevels) : x.phase = .ackWait → f.inReception = true → receivedByte b = 0x96 →
      EndsFrame x g f (.ackReceived g b) .ok []
  | refused (b : DataLevels) : x.phase = .ackWait → f.inReception = true → receivedByte b = 0x69 →
      EndsFrame x g f (.ackReceived g b) .refused []
  | badAck (b : DataLevels) : x.phase = .ackWait → f.inReception = true → receivedByte b ≠ 0x96 → receivedByte b ≠ 0x69 →
      EndsFrame x g f (.ackReceived g b) .badAck []
  | noAck (n : Nat) : n < 10 → x.phase = .ackWait → f.inReception = false → x.phaseBits ≠ none → f.received = [] →
      EndsFrame x g f (.windowEnd ⟨g, n⟩) .noResponse []
  | response (b : DataLevels) : x.phase = .responseIn → f.inReception = true → f.received.length = f.length →
      frameCheck f f.received = receivedByte b → EndsFrame x g f (.byteReceived g b) .ok f.received
  | checkError (b : DataLevels) : x.phase = .responseIn → f.inReception = true → f.received.length = f.length →
      frameCheck f f.received ≠ receivedByte b → EndsFrame x g f (.byteReceived g b) .checkError []
  | lateByte (b : DataLevels) : x.phase = .responseIn → f.inReception = true → f.received.length + 1 ≤ f.length →
      x.phaseBits = none → EndsFrame x g f (.byteReceived g b) .partialResponse []
  | silence (n : Nat) : n < 10 → x.phase = .responseIn → f.inReception = false → x.phaseBits ≠ none → f.received = [] →
      EndsFrame x g f (.windowEnd ⟨g, n⟩) .noResponse []
  | short (n : Nat) : n < 10 → x.phase = .responseIn → f.inReception = false → x.phaseBits ≠ none → f.received ≠ [] →
      EndsFrame x g f (.windowEnd ⟨g, n⟩) .partialResponse []
  | sent : x.phase = .responseOut → f.confirmed = false → EndsFrame x g f (.responseOutEnd g) .ok []
  | framing : x.phase = .recover → x.run = .counting → x.pendingOutcome = some .framing →
      EndsFrame x g f (.recoverEnd g) .framing []
  | readback : x.phase = .recover → x.run = .counting → x.pendingOutcome = some .readback →
      EndsFrame x g f (.recoverEnd g) .readback []

/-- The record of segment `x` once a leg has joined its queue: the idle timer is stopped, and a DORMANT segment with
wake_on_demand and no wake pulse starts one (R89, R93). -/
def joinedRecord (x : Segment) : Segment :=
  let wakes := x.lineState = .dormant ∧ x.config.wakeOnDemand = true ∧ x.wakePulse = none
  { x with
    idleTimer := .stopped
    wakePulse := if wakes then some .onDemand else x.wakePulse
    line := if wakes then .wakePulse else x.line }

/-- A segment record after a frame that ended with an outcome and did not leave ACTIVE: the frame counted, GUARD begun, the
line released (R72, R75, R102). -/
def afterFrame (x : Segment) (o : LegOutcome) : Segment :=
  { x with
    phase := .guard, phaseBits := some x.config.guard.toNat, frame := none, pendingOutcome := none, run := .notMeasured,
    line := .released
    framesOk := if o = .ok then x.framesOk + 1 else x.framesOk
    framesFailed := if o = .ok then x.framesFailed else x.framesFailed + 1 }

end Sys2Proof.Machine
end

