-- ==== Sys2Proof/Certificates/Slice0/Obligations.lean ====
section
/-! DEFINITION. The statements for the provers: one `Prop` each, about the commands and about every step of the part. -/

section Slice0

open Sys2Proof Sys2Proof.Machine

/-! ### The step -/

/-- A step runs the command at the front of the queue with the queue's rest; with none waiting it changes nothing (the idling
is the model's choice, log entry 2). -/
def Obligations.StepRunsFrontCommand : Prop :=
  (∀ (c : Instr) (rest : List Instr) (s : State), step { s with pending := c :: rest } = exec c { s with pending := rest }) ∧
  ∀ s : State, s.pending = [] → step s = .next s

/-- Every command, in every state, answers a next state; it leaves the queue of commands alone, and what stands on the link
stays there (R164: nothing issued is recalled).
That a command whose event cannot happen answers too is the model's reading, log entry 1; that the queue is kept, by a reset
too, is log entries 23 and 37, and the link is the model's own field, log entry 8. -/
def Obligations.CommandsAnswerAndRecallNothing : Prop :=
  ∀ (c : Instr) (s : State), ∃ t, exec c s = .next t ∧ t.pending = s.pending ∧ s.link <+: t.link

/-! ### What every step keeps -/

/-- The state after reset is legal in every respect. -/
def Obligations.ResetStateIsLegal : Prop :=
  IdleTimersFollow State.reset ∧ SegmentsLegal State.reset ∧ RingsLegal State.reset ∧ CqsLegal State.reset ∧ WriteLegal State.reset ∧
    AllocationLegal State.reset ∧ DispatchLegal State.reset ∧ FramesLegal State.reset

/-- Every step keeps each idle timer as R89 has it. -/
def Obligations.StepKeepsIdleTimers : Prop :=
  ∀ s t : State, IdleTimersFollow s → step s = .next t → IdleTimersFollow t

/-- Every step keeps the segment records legal. -/
def Obligations.StepKeepsSegmentRecordsLegal : Prop :=
  ∀ s t : State, SegmentsLegal s → step s = .next t → SegmentsLegal t

/-- Every step keeps the request ring records legal. -/
def Obligations.StepKeepsRequestRingsLegal : Prop :=
  ∀ s t : State, RingsLegal s → step s = .next t → RingsLegal t

/-- Every step keeps the completion ring records legal: no more unreleased entries than the size, no unreleased entry written
over, no more than 8 notices waiting (R133, R135). A record write that waits stays addressed to the entry at base + 16 x producer
index of its ACTIVE ring (R133). -/
def Obligations.StepKeepsCompletionRingsLegal : Prop :=
  (∀ s t : State, CqsLegal s → step s = .next t → CqsLegal t) ∧
  ∀ s t : State, CqsLegal s → WriteLegal s → step s = .next t → WriteLegal t

/-- Every step keeps the allocation of slots within the caps and the shared pool (R4). -/
def Obligations.StepKeepsAllocationWithinBounds : Prop :=
  ∀ s t : State, RingsLegal s → AllocationLegal s → step s = .next t → AllocationLegal t

/-- Every step keeps the dispatch queues and the legs in agreement, each queue in its order (R38). -/
def Obligations.StepKeepsQueuesAndLegsAgreeing : Prop :=
  ∀ s t : State, DispatchLegal s → step s = .next t → DispatchLegal t

/-- Every step keeps the ON_WIRE legs and the frames in progress in agreement (R81), in states whose segment records and
queues are legal. -/
def Obligations.StepKeepsOneFrameForEachLegOnWire : Prop :=
  ∀ s t : State, SegmentsLegal s → DispatchLegal s → FramesLegal s → step s = .next t → FramesLegal t

/-- A command moves a slot only along the table of R1. -/
def Obligations.SlotsMoveAlongTheTable : Prop :=
  ∀ (c : Instr) (s t : State) (i : SlotId), exec c s = .next t → (t.slot i).state ∈ slotMoves (s.slot i).state

/-- A FREE slot exists whenever a ring has a slot allowance (R5). -/
def Obligations.AllowanceFindsFreeSlot : Prop :=
  ∀ (s : State) (r : Ring), AllocationLegal s → s.hasAllowance r = true → ∃ i, s.lowestFree = some i

/-! ### Resets -/

/-- COLD_RESET puts every block at its cold values whatever the state, READY 0; COLD_RESET_END makes READY 1. What stands on the
link and the queue of commands are kept: the model's choices, log entries 8 and 37. That a completion ring's coalescing count and
delay are absent then is the model's choice, log entry 41. -/
def Obligations.ColdResetPutsColdValues : Prop :=
  ∀ s : State, ∃ t, exec .coldReset s = .next t ∧
    (∀ i, t.slot i = Slot.empty) ∧ t.lastArrival = 0 ∧ t.lifetimes = #v[0, 20, 200, 2000] ∧
    (∀ e, t.map.get e = MapEntry.empty) ∧ (∀ g, t.queue g = []) ∧ (∀ g, t.seg g = Segment.cold) ∧ t.holdLimit = 1000 ∧
    (∀ r, t.ring r = RequestRing.empty) ∧ t.rotPtr = 1 ∧ t.grantCount = 0 ∧ t.fetch = none ∧
    (∀ c, t.cq c = CompletionRing.empty) ∧ t.cqLast = 3 ∧ t.enable = false ∧ t.adminFault = false ∧ t.status = 0 ∧
    t.adminRqBase = 0 ∧ t.adminCqBase = 0 ∧ t.adminSizes = 0 ∧ t.read = .idle ∧ t.write = none ∧
    t.arbLast = .completionWriter ∧ (∀ c, t.msgPending.get c = false ∧ t.msgHeld.get c = none) ∧
    t.resetting = some .cold ∧ t.link = s.link ∧ t.pending = s.pending ∧
    ∃ u, exec .coldResetEnd t = .next u ∧ u = { t with resetting := none } ∧ u.status = 1

/-- CONTROL_RESET and FUNCTION_LEVEL_RESET put every block at its function-reset values, keeping the configuration; the window
ignores writes and reads 0 but for STATUS; a second reset has no effect; FUNCTION_RESET_END makes READY 1. What stands on the link
and the queue of commands are kept: the model's choices, log entries 8 and 37. That a completion ring's coalescing count and delay
are absent then is the model's choice, log entry 41. -/
def Obligations.FunctionResetKeepsConfiguration : Prop :=
  ∀ s : State, s.resetting = none → ∃ t, exec .controlReset s = .next t ∧ exec .functionLevelReset s = .next t ∧
    (∀ i, t.slot i = Slot.empty) ∧ t.lastArrival = 0 ∧ t.lifetimes = s.lifetimes ∧ t.map = s.map ∧ (∀ g, t.queue g = []) ∧
    (∀ g, t.seg g = { Segment.cold with
      configured := (s.seg g).configured, config := (s.seg g).config, framesOk := (s.seg g).framesOk,
      framesFailed := (s.seg g).framesFailed, retries := (s.seg g).retries, lineEvents := (s.seg g).lineEvents }) ∧
    t.holdLimit = s.holdLimit ∧ (∀ r, t.ring r = RequestRing.empty) ∧ t.rotPtr = 1 ∧ t.grantCount = 0 ∧ t.fetch = none ∧
    (∀ c, t.cq c = CompletionRing.empty) ∧ t.cqLast = 3 ∧ t.enable = false ∧ t.adminRqBase = 0 ∧ t.adminCqBase = 0 ∧
    t.adminSizes = 0 ∧ t.read = .idle ∧ t.write = none ∧ t.arbLast = .completionWriter ∧
    (∀ c, t.msgPending.get c = false ∧ t.msgHeld.get c = none) ∧ t.link = s.link ∧ t.pending = s.pending ∧
    (∀ offset, t.readRegister offset = 0) ∧ (∀ offset width v, exec (.registerWrite offset width v) t = .next t) ∧
    (∀ r v, exec (.rqPost r v) t = .next t) ∧ (∀ c v, exec (.cqRelease c v) t = .next t) ∧
    exec .controlReset t = .next t ∧ exec .functionLevelReset t = .next t ∧
    ∃ u, exec .functionResetEnd t = .next u ∧ u = { t with resetting := none } ∧ u.status = 1

/-! ### The register window -/

/-- A bring-up (R162): with valid admin registers, ring 0 and completion ring 0 become ACTIVE and ENABLE 1; otherwise
ADMIN_FAULT becomes 1 and nothing else changes. The CONTROL write spells the same command. -/
def Obligations.BringUpChecksAdminRegisters : Prop :=
  ∀ s : State, s.resetting = none → s.enable = false → (∀ r, s.ring r = RequestRing.empty) →
    (∀ i, (s.slot i).state = .free) →
    exec (.registerWrite 0 .bits32 1) s = exec .adminBringUp s ∧
    if s.adminRqBase.toNat % 64 = 0 ∧ s.adminCqBase.toNat % 64 = 0 ∧
        s.adminSizes.toNat % 65536 ∈ [16, 32, 64, 128, 256, 512, 1024] ∧
        s.adminSizes.toNat / 65536 ∈ [16, 32, 64, 128, 256, 512, 1024, 2048, 4096] then
      ∃ t, exec .adminBringUp s = .next t ∧
        t = { (s.setRing 0 (t.ring 0)).setCq 0 (t.cq 0) with enable := true, adminFault := false } ∧
        t.ring 0 = { state := .active, producer := 0, consumer := 0, error := none, config := some {
          base := s.adminRqBase, size := s.adminSizes.toNat % 65536, weight := none, reserve := 4, cap := 8, cq := 0 } } ∧
        t.cq 0 = { CompletionRing.empty with state := .active, armed := true, config := some {
          base := s.adminCqBase, size := s.adminSizes.toNat / 65536, count := 1, delay := 0 } } ∧
        t.reserveSum = 4 ∧ t.sharedPool = 60 ∧ t.eligible 0 = false
    else exec .adminBringUp s = .next { s with adminFault := true }

/-- CONTROL.ENABLE after bring-up switches grants on and off and changes nothing else (R163). -/
def Obligations.EnableSwitchesGrantsOnly : Prop :=
  ∀ s : State, s.resetting = none → (s.ring 0).state ≠ .unconfigured →
    exec .enableSet s = .next { s with enable := true } ∧ exec .enableClear s = .next { s with enable := false } ∧
    exec (.registerWrite 0 .bits32 1) s = exec .enableSet s ∧ exec (.registerWrite 0 .bits32 0) s = exec .enableClear s ∧
    ∀ r, { s with enable := false }.eligible r = false

/-- A write to RQ_POST[r] sets the producer index where the ring is configured and the value is below the size, and is ignored
otherwise; a read returns the consumer index, 0 for an UNCONFIGURED ring. Posting the consumer index leaves nothing pending,
posting k records on offers k. While a function reset is in progress the admin registers and RQ_POST take no write (R123).
Values are bits 0 to 15 of the word. -/
def Obligations.RqPostSetsProducerIndex : Prop :=
  ∀ (s : State) (r : Ring) (v : Word), s.resetting = none →
    exec (.rqPost r v) s = .next (
      match (s.ring r).state, (s.ring r).config with
      | .unconfigured, _ => s
      | _, none => s
      | _, some cfg => if v.toNat % 65536 < cfg.size then s.setRing r { s.ring r with producer := v.toNat % 65536 } else s) ∧
    s.readRegister (0x100 + 4 * r.val) =
      (if (s.ring r).state = .unconfigured then 0 else BitVec.ofNat 32 (s.ring r).consumer) ∧
    (∀ (cfg : RingConfig) (k : Nat), (s.ring r).state ≠ .unconfigured → (s.ring r).config = some cfg → cfg.size ≤ 1024 →
      (s.ring r).consumer < cfg.size → k < cfg.size → v.toNat % 65536 = ((s.ring r).consumer + k) % cfg.size →
      ∃ t, exec (.rqPost r v) s = .next t ∧ (t.ring r).pendingCount = k) ∧
    let u := { s with resetting := some .function }
    exec (.rqPost r v) u = .next u ∧ ∀ offset width w, exec (.registerWrite offset width w) u = .next u

/-- A write to CQ_RELEASE[c]: taken where it equals the producer index or releases fewer entries than are unreleased, ignored
otherwise, as for a ring that is not ACTIVE (R134); one that is taken re-arms the ring, which sends its message at once, starts
its delay timer anew, or stays quiet (R141). A full ring and an empty one have both indices equal; with unreleased below size
the head may be written again. -/
def Obligations.CqReleaseFreesEntriesAndRearms : Prop :=
  (∀ (s : State) (c : Cq) (v : Word), s.resetting = none → (s.cq c).state ≠ .active → exec (.cqRelease c v) s = .next s) ∧
  (∀ (s : State) (c : Cq) (cfg : CqConfig), CqsLegal s → (s.cq c).config = some cfg →
    ((s.cq c).unreleased = cfg.size ∨ (s.cq c).unreleased = 0 → (s.cq c).release = (s.cq c).producer) ∧
    ((s.cq c).state = .active → (s.cq c).backlog ≠ [] →
      ((s.cq c).writable = true ↔ (s.cq c).unreleased < cfg.size))) ∧
  ∀ (s : State) (c : Cq) (v : Word) (cfg : CqConfig), s.resetting = none → (s.cq c).config = some cfg →
    let q := s.cq c
    let i := v.toNat % 65536
    let freed := (i + cfg.size - q.release) % cfg.size
    let released : CompletionRing := { q with release := i, unreleased := if i = q.producer then 0 else q.unreleased - freed }
    let sent := { s.setCq c { released with armed := false, sinceMessage := 0, delayTimer := .stopped } with
      msgPending := s.msgPending.set c.val true c.isLt }
    exec (.cqRelease c v) s = .next (
      if q.state ≠ .active ∨ cfg.size ≤ i ∨ (i ≠ q.producer ∧ q.unreleased ≤ freed) then s
      else if q.sinceMessage = 0 then s.setCq c { released with armed := true }
      else if cfg.count ≤ q.sinceMessage then sent
      else if cfg.delay = 0 then sent
      else s.setCq c { released with armed := true, delayTimer := .running cfg.delay })

/-- A write to the window (R159, R160, R173): 64 bits are two words, lower address first; narrower than 32 bits, at an offset
without a register, or to STATUS, it is ignored; the admin registers are taken before bring-up only, a base as a whole or either
half alone; the other registers spell the commands of their own. -/
def Obligations.RegisterWritesByWidthAndOffset : Prop :=
  (∀ (s : State) (offset : Nat) (v : BitVec 64),
    exec (.registerWrite offset .bits8 v) s = .next s ∧ exec (.registerWrite offset .bits16 v) s = .next s ∧
    (∃ t, exec (.registerWrite offset .bits32 v) s = .next t ∧
      exec (.registerWrite offset .bits64 v) s = exec (.registerWrite (offset + 4) .bits32 (v >>> 32)) t)) ∧
  (∀ (s : State) (offset : Nat) (v : BitVec 64), s.resetting = none →
    (offset ∉ [0x000, 0x010, 0x014, 0x018, 0x01C, 0x020] ∧ (∀ r : Ring, offset ≠ 0x100 + 4 * r.val) ∧
      (∀ c : Cq, offset ≠ 0x200 + 4 * c.val) → exec (.registerWrite offset .bits32 v) s = .next s) ∧
    (∀ r : Ring, exec (.registerWrite (0x100 + 4 * r.val) .bits32 v) s = exec (.rqPost r (v.setWidth 32)) s) ∧
    (∀ c : Cq, exec (.registerWrite (0x200 + 4 * c.val) .bits32 v) s = exec (.cqRelease c (v.setWidth 32)) s) ∧
    (v.getLsbD 1 = true → exec (.registerWrite 0x000 .bits32 v) s = exec .controlReset s)) ∧
  ∀ (s : State) (v : BitVec 64), s.resetting = none →
    let open_ := s.enable = false ∧ (s.ring 0).state = .unconfigured
    (open_ →
      exec (.registerWrite 0x010 .bits64 v) s = .next { s with adminRqBase := v } ∧
      exec (.registerWrite 0x018 .bits64 v) s = .next { s with adminCqBase := v } ∧
      exec (.registerWrite 0x010 .bits32 v) s = .next { s with adminRqBase := (s.adminRqBase >>> 32).setWidth 32 ++ v.setWidth 32 } ∧
      exec (.registerWrite 0x014 .bits32 v) s = .next { s with adminRqBase := v.setWidth 32 ++ s.adminRqBase.setWidth 32 } ∧
      exec (.registerWrite 0x018 .bits32 v) s = .next { s with adminCqBase := (s.adminCqBase >>> 32).setWidth 32 ++ v.setWidth 32 } ∧
      exec (.registerWrite 0x01C .bits32 v) s = .next { s with adminCqBase := v.setWidth 32 ++ s.adminCqBase.setWidth 32 } ∧
      exec (.registerWrite 0x020 .bits32 v) s = .next { s with adminSizes := v.setWidth 32 }) ∧
    (¬ open_ → ∀ offset ∈ [0x010, 0x014, 0x018, 0x01C, 0x020], exec (.registerWrite offset .bits32 v) s = .next s)

/-- What a 32-bit read of the window returns outside a reset (R160, R161, R173): STATUS bit by bit, CONTROL, the admin
registers, the indices; 0 at an offset without a register. A narrower read returns the addressed bytes of the word, a 64-bit read
two words, the lower address first (R159). -/
def Obligations.RegisterReadsReflectState : Prop :=
  (∀ (s : State) (offset : Nat), offset % 4 = 0 →
    let bytes (w : Word) : List Byte := [w.setWidth 8, (w >>> 8).setWidth 8, (w >>> 16).setWidth 8, (w >>> 24).setWidth 8]
    (∀ k n, k + n ≤ 4 → s.readWindow (offset + k) n = ((bytes (s.readRegister offset)).drop k).take n) ∧
    s.readWindow offset 8 = bytes (s.readRegister offset) ++ bytes (s.readRegister (offset + 4))) ∧
  ∀ s : State, s.resetting = none →
    (∀ n : Fin 32, (s.readRegister 0x004).getLsbD n.val = (
      if n.val = 0 then true
      else if n.val = 1 then s.adminFault
      else if h : 8 ≤ n.val ∧ n.val < 16 then decide ((s.ring ⟨n.val - 8, by omega⟩).state = .errored)
      else if h : 16 ≤ n.val ∧ n.val < 20 then decide ((s.cq ⟨n.val - 16, by omega⟩).state = .errored)
      else false)) ∧
    s.readRegister 0x000 = (if s.enable then 1 else 0) ∧
    s.readRegister 0x014 ++ s.readRegister 0x010 = s.adminRqBase ∧
    s.readRegister 0x01C ++ s.readRegister 0x018 = s.adminCqBase ∧ s.readRegister 0x020 = s.adminSizes ∧
    (∀ r : Ring, s.readRegister (0x100 + 4 * r.val) =
      if (s.ring r).state = .unconfigured then 0 else BitVec.ofNat 32 (s.ring r).consumer) ∧
    (∀ c : Cq, s.readRegister (0x200 + 4 * c.val) =
      if (s.cq c).state = .unconfigured then 0 else BitVec.ofNat 32 (s.cq c).producer) ∧
    (∀ offset, offset ∉ [0x000, 0x004, 0x010, 0x014, 0x018, 0x01C, 0x020] → (∀ r : Ring, offset ≠ 0x100 + 4 * r.val) →
      (∀ c : Cq, offset ≠ 0x200 + 4 * c.val) → s.readRegister offset = 0)

/-! ### Fetching -/

/-- FETCH_GRANT chooses ring 0 first, else the ring at the rotation pointer while its run lasts, else the next eligible ring in
cyclic order 1 to 7 ending with the pointer's own (R125); it reserves the lowest-numbered FREE slot (R5), records the fetch and
asks for the read of 32 bytes at base + 32 x consumer index (R126). A ring is eligible under the five conditions of R124, its slot
allowance that of R4. With a fetch in flight or no ring eligible, nothing is granted. The grant of FETCH_GRANT is also the one that
FETCH_COMPLETE may make in its own step, log entry 40. -/
def Obligations.FetchGrantChoosesRingAndSlot : Prop :=
  (∀ (s : State) (r : Ring), s.eligible r = true ↔
    s.enable = true ∧ (s.ring r).state = .active ∧ (∀ f, s.fetch = some f → f.ring ≠ r) ∧
    ∃ cfg, (s.ring r).config = some cfg ∧
      ((s.ring r).producer + cfg.size - (s.ring r).consumer) % cfg.size ≠ 0 ∧
      s.held r < cfg.cap ∧ (s.held r < cfg.reserve ∨ s.sharedInUse < 64 - s.reserveSum)) ∧
  (∀ s : State,
    (∀ r, s.held r = (List.finRange 64).countP fun i => decide ((s.slot i).state ≠ .free ∧ (s.slot i).ring = some r)) ∧
    s.sharedInUse = ((List.finRange 8).map fun r => s.held r - (s.ring r).reserve).sum ∧
    s.reserveSum = ((List.finRange 8).map fun r => (s.ring r).reserve).sum ∧
    ∀ r cfg, (s.ring r).config = some cfg →
      (s.ring r).reserve = if (s.ring r).state = .unconfigured then 0 else cfg.reserve) ∧
  (∀ s : State, exec .fetchGrant s = .next (s.grantIf true) ∧ s.grantIf false = s ∧
    (s.fetch ≠ none ∨ (∀ r, s.eligible r = false) → s.grantIf true = s)) ∧
  ∀ (s : State) (r p : Ring) (n : Nat) (i : SlotId) (cfg : RingConfig), s.fetch = none →
    s.eligible r = true → (s.ring r).config = some cfg →
    (s.slot i).state = .free → (∀ j : SlotId, j < i → (s.slot j).state ≠ .free) →
    (r = 0 ∧ p = s.rotPtr ∧ n = s.grantCount ∨
      s.eligible 0 = false ∧ r = s.rotPtr ∧ (∃ w, cfg.weight = some w ∧ s.grantCount < w) ∧ p = r ∧ n = s.grantCount + 1 ∨
      s.eligible 0 = false ∧ s.rotPtr ≠ 0 ∧
        ¬ (s.eligible s.rotPtr = true ∧ ∃ c w, (s.ring s.rotPtr).config = some c ∧ c.weight = some w ∧ s.grantCount < w) ∧
        r ≠ 0 ∧ (∀ q : Ring, q ≠ 0 → (q.val + 7 - s.rotPtr.val - 1) % 7 < (r.val + 7 - s.rotPtr.val - 1) % 7 →
          s.eligible q = false) ∧ p = r ∧ n = 1) →
    exec .fetchGrant s = .next { s.setSlot i { Slot.empty with state := .fetching, ring := some r } with
      rotPtr := p, grantCount := n
      fetch := some { ring := r, index := (s.ring r).consumer, slot := i, discard := false }
      read := .waiting (cfg.base + BitVec.ofNat 64 (32 * (s.ring r).consumer)) }

/-- READ_ISSUE: the waiting read goes onto the link when the other side has nothing waiting or was served last, and its 50 ms
timer starts (R165, R166); with bus mastering disabled it ends at once as an error completion (R166, R128). On the other side a
held message waits once its number is unmasked (R168). That a read not issued counts as served is the model's reading, log
entry 16. -/
def Obligations.ReadIssueFollowsArbiter : Prop :=
  ∀ (s : State) (f : Fetch) (a : Addr) (p : PcieConfig), s.read = .waiting a → s.fetch = some f →
    if (s.write = none ∧ ∀ c : Cq, s.msgPending.get c = false ∧ (s.msgHeld.get c ≠ none → p.mask.getLsbD c.val = true)) ∨
        s.arbLast = .completionWriter then
      (p.busMaster = true → exec (.readIssue p) s = .next { s with
        read := .outstanding a (.running 50000), link := s.link ++ [.readRequest a], arbLast := .ringUnit }) ∧
      (p.busMaster = false → exec (.readIssue p) s =
        exec .fetchError { s with read := .outstanding a (.running 50000), arbLast := .ringUnit })
    else exec (.readIssue p) s = .next s

/-- A record whose fetch was marked for discard, or that an RQ_POST write withdrew, is dropped: its slot is FREE, the consumer
index unchanged and nothing answered; the next grant may follow in the same step (R127). FETCH_ERROR and FETCH_TIMEOUT: the
fetch ends, its slot is FREE and the consumer index unchanged; unless it was marked for discard, the ring is ERRORED with its
reason and a RING_ERROR notice is posted to completion ring 0, and STATUS shows it (R128). A completion that arrives later
changes nothing (R166). -/
def Obligations.FetchesEndWithoutRecord : Prop :=
  ∀ (s : State) (f : Fetch) (why : FetchFailure), (∃ a timer, s.read = .outstanding a timer) → s.fetch = some f →
    (s.slot f.slot).state = .fetching →
    let u := { s.setSlot f.slot Slot.empty with fetch := none, read := .idle }
    (∀ record granted, f.discard = true ∨ (s.ring f.ring).pendingCount = 0 →
      exec (.fetchComplete ⟨record, granted⟩) s = .next (u.grantIf granted)) ∧
    ∃ t, exec (match why with | .readError => .fetchError | .readTimeout => .fetchTimeout) s = .next t ∧
      exec .lateReadCompletion t = .next t ∧ (t.ring f.ring).consumer = (s.ring f.ring).consumer ∧
      if f.discard = true then t = u
      else t = (u.setRing f.ring { s.ring f.ring with state := .errored, error := some why }).postNotice 0
          (.ringError f.ring why) ∧ t.status.getLsbD (8 + f.ring.val) = true

/-- A record that fails one of the checks 1 to 6 of R9 is answered with the status of the first that fails: consumed, its slot
DONE with attempts 0, no legs, no data and no flags, at the tail of its completion ring's backlog (R10). Check 6, the path choice
of R34 and R35: a SINGLE entry's segment is OFF or FAULTED, or neither segment of a PAIR is usable. -/
def Obligations.RefusedRecordIsAnswered : Prop :=
  (∀ (s : State) (f : Fetch) (cfg : RingConfig) (record : Record) (granted : Bool) (status : Status), Arriving s f cfg → IdleTimersFollow s →
    (status = .badRequest ∧ (kindOf record = none ∨ ∃ k, kindOf record = some k ∧
        ((k.isExchange = false ∧ k ∉ [.abort, .hold, .release] ∧ f.ring ≠ 0) ∨
          ((k.isExchange = true ∨ k ∈ [.abort, .hold, .release]) ∧ f.ring = 0) ∨ record[7] ≠ 0 ∨
          (k.isExchange = true ∧ (8 < record[6].toNat ∨ 64 ≤ record[1].toNat)))) ∨
      status = .badTarget ∧ f.ring ≠ 0 ∧ record[7] = 0 ∧ record[6].toNat ≤ 8 ∧ record[1].toNat < 64 ∧
        ∃ k, kindOf record = some k ∧ k.isExchange = true ∧
          ((∀ e : EntryId, ¬ ((s.map.get e).valid = true ∧ (s.map.get e).first.toNat ≤ (nodeOf record).toNat ∧
              (nodeOf record).toNat ≤ (s.map.get e).last.toNat)) ∨
            ∃ e : EntryId, (s.map.get e).valid = true ∧ (s.map.get e).first.toNat ≤ (nodeOf record).toNat ∧
              (nodeOf record).toNat ≤ (s.map.get e).last.toNat ∧
              (∀ d : EntryId, d < e → ¬ ((s.map.get d).valid = true ∧ (s.map.get d).first.toNat ≤ (nodeOf record).toNat ∧
                (nodeOf record).toNat ≤ (s.map.get d).last.toNat)) ∧
              (k = .read ∧ ((s.map.get e).readOk = false ∨ (s.map.get e).kind = .fan) ∨
                k = .write ∧ (s.map.get e).writeOk = false))) →
    exec (.fetchComplete ⟨record, granted⟩) s = .next ((s.consumed f cfg.size granted).answered f.slot (answerRing f cfg)
      (doneWith (arrivedSlot s f cfg record) (plainResult status 0 zeroArea)))) ∧
  ∀ (s : State) (f : Fetch) (cfg : RingConfig) (record : Record) (granted : Bool) (k : Kind) (e : EntryId) (status : Status),
    Arriving s f cfg → IdleTimersFollow s → f.ring ≠ 0 → kindOf record = some k → k.isExchange = true → record[7] = 0 →
    record[6].toNat ≤ 8 → record[1].toNat < 64 → Matches s e (nodeOf record) →
    (k = .read → (s.map.get e).readOk = true ∧ (s.map.get e).kind ≠ .fan) → (k = .write → (s.map.get e).writeOk = true) →
    let a := (s.seg (s.map.get e).segA).lineState
    let b := (s.seg (s.map.get e).segB).lineState
    ((s.map.get e).kind = .single ∧ a = .off ∧ status = .outcome .segmentOff ∨
      (s.map.get e).kind = .single ∧ (∃ why, a = .faulted why) ∧ status = .outcome .segmentFault ∨
      (s.map.get e).kind = .pair ∧ a ∉ ([.syncing, .active, .dormant, .waking] : List LineState) ∧
        b ∉ ([.syncing, .active, .dormant, .waking] : List LineState) ∧ status = .noPath) →
    exec (.fetchComplete ⟨record, granted⟩) s = .next ((s.consumed f cfg.size granted).answered f.slot (answerRing f cfg)
      (doneWith (arrivedSlot s f cfg record) (plainResult status 0 zeroArea)))

/-- A READ or WRITE that resolves to a SINGLE entry on a usable segment is accepted: its slot is LIVE with the copied fields,
its deadline and one WAITING leg, which joins the segment's queue before the lower priorities and after everything else; a
DORMANT segment with wake_on_demand starts its wake pulse (R11, R12, R15, R30, R32, R34, R40, R93).
One that resolves to a PAIR with a usable segment has one leg, on the primary where that is usable, else on the secondary with
both flags set (R35); one to a FAN has a leg for each segment of the mask, FINISHED where it is not usable (R36). Each WAITING leg
joins its queue; a FAN with none goes DONE at once. -/
def Obligations.SingleExchangeIsAccepted : Prop :=
  (∀ (s : State) (f : Fetch) (cfg : RingConfig) (record : Record) (granted : Bool) (k : Kind) (e : EntryId),
    Arriving s f cfg → IdleTimersFollow s → DispatchLegal s → SegmentsLegal s → f.ring ≠ 0 →
    kindOf record = some k → k.isExchange = true → record[7] = 0 → record[6].toNat ≤ 8 → record[1].toNat < 64 →
    (s.map.get e).valid = true → (s.map.get e).first.toNat ≤ (nodeOf record).toNat →
    (nodeOf record).toNat ≤ (s.map.get e).last.toNat →
    (∀ d : EntryId, d < e → ¬ ((s.map.get d).valid = true ∧ (s.map.get d).first.toNat ≤ (nodeOf record).toNat ∧
      (nodeOf record).toNat ≤ (s.map.get d).last.toNat)) →
    (s.map.get e).kind = .single → (k = .read → (s.map.get e).readOk = true) → (k = .write → (s.map.get e).writeOk = true) →
    (s.seg (s.map.get e).segA).lineState ∈ [.syncing, .active, .dormant, .waking] →
    let g := (s.map.get e).segA
    let id := (s.map.get e).idBase.toNat + ((nodeOf record).toNat - (s.map.get e).first.toNat)
    let life := s.lifetimes.get (timeoutClassOf record)
    let slot := { arrivedSlot s f cfg record with
      state := .live
      exchange := some {
        target := .single g, frameId := id, direction := if k = .read then .dirIn else .dirOut
        confirmed := decide (k = .write) && decide (id ≤ 63), length := record[6].toNat, priority := priorityOf record
        timeoutClass := timeoutClassOf record, retryBudget := retryBudgetOf record }
      payload := if k = .write then some (payloadOf record) else none
      deadline := if life = 0 then .absent else .running life.toNat
      deadlineTimer := if life = 0 then .stopped else .running (life.toNat * 1000)
      legs := [{ segment := g, state := .waiting, path := none, retriesLeft := retryBudgetOf record, attempts := 0
                 lastFrameSeg := none, outcome := none }] }
    let wakes := (s.seg g).lineState = .dormant ∧ (s.seg g).config.wakeOnDemand = true ∧ (s.seg g).wakePulse = none
    exec (.fetchComplete ⟨record, granted⟩) s = .next ((((s.consumed f cfg.size granted).setSlot f.slot slot).setQueue g
      ((s.queue g).filter (fun j => decide (priorityOf record ≤ s.priorityOf j)) ++ f.slot ::
        (s.queue g).filter (fun j => decide (s.priorityOf j < priorityOf record)))).setSeg g
      { s.seg g with
        idleTimer := .stopped
        wakePulse := if wakes then some .onDemand else (s.seg g).wakePulse
        line := if wakes then .wakePulse else (s.seg g).line })) ∧
  ∀ (s : State) (f : Fetch) (cfg : RingConfig) (record : Record) (granted : Bool) (k : Kind) (e : EntryId),
    Arriving s f cfg → IdleTimersFollow s → DispatchLegal s → SegmentsLegal s → f.ring ≠ 0 →
    kindOf record = some k → k.isExchange = true → record[7] = 0 → record[6].toNat ≤ 8 → record[1].toNat < 64 →
    Matches s e (nodeOf record) → (k = .read → (s.map.get e).readOk = true ∧ (s.map.get e).kind ≠ .fan) →
    (k = .write → (s.map.get e).writeOk = true) →
    let m := s.map.get e
    let usable (g : Seg) : Bool := decide ((s.seg g).lineState ∈ ([.syncing, .active, .dormant, .waking] : List LineState))
    (m.kind = .pair ∧ (usable m.segA = true ∨ usable m.segB = true) ∨ m.kind = .fan) →
    let id := m.idBase.toNat + ((nodeOf record).toNat - m.first.toNat)
    let life := s.lifetimes.get (timeoutClassOf record)
    let alternate := decide (m.kind = .pair) && !usable m.segA
    let leg (g : Seg) (path : Option Path) : Leg := {
      segment := g, state := .waiting, path := path, retriesLeft := retryBudgetOf record, attempts := 0
      lastFrameSeg := none, outcome := none }
    let legs : List Leg :=
      if m.kind = .fan then ((List.finRange 8).filter fun g => m.fanMask.getLsbD g.val).map fun g =>
        if usable g then leg g none
        else { leg g none with
          state := .finished, outcome := some (if (s.seg g).lineState = .off then .segmentOff else .segmentFault) }
      else if usable m.segA then [leg m.segA (some .primary)] else [leg m.segB (some .secondary)]
    let x : Exchange := {
      target := if m.kind = .fan then .fan m.fanMask else .pair m.segA m.segB
      frameId := id, direction := if k = .read then .dirIn else .dirOut
      confirmed := decide (k = .write) && decide (id ≤ 63), length := record[6].toNat, priority := priorityOf record
      timeoutClass := timeoutClassOf record, retryBudget := retryBudgetOf record }
    let slot := { arrivedSlot s f cfg record with
      state := .live
      exchange := some x
      payload := if k = .write then some (payloadOf record) else none
      deadline := if life = 0 then .absent else .running life.toNat
      deadlineTimer := if life = 0 then .stopped else .running (life.toNat * 1000)
      failoverUsed := alternate, alternatePath := alternate
      legs := legs }
    let u := s.consumed f cfg.size granted
    ((∃ l ∈ legs, l.state = .waiting) → ∃ t, exec (.fetchComplete ⟨record, granted⟩) s = .next t ∧
      t = { u.setSlot f.slot slot with queues := t.queues, segs := t.segs } ∧
      ∀ g, ((∃ l ∈ legs, l.segment = g ∧ l.state = .waiting) →
          t.queue g = (s.queue g).filter (fun j => decide (priorityOf record ≤ s.priorityOf j)) ++ f.slot ::
            (s.queue g).filter (fun j => decide (s.priorityOf j < priorityOf record)) ∧
          t.seg g = joinedRecord (s.seg g)) ∧
        ((∀ l ∈ legs, l.segment = g → l.state ≠ .waiting) → t.queue g = s.queue g ∧ t.seg g = s.seg g)) ∧
    ((∀ l ∈ legs, l.state = .finished) → exec (.fetchComplete ⟨record, granted⟩) s =
      .next (u.answered f.slot (answerRing f cfg) (doneWith slot (exchangeResult slot x))))

/-! ### Administration and control requests -/

/-- SET_LIMITS: a hold_limit of 0 refuses it with BAD_REQUEST and changes no value; otherwise all five values are written in
the acceptance step, nothing already started changes, and it completes OK with no data (R154). Function reset keeps the five
values, cold reset returns them to 0, 20, 200, 2000 and 1000 ms. -/
def Obligations.SetLimitsWritesFiveValues : Prop :=
  (∀ (s : State) (f : Fetch) (cfg : RingConfig) (record : Record) (granted : Bool) (a : SetLimitsArgs), Arriving s f cfg →
    IdleTimersFollow s → f.ring = 0 → kindOf record = some .setLimits → record[7] = 0 →
    argsOf .setLimits record = some (.setLimits a) →
    let x := arrivedSlot s f cfg record
    exec (.fetchComplete ⟨record, granted⟩) s = .next (
      if a.holdLimit = 0 then
        (s.consumed f cfg.size granted).answered f.slot 0 (doneWith x (plainResult .badRequest 0 zeroArea))
      else
        { (s.consumed f cfg.size granted).answered f.slot 0
            (doneWith { x with args := some (.setLimits a) } (plainResult (.outcome .ok) 0 zeroArea)) with
          lifetimes := #v[a.class0, a.class1, a.class2, a.class3], holdLimit := a.holdLimit })) ∧
  (∀ s t : State, exec .controlReset s = .next t → t.lifetimes = s.lifetimes ∧ t.holdLimit = s.holdLimit) ∧
  ∀ s t : State, exec .coldReset s = .next t → t.lifetimes = #v[0, 20, 200, 2000] ∧ t.holdLimit = 1000

/-- MAP_WRITE: the checks of R27, the first that fails refusing it with BAD_REQUEST and no entry changed; otherwise the entry
is replaced with the fields its kind uses, or cleared where valid is no, and it completes OK (R28). -/
def Obligations.MapWriteReplacesEntry : Prop :=
  ∀ (s : State) (f : Fetch) (cfg : RingConfig) (record : Record) (granted : Bool) (a : MapWriteArgs), Arriving s f cfg →
    IdleTimersFollow s → f.ring = 0 → kindOf record = some .mapWrite → record[7] = 0 →
    argsOf .mapWrite record = some (.mapWrite a) →
    let x := arrivedSlot s f cfg record
    let valid := a.flags.getLsbD 0
    let passes := a.entry.toNat ≤ 31 ∧ (valid = false ∨
      a.kind.toNat ≤ 2 ∧ a.first.toNat ≤ a.last.toNat ∧ a.idBase.toNat + (a.last.toNat - a.first.toNat) ≤ 119 ∧
        (a.kind.toNat ≤ 1 → a.segA.toNat ≤ 7) ∧ (a.kind = 1 → a.segB.toNat ≤ 7 ∧ a.segB ≠ a.segA) ∧
        (a.kind = 2 → a.fanMask ≠ 0))
    (¬ passes → exec (.fetchComplete ⟨record, granted⟩) s = .next (
      (s.consumed f cfg.size granted).answered f.slot 0 (doneWith x (plainResult .badRequest 0 zeroArea)))) ∧
    (passes → ∃ t, exec (.fetchComplete ⟨record, granted⟩) s = .next t ∧
      t = { (s.consumed f cfg.size granted).answered f.slot 0
          (doneWith { x with args := some (.mapWrite a) } (plainResult (.outcome .ok) 0 zeroArea)) with map := t.map } ∧
      ∀ e : EntryId, t.map.get e =
        if e.val ≠ a.entry.toNat then s.map.get e
        else if valid = false then MapEntry.empty
        else {
          valid := true, first := a.first, last := a.last
          kind := if a.kind = 0 then .single else if a.kind = 1 then .pair else .fan
          segA := if a.kind = 2 then 0 else Fin.ofNat 8 a.segA.toNat
          segB := if a.kind = 1 then Fin.ofNat 8 a.segB.toNat else 0
          fanMask := if a.kind = 2 then a.fanMask else 0
          idBase := a.idBase, readOk := a.flags.getLsbD 1, writeOk := a.flags.getLsbD 2 })

/-- MAP_READ returns the half of the entry's 12-byte image that the selector names, bytes 0 to 7 or 4 to 11, and changes nothing
(R29, R171). SEGMENT_QUERY returns line state, hold state and holder ring, queue length and the low 24 bits of the two selected
counters, and changes nothing but, with the clear option, those counters (R101, R152, R171). -/
def Obligations.ReadRequestsReturnEightBytes : Prop :=
  (∀ (s : State) (f : Fetch) (cfg : RingConfig) (record : Record) (granted : Bool) (entry half : Byte), Arriving s f cfg →
    IdleTimersFollow s → f.ring = 0 → kindOf record = some .mapRead → record[7] = 0 →
    argsOf .mapRead record = some (.mapRead entry half) →
    let x := arrivedSlot s f cfg record
    let m := s.map.get (Fin.ofNat 32 entry.toNat)
    let image : List Byte := [
      (if m.valid then 1 else 0) + (if m.readOk then 2 else 0) + (if m.writeOk then 4 else 0),
      match m.kind with | .single => 0 | .pair => 1 | .fan => 2,
      BitVec.ofNat 8 m.segA.val, BitVec.ofNat 8 m.segB.val, m.fanMask, m.idBase,
      BitVec.ofNat 8 (m.idBase.toNat + (m.last.toNat - m.first.toNat)), 0,
      m.first.setWidth 8, (m.first >>> 8).setWidth 8, m.last.setWidth 8, (m.last >>> 8).setWidth 8]
    exec (.fetchComplete ⟨record, granted⟩) s = .next ((s.consumed f cfg.size granted).answered f.slot 0 (
      if 31 < entry.toNat ∨ 1 < half.toNat then doneWith x (plainResult .badRequest 0 zeroArea)
      else doneWith { x with args := some (.mapRead entry half) }
        (plainResult (.outcome .ok) 8 (if half = 0 then image.take 8 else image.drop 4))))) ∧
  ∀ (s : State) (f : Fetch) (cfg : RingConfig) (record : Record) (granted : Bool) (a : SegQueryArgs), Arriving s f cfg →
    IdleTimersFollow s → f.ring = 0 → kindOf record = some .segQuery → record[7] = 0 →
    argsOf .segQuery record = some (.segQuery a) →
    let x := arrivedSlot s f cfg record
    let y := s.seg (Fin.ofNat 8 a.seg.toNat)
    let line : Nat := match y.lineState with
      | .off => 0 | .syncing => 1 | .active => 2 | .dormant => 3 | .waking => 4
      | .faulted .foreign => 5 | .faulted .stuck => 6 | .faulted .noIdle => 7
    let hold : Nat := match y.hold with
      | .none => 0 | .draining r _ => 1 * 8 + r.val * 32 | .held r _ => 2 * 8 + r.val * 32
    let counter (n : Byte) : Word :=
      if n = 0 then y.framesOk else if n = 1 then y.framesFailed else if n = 2 then y.retries else y.lineEvents
    let low24 (w : Word) : List Byte := [w.setWidth 8, (w >>> 8).setWidth 8, (w >>> 16).setWidth 8]
    let area : List Byte := [BitVec.ofNat 8 (line + hold), BitVec.ofNat 8 (s.queue (Fin.ofNat 8 a.seg.toNat)).length] ++
      low24 (counter a.first) ++ low24 (counter a.second)
    let cleared (n : Nat) (w : Word) : Word := if a.clear = 1 ∧ (a.first.toNat = n ∨ a.second.toNat = n) then 0 else w
    exec (.fetchComplete ⟨record, granted⟩) s = .next (
      if 7 < a.seg.toNat ∨ 3 < a.first.toNat ∨ 3 < a.second.toNat ∨ 1 < a.clear.toNat then
        (s.consumed f cfg.size granted).answered f.slot 0 (doneWith x (plainResult .badRequest 0 zeroArea))
      else
        ((s.consumed f cfg.size granted).answered f.slot 0
          (doneWith { x with args := some (.segQuery a) } (plainResult (.outcome .ok) 8 area))).setSeg
          (Fin.ofNat 8 a.seg.toNat) { y with
            framesOk := cleared 0 y.framesOk, framesFailed := cleared 1 y.framesFailed, retries := cleared 2 y.retries
            lineEvents := cleared 3 y.lineEvents })

/-- RING_CREATE: the ten checks in their order decide the status; one that passes makes the ring ACTIVE with its indices 0 and
completes OK, one that fails leaves every ring as it was (R145, R146). CQ_CREATE: likewise with its five checks; one that passes
makes the completion ring ACTIVE and armed, its indices 0 and its phase 1 (R148, R131). Check 10 counts the slot of a grant made in
the same step, before the acceptance: the model's choice, log entry 40. -/
def Obligations.RingCreateChecksInOrder : Prop :=
  (∀ (s : State) (f : Fetch) (cfg : RingConfig) (record : Record) (granted : Bool) (a : RingCreateArgs), Arriving s f cfg →
    IdleTimersFollow s → f.ring = 0 → kindOf record = some .ringCreate → record[7] = 0 →
    argsOf .ringCreate record = some (.ringCreate a) →
    let x := arrivedSlot s f cfg record
    let r : Ring := Fin.ofNat 8 a.ring.toNat
    let refusal : Option Status :=
      if a.ring.toNat < 1 ∨ 7 < a.ring.toNat then some .badRequest
      else if a.base.toNat % 64 ≠ 0 then some .badRequest
      else if a.size.toNat ∉ [16, 32, 64, 128, 256, 512, 1024] then some .badRequest
      else if a.weight.toNat < 1 ∨ 15 < a.weight.toNat then some .badRequest
      else if 16 < a.reserve.toNat then some .badRequest
      else if a.cap.toNat < 1 ∨ 64 < a.cap.toNat ∨ a.cap.toNat < a.reserve.toNat then some .badRequest
      else if 3 < a.cq.toNat then some .badRequest
      else if (s.ring r).state ≠ .unconfigured then some .inUse
      else if (s.cq (Fin.ofNat 4 a.cq.toNat)).state ≠ .active then some .notFound
      else if 64 < s.reserveSum + a.reserve.toNat + (s.consumed f cfg.size granted).sharedInUse then some .noSpace
      else none
    exec (.fetchComplete ⟨record, granted⟩) s = .next (
      match refusal with
      | some status => (s.consumed f cfg.size granted).answered f.slot 0 (doneWith x (plainResult status 0 zeroArea))
      | none =>
        ((s.consumed f cfg.size granted).answered f.slot 0
          (doneWith { x with args := some (.ringCreate a) } (plainResult (.outcome .ok) 0 zeroArea))).setRing r
          { state := .active, producer := 0, consumer := 0, error := none
            config := some {
              base := a.base, size := a.size.toNat, weight := some a.weight.toNat, reserve := a.reserve.toNat
              cap := a.cap.toNat, cq := Fin.ofNat 4 a.cq.toNat } })) ∧
  ∀ (s : State) (f : Fetch) (cfg : RingConfig) (record : Record) (granted : Bool) (a : CqCreateArgs),
    Arriving s f cfg → IdleTimersFollow s → f.ring = 0 → kindOf record = some .cqCreate → record[7] = 0 →
    argsOf .cqCreate record = some (.cqCreate a) →
    let x := arrivedSlot s f cfg record
    let c : Cq := Fin.ofNat 4 a.cq.toNat
    let refusal : Option Status :=
      if a.cq.toNat < 1 ∨ 3 < a.cq.toNat then some .badRequest
      else if a.base.toNat % 64 ≠ 0 then some .badRequest
      else if a.size.toNat ∉ [16, 32, 64, 128, 256, 512, 1024, 2048, 4096] then some .badRequest
      else if a.count.toNat < 1 then some .badRequest
      else if (s.cq c).state ≠ .unconfigured then some .inUse
      else none
    exec (.fetchComplete ⟨record, granted⟩) s = .next (
      match refusal with
      | some status => (s.consumed f cfg.size granted).answered f.slot 0 (doneWith x (plainResult status 0 zeroArea))
      | none =>
        ((s.consumed f cfg.size granted).setCq c {
            state := .active, producer := 0, release := 0, unreleased := 0, phase := true, backlog := []
            noticesWaiting := 0, noticesLost := false, sinceMessage := 0, delayTimer := .stopped, armed := true
            config := some {
              base := a.base, size := a.size.toNat, count := a.count.toNat, delay := a.delay.toNat } }).answered f.slot 0
          (doneWith { x with args := some (.cqCreate a) } (plainResult (.outcome .ok) 0 zeroArea)))

/-- SEGMENT_CONFIG: the nine checks of R150 in their order; one that passes replaces all eight fields and sets configured, and
completes OK (R80). -/
def Obligations.SegmentConfigReplacesAllFields : Prop :=
  ∀ (s : State) (f : Fetch) (cfg : RingConfig) (record : Record) (granted : Bool) (a : SegConfigArgs), Arriving s f cfg →
    IdleTimersFollow s → f.ring = 0 → kindOf record = some .segConfig → record[7] = 0 →
    argsOf .segConfig record = some (.segConfig a) →
    let x := arrivedSlot s f cfg record
    let g : Seg := Fin.ofNat 8 a.seg.toNat
    let refusal : Option Status :=
      if 7 < a.seg.toNat then some .badRequest
      else if a.bitTicks.toNat < 200 ∨ 20833 < a.bitTicks.toNat then some .badRequest
      else if a.wbase.toNat < 4 ∨ 63 < a.wbase.toNat then some .badRequest
      else if a.wbyte.toNat < 10 ∨ 15 < a.wbyte.toNat then some .badRequest
      else if a.guard.toNat < 4 then some .badRequest
      else if a.wakeSettle = 0 then some .badRequest
      else if 1 < a.wakeOnDemand.toNat then some .badRequest
      else if 3 < a.noticeCq.toNat then some .badRequest
      else if (s.seg g).lineState ≠ .off then some .inUse
      else none
    exec (.fetchComplete ⟨record, granted⟩) s = .next (
      match refusal with
      | some status => (s.consumed f cfg.size granted).answered f.slot 0 (doneWith x (plainResult status 0 zeroArea))
      | none =>
        ((s.consumed f cfg.size granted).answered f.slot 0
          (doneWith { x with args := some (.segConfig a) } (plainResult (.outcome .ok) 0 zeroArea))).setSeg g
          { s.seg g with
            configured := true
            config := {
              bitTicks := a.bitTicks, wbase := a.wbase, wbyte := a.wbyte, guard := a.guard
              idleToDormant := a.idleToDormant, wakeSettle := a.wakeSettle, wakeOnDemand := decide (a.wakeOnDemand = 1)
              noticeCq := Fin.ofNat 4 a.noticeCq.toNat } })

/-- SEGMENT_START on an OFF, configured segment: SYNCING with START pending for the request's LIVE slot and the recessive run
measured; refused with BUSY otherwise (R87).
SEGMENT_STOP is refused with BUSY while an operation is pending, waits with STOP pending for a frame in progress, and otherwise
takes the segment OFF at once: its queue displaced, its hold lost with the LIVE HOLDs that name it, its configuration and counters
kept (R95, R96, R110, R112). SEGMENT_RESET does so in every line state, a frame in progress cut, a pending operation completed
SEGMENT_RESET (R97). A segment number above 7 is refused with
BAD_REQUEST (R151). The progress recorded in a LIVE request's slot (R13) is the stage
of log entry 39. That a segment in the own set of one LIVE HOLD and named by another posts no HOLD_LOST is log entry 12. -/
def Obligations.SegmentStartEntersSyncing : Prop :=
  (∀ (s : State) (f : Fetch) (cfg : RingConfig) (record : Record) (granted : Bool) (b : Byte), Arriving s f cfg → IdleTimersFollow s →
    f.ring = 0 → kindOf record = some .segStart → record[7] = 0 → argsOf .segStart record = some (.segStart b) →
    b.toNat ≤ 7 →
    let x := arrivedSlot s f cfg record
    let g : Seg := Fin.ofNat 8 b.toNat
    exec (.fetchComplete ⟨record, granted⟩) s = .next (
      if (s.seg g).lineState = .off ∧ (s.seg g).configured = true then
        ((s.consumed f cfg.size granted).setSlot f.slot { x with state := .live, args := some (.segStart b), progress := some .synchronizing }).setSeg g
          { s.seg g with lineState := .syncing, pendingOp := some { op := .start, slot := f.slot }, run := .counting }
      else (s.consumed f cfg.size granted).answered f.slot 0 (doneWith x (plainResult .busy 0 zeroArea)))) ∧
  (∀ (s : State) (f : Fetch) (cfg : RingConfig) (record : Record) (granted : Bool) (b : Byte), Arriving s f cfg → IdleTimersFollow s →
    f.ring = 0 → kindOf record = some .segStop → record[7] = 0 → argsOf .segStop record = some (.segStop b) →
    b.toNat ≤ 7 →
    let x := arrivedSlot s f cfg record
    let g : Seg := Fin.ofNat 8 b.toNat
    let u := s.consumed f cfg.size granted
    let taken := { x with args := some (OpArgs.segStop b) }
    let ok := doneWith taken (plainResult (.outcome .ok) 0 zeroArea)
    let busy := doneWith x (plainResult .busy 0 zeroArea)
    ((s.seg g).pendingOp ≠ none → exec (.fetchComplete ⟨record, granted⟩) s = .next (u.answered f.slot 0 busy)) ∧
    ((s.seg g).pendingOp = none →
      ((s.seg g).lineState = .off → exec (.fetchComplete ⟨record, granted⟩) s = .next (u.answered f.slot 0 ok)) ∧
      (∀ why, (s.seg g).lineState = .faulted why → exec (.fetchComplete ⟨record, granted⟩) s =
        .next ((u.answered f.slot 0 ok).setSeg g { s.seg g with lineState := .off })) ∧
      ((s.seg g).lineState = .active → (s.seg g).frame ≠ none → exec (.fetchComplete ⟨record, granted⟩) s =
        .next ((u.setSlot f.slot { taken with state := .live, progress := some .awaitingFrameEnd }).setSeg g
          { s.seg g with pendingOp := some { op := .stop, slot := f.slot }, idleTimer := .stopped })) ∧
      ((s.seg g).lineState = .active ∧ (s.seg g).frame = none ∨ (s.seg g).lineState = .dormant ∨
          (s.seg g).lineState = .waking → DispatchLegal s →
        ∃ t, exec (.fetchComplete ⟨record, granted⟩) s = .next t ∧ Displaced u t g .segmentStopped ∧
          t.seg g = offRecord (s.seg g) ∧ OnlyWork u t ∧ t.slot f.slot = u.posted 0 ok ∧ HoldLost u t g .stopped ∧
          (s.queue g = [] → (s.seg g).hold = .none → (∀ i, ¬ HoldEnds u g .stopped i) →
            t = (u.answered f.slot 0 ok).setSeg g (offRecord (s.seg g)))))) ∧
  (∀ (s : State) (f : Fetch) (cfg : RingConfig) (record : Record) (granted : Bool) (b : Byte), Arriving s f cfg → IdleTimersFollow s →
    f.ring = 0 → kindOf record = some .segReset → record[7] = 0 → argsOf .segReset record = some (.segReset b) →
    b.toNat ≤ 7 →
    let x := arrivedSlot s f cfg record
    let g : Seg := Fin.ofNat 8 b.toNat
    let u := s.consumed f cfg.size granted
    let taken := { x with args := some (OpArgs.segReset b) }
    let ok := doneWith taken (plainResult (.outcome .ok) 0 zeroArea)
    let busy := doneWith x (plainResult .busy 0 zeroArea)
    DispatchLegal s → ∃ t, exec (.fetchComplete ⟨record, granted⟩) s = .next t ∧ Displaced u t g .segmentReset ∧
      FrameCut u t g .segmentReset ∧ HoldLost u t g .reset ∧ OnlyWork u t ∧ t.slot f.slot = u.posted 0 ok ∧
      t.seg g = { offRecord (s.seg g) with
        framesFailed := if (s.seg g).frame = none then (s.seg g).framesFailed else (s.seg g).framesFailed + 1 } ∧
      (∀ (p : PendingOp) (c : Cq), (s.seg g).pendingOp = some p → (s.slot p.slot).state = .live →
        (s.slot p.slot).exchange = none → (s.slot p.slot).kind ≠ some .hold → (s.slot p.slot).cq = some c →
        t.slot p.slot = u.posted c (doneWith (s.slot p.slot) (plainResult (.outcome .segmentReset) 0 zeroArea))) ∧
      (s.queue g = [] → (s.seg g).hold = .none → (s.seg g).frame = none → (s.seg g).pendingOp = none →
        (∀ i, ¬ HoldEnds u g .reset i) → t = (u.answered f.slot 0 ok).setSeg g (offRecord (s.seg g)))) ∧
  ∀ (s : State) (f : Fetch) (cfg : RingConfig) (record : Record) (granted : Bool) (k : Kind) (b : Byte),
    Arriving s f cfg → IdleTimersFollow s → f.ring = 0 → kindOf record = some k → record[7] = 0 → 7 < b.toNat →
    (k, argsOf k record) ∈ [(.segStart, some (.segStart b)), (.segStop, some (.segStop b)), (.segReset, some (.segReset b)),
      (.segSleep, some (.segSleep b)), (.segWake, some (.segWake b))] →
    exec (.fetchComplete ⟨record, granted⟩) s = .next ((s.consumed f cfg.size granted).answered f.slot 0
      (doneWith (arrivedSlot s f cfg record) (plainResult .badRequest 0 zeroArea)))

/-- HOLD of one usable segment with hold NONE (R107, R108): held back by a frame of another ring or a dormancy command it is
DRAINING and the HOLD LIVE; otherwise it is HELD with its timer started from hold_limit and the HOLD completes OK.
HOLD of any set that passes R107: a segment already HELD by the ring is unchanged and granted, one that is NONE is HELD and
granted or DRAINING, and the HOLD completes OK where all are granted (R108). A HOLD that fails a check of R107 changes no segment. -/
def Obligations.HoldOfOneSegment : Prop :=
  (∀ (s : State) (f : Fetch) (cfg : RingConfig) (record : Record) (granted : Bool) (g : Seg), Arriving s f cfg → IdleTimersFollow s →
    f.ring ≠ 0 → kindOf record = some .hold → record[7] = 0 →
    argsOf .hold record = some (.hold (BitVec.twoPow 8 g.val)) →
    (s.seg g).hold = .none → (s.seg g).lineState ∈ [.syncing, .active, .dormant, .waking] →
    let m : SegSet := BitVec.twoPow 8 g.val
    let x := { arrivedSlot s f cfg record with args := some (.hold m) }
    let backed := ∃ fr, (s.seg g).frame = some fr ∧
      ((∃ o, fr.carrier = .dormancy o) ∨ ∃ i, fr.carrier = .exchange i ∧
        ((s.consumed f cfg.size granted).slot i).ring ≠ some f.ring)
    (backed → exec (.fetchComplete ⟨record, granted⟩) s = .next (
      ((s.consumed f cfg.size granted).setSlot f.slot { x with state := .live, progress := some (.hold { own := m, granted := 0 }) }).setSeg g
        { s.seg g with hold := .draining f.ring f.slot, idleTimer := .stopped })) ∧
    (¬ backed → exec (.fetchComplete ⟨record, granted⟩) s = .next (
      ((s.consumed f cfg.size granted).answered f.slot (answerRing f cfg)
        (doneWith { x with progress := some (.hold { own := m, granted := m }) } (plainResult (.outcome .ok) 0 zeroArea))).setSeg g
        { s.seg g with hold := .held f.ring s.holdLimit, idleTimer := .stopped }))) ∧
  (∀ (s : State) (f : Fetch) (cfg : RingConfig) (record : Record) (granted : Bool) (m own granted' : SegSet), Arriving s f cfg →
    IdleTimersFollow s → f.ring ≠ 0 → kindOf record = some .hold → record[7] = 0 → argsOf .hold record = some (.hold m) →
    m ≠ 0 →
    let u := s.consumed f cfg.size granted
    let backed (g : Seg) : Prop := ∃ fr, (s.seg g).frame = some fr ∧
      ((∃ o, fr.carrier = .dormancy o) ∨ ∃ i, fr.carrier = .exchange i ∧ (u.slot i).ring ≠ some f.ring)
    (∀ g : Seg, m.getLsbD g.val = true → (s.seg g).lineState ∈ ([.syncing, .active, .dormant, .waking] : List LineState) ∧
      ((s.seg g).hold = .none ∨ ∃ ms, (s.seg g).hold = .held f.ring ms)) →
    (∀ g : Seg, own.getLsbD g.val = true ↔ m.getLsbD g.val = true ∧ (s.seg g).hold = .none) →
    (∀ g : Seg, granted'.getLsbD g.val = true ↔ m.getLsbD g.val = true ∧ ((s.seg g).hold = .none → ¬ backed g)) →
    let x := { arrivedSlot s f cfg record with args := some (.hold m), progress := some (.hold { own := own, granted := granted' }) }
    ∃ t, exec (.fetchComplete ⟨record, granted⟩) s = .next t ∧ IdleTimersFollow t ∧
      t = { if granted' = m then u.answered f.slot (answerRing f cfg) (doneWith x (plainResult (.outcome .ok) 0 zeroArea))
            else u.setSlot f.slot { x with state := .live } with segs := t.segs } ∧
      ∀ g : Seg,
        (own.getLsbD g.val = false → t.seg g = { s.seg g with idleTimer := (t.seg g).idleTimer }) ∧
        (own.getLsbD g.val = true → backed g →
          t.seg g = { s.seg g with hold := .draining f.ring f.slot, idleTimer := .stopped }) ∧
        (own.getLsbD g.val = true → ¬ backed g →
          t.seg g = { s.seg g with hold := .held f.ring s.holdLimit, idleTimer := .stopped })) ∧
  ∀ (s : State) (f : Fetch) (cfg : RingConfig) (record : Record) (granted : Bool) (m : SegSet) (status : Status), Arriving s f cfg →
    IdleTimersFollow s → f.ring ≠ 0 → kindOf record = some .hold → record[7] = 0 → argsOf .hold record = some (.hold m) →
    let named (p : Segment → Prop) : Prop := ∃ g : Seg, m.getLsbD g.val = true ∧ p (s.seg g)
    let others (y : Segment) : Prop := y.hold.holder ≠ none ∧ y.hold.holder ≠ some f.ring
    let draining (y : Segment) : Prop := ∃ i, y.hold = .draining f.ring i
    (status = .badRequest ∧ m = 0 ∨
      status = .conflict ∧ named others ∨
      status = .busy ∧ ¬ named others ∧ named draining ∨
      status = .outcome .segmentOff ∧ ¬ named others ∧ ¬ named draining ∧ named (·.lineState = .off) ∨
      status = .outcome .segmentFault ∧ ¬ named others ∧ ¬ named draining ∧ ¬ named (·.lineState = .off) ∧
        named (fun y => ∃ why, y.lineState = .faulted why)) →
    exec (.fetchComplete ⟨record, granted⟩) s = .next ((s.consumed f cfg.size granted).answered f.slot (answerRing f cfg)
      (doneWith (arrivedSlot s f cfg record) (plainResult status 0 zeroArea)))

/-- RELEASE: an empty mask is refused with BAD_REQUEST. With no LIVE HOLD of the ring naming a released segment, each named
segment held or draining for the ring returns to NONE with no notice, all others are unchanged, and the RELEASE completes OK if
every named segment was the ring's, NOT_HELD otherwise (R113).
Each LIVE HOLD of the ring that names a released segment completes ABORTED, and its own set returns to NONE too (R110, R113). -/
def Obligations.ReleaseReturnsNamedSegments : Prop :=
  (∀ (s : State) (f : Fetch) (cfg : RingConfig) (record : Record) (granted : Bool) (m : SegSet), Arriving s f cfg → IdleTimersFollow s →
    f.ring ≠ 0 → kindOf record = some .release → record[7] = 0 → argsOf .release record = some (.release m) →
    (∀ i, (s.slot i).state = .live → (s.slot i).kind = some .hold → (s.slot i).ring = some f.ring →
      (s.slot i).namedSet &&& m = 0) →
    let x := arrivedSlot s f cfg record
    (m = 0 → exec (.fetchComplete ⟨record, granted⟩) s = .next ((s.consumed f cfg.size granted).answered f.slot (answerRing f cfg)
      (doneWith x (plainResult .badRequest 0 zeroArea)))) ∧
    (m ≠ 0 → ∃ t, exec (.fetchComplete ⟨record, granted⟩) s = .next t ∧
      t = { (s.consumed f cfg.size granted).answered f.slot (answerRing f cfg)
          (doneWith { x with args := some (.release m) } (plainResult
            (if ∀ g : Seg, m.getLsbD g.val = true → (s.seg g).hold.holder = some f.ring then .outcome .ok else .notHeld)
            0 zeroArea)) with segs := t.segs } ∧
      (∀ g, t.seg g = { s.seg g with
        hold := if m.getLsbD g.val = true ∧ (s.seg g).hold.holder = some f.ring then .none else (s.seg g).hold
        idleTimer := (t.seg g).idleTimer }) ∧
      IdleTimersFollow t)) ∧
  ∀ (s : State) (f : Fetch) (cfg : RingConfig) (record : Record) (granted : Bool) (m : SegSet), Arriving s f cfg → IdleTimersFollow s →
    f.ring ≠ 0 → kindOf record = some .release → record[7] = 0 → argsOf .release record = some (.release m) → m ≠ 0 →
    let u := s.consumed f cfg.size granted
    let ended (i : SlotId) : Prop := LiveHold s f.ring i ∧ (s.slot i).namedSet &&& m ≠ 0
    (∀ i, ended i → (s.slot i).exchange = none) →
    ∃ t, exec (.fetchComplete ⟨record, granted⟩) s = .next t ∧ IdleTimersFollow t ∧ OnlyWork u t ∧ t.queues = u.queues ∧
      t.slot f.slot = u.posted (answerRing f cfg) (doneWith { arrivedSlot s f cfg record with args := some (.release m) }
        (plainResult (if ∀ g : Seg, m.getLsbD g.val = true → (s.seg g).hold.holder = some f.ring then .outcome .ok else .notHeld)
          0 zeroArea)) ∧
      (∀ i c, ended i → (s.slot i).cq = some c →
        t.slot i = u.posted c (doneWith (s.slot i) (plainResult (.outcome .aborted) 0 zeroArea))) ∧
      (∀ i, i ≠ f.slot → ¬ ended i → t.slot i = u.slot i) ∧
      ∀ g : Seg,
        let named := m.getLsbD g.val = true ∨ ∃ i, ended i ∧ (s.slot i).ownSet.getLsbD g.val = true
        (named → (s.seg g).hold.holder = some f.ring →
          t.seg g = { s.seg g with hold := .none, idleTimer := (t.seg g).idleTimer }) ∧
        (¬ named ∨ (s.seg g).hold.holder ≠ some f.ring → t.seg g = { s.seg g with idleTimer := (t.seg g).idleTimer })

/-- ABORT (R104, R105): with no LIVE exchange of the ring carrying the target tag it changes no slot and answers TOO_LATE where
a DONE one carries it, NOT_FOUND where none does; with exactly one LIVE exchange carrying it, whose one leg is ON_WIRE,
abort-pending is set there and the answer is TOO_LATE.
The target is the oldest LIVE exchange of the ring with the tag; where it has WAITING legs they leave their queues and finish
ABORTED, legs ON_WIRE or FINISHED are unchanged, it goes DONE with none left unfinished, and the ABORT then answers OK (R105). -/
def Obligations.AbortWithoutWaitingLegs : Prop :=
  (∀ (s : State) (f : Fetch) (cfg : RingConfig) (record : Record) (granted : Bool) (tag : Half), Arriving s f cfg → IdleTimersFollow s →
    f.ring ≠ 0 → kindOf record = some .abort → record[7] = 0 → argsOf .abort record = some (.abort tag) →
    let x := { arrivedSlot s f cfg record with args := some (.abort tag) }
    let carries (st : SlotState) (i : SlotId) := (s.slot i).state = st ∧ (s.slot i).ring = some f.ring ∧
      ((s.slot i).kind = some .read ∨ (s.slot i).kind = some .write) ∧ (s.slot i).tag = some tag
    ((∀ i, ¬ carries .live i) → exec (.fetchComplete ⟨record, granted⟩) s = .next (
      (s.consumed f cfg.size granted).answered f.slot (answerRing f cfg) (doneWith x
        (plainResult (if ∃ i, carries .done i then .tooLate else .notFound) 0 zeroArea)))) ∧
    (∀ (j : SlotId) (l : Leg), carries .live j → (∀ i, carries .live i → i = j) → (s.slot j).legs = [l] →
      l.state = .onWire → exec (.fetchComplete ⟨record, granted⟩) s = .next (
        ((s.consumed f cfg.size granted).setSlot j { s.slot j with abortPending := true }).answered f.slot (answerRing f cfg)
          (doneWith x (plainResult .tooLate 0 zeroArea))))) ∧
  ∀ (s : State) (f : Fetch) (cfg : RingConfig) (record : Record) (granted : Bool) (tag : Half) (j : SlotId) (e : Exchange) (c : Cq),
    Arriving s f cfg → IdleTimersFollow s → f.ring ≠ 0 → kindOf record = some .abort → record[7] = 0 →
    argsOf .abort record = some (.abort tag) →
    let carries (i : SlotId) := (s.slot i).state = .live ∧ (s.slot i).ring = some f.ring ∧
      ((s.slot i).kind = some .read ∨ (s.slot i).kind = some .write) ∧ (s.slot i).tag = some tag
    carries j → (∀ i, carries i → i = j ∨ s.arrivalOf j < s.arrivalOf i) → LegsLegal (s.slot j) →
    (s.slot j).exchange = some e → (s.slot j).cq = some c →
    let u := s.consumed f cfg.size granted
    let x := { arrivedSlot s f cfg record with args := some (.abort tag) }
    let y := ({ s.slot j with abortPending := true } : Slot).waitingEnded .aborted
    let removed := ∃ l ∈ (s.slot j).legs, l.state = .waiting
    ∃ t, exec (.fetchComplete ⟨record, granted⟩) s = .next t ∧ IdleTimersFollow t ∧
      (∀ g, LegWaits s g j → t.queue g = (s.queue g).filter (fun i => decide (i ≠ j))) ∧
      (∀ g, ¬ LegWaits s g j → t.queue g = s.queue g) ∧
      (∀ g, t.seg g = { s.seg g with idleTimer := (t.seg g).idleTimer }) ∧
      t = { (if ∀ l ∈ y.legs, l.state = .finished then u.answered j c (doneWith y (exchangeResult y e))
          else u.setSlot j y).answered f.slot (answerRing f cfg)
            (doneWith x (plainResult (if removed then .outcome .ok else .tooLate) 0 zeroArea)) with
        queues := t.queues, segs := t.segs }

/-- RING_DELETE_COMPLETE: a DELETING ring that holds no slots, with no fetch in flight for it, becomes UNCONFIGURED, its
reserve leaves the reserve sum, and its RING_DELETE completes OK (R119). The record's reset values are the model's reading, log
entry 19, and so is that no fetch may be in flight, log entry 29.
A RING_DELETE is refused out of range, for an UNCONFIGURED ring and for a DELETING one (R147); accepted, the ring is DELETING, a
fetch in flight for it is marked for discard, its LIVE exchanges lose their WAITING legs to FLUSHED and its LIVE HOLDs complete
ABORTED, its holds return to NONE, and a ring that then holds no slots is UNCONFIGURED at once (R116 to R119). A CQ_DELETE makes
its four checks in order; one that passes discards the ring's backlog, withdraws its write request, and takes the ring's record to
its reset values (R149), the coalescing fields absent: the model's choice, log entry 41. The fetch found in flight is that of a grant
made in the same step, before the acceptance: the model's choice, log entry 40. The progress recorded in the LIVE RING_DELETE's slot
(R13) is the stage of log entry 39, and a DELETING ring keeps its error reason by log entry 26. -/
def Obligations.RingDeletionCompletes : Prop :=
  (∀ (s : State) (r : Ring) (i : SlotId) (c : Cq) (b : Byte), (s.ring r).state = .deleting →
    (∀ j, (s.slot j).state ≠ .free → (s.slot j).ring ≠ some r) → (∀ f, s.fetch = some f → f.ring ≠ r) →
    (s.slot i).state = .live → (s.slot i).kind = some .ringDelete → (s.slot i).args = some (.ringDelete b) →
    b.toNat = r.val → (s.slot i).cq = some c → (s.slot i).exchange = none →
    (∀ j, (s.slot j).state = .live → (s.slot j).kind = some .ringDelete → (s.slot j).args = some (.ringDelete b) → j = i) →
    (∀ j b', (s.slot j).args = some (.ringDelete b') → b'.toNat ≤ 7) →
    ∃ t, exec (.ringDeleteComplete r) s = .next t ∧
      t = (s.setRing r RequestRing.empty).answered i c (doneWith (s.slot i) (plainResult (.outcome .ok) 0 zeroArea)) ∧
      t.reserveSum + (s.ring r).reserve = s.reserveSum) ∧
  (∀ (s : State) (f : Fetch) (cfg : RingConfig) (record : Record) (granted : Bool) (b : Byte), Arriving s f cfg → IdleTimersFollow s →
    f.ring = 0 → kindOf record = some .ringDelete → record[7] = 0 → argsOf .ringDelete record = some (.ringDelete b) →
    let r : Ring := Fin.ofNat 8 b.toNat
    let u := s.consumed f cfg.size granted
    let refused (status : Status) : State :=
      u.answered f.slot 0 (doneWith (arrivedSlot s f cfg record) (plainResult status 0 zeroArea))
    let x : Slot := { arrivedSlot s f cfg record with args := some (.ringDelete b) }
    if b.toNat < 1 ∨ 7 < b.toNat then exec (.fetchComplete ⟨record, granted⟩) s = .next (refused .badRequest)
    else if (s.ring r).state = .unconfigured then exec (.fetchComplete ⟨record, granted⟩) s = .next (refused .notFound)
    else if (s.ring r).state = .deleting then exec (.fetchComplete ⟨record, granted⟩) s = .next (refused .busy)
    else DispatchLegal s →
      (∀ j b', (s.slot j).state = .live → (s.slot j).args = some (.ringDelete b') → b'.toNat % 8 ≠ r.val) →
      ∃ t, exec (.fetchComplete ⟨record, granted⟩) s = .next t ∧ IdleTimersFollow t ∧
        (∀ q, q ≠ r → t.ring q = u.ring q) ∧
        t.fetch = u.fetch.map (fun e => if e.ring = r then { e with discard := true } else e) ∧
        (∀ g, t.queue g = (s.queue g).filter fun j => decide (¬ ((s.slot j).ring = some r ∧
          ((s.slot j).kind = some .read ∨ (s.slot j).kind = some .write)))) ∧
        (∀ g, t.seg g = { s.seg g with
          hold := if (s.seg g).hold.holder = some r then .none else (s.seg g).hold, idleTimer := (t.seg g).idleTimer }) ∧
        (∀ j e c, (s.slot j).state = .live → (s.slot j).ring = some r →
          ((s.slot j).kind = some .read ∨ (s.slot j).kind = some .write) → (s.slot j).exchange = some e →
          (s.slot j).cq = some c →
          t.slot j = u.legsEnded c e (({ s.slot j with abortPending := true } : Slot).waitingEnded .flushed)) ∧
        (∀ j c, LiveHold s r j → (s.slot j).exchange = none → (s.slot j).cq = some c →
          t.slot j = u.posted c (doneWith (s.slot j) (plainResult (.outcome .aborted) 0 zeroArea))) ∧
        (∀ j, j ≠ f.slot → ¬ ((s.slot j).state = .live ∧ (s.slot j).ring = some r) → t.slot j = u.slot j) ∧
        if (∀ j, (t.slot j).state ≠ .free → (t.slot j).ring ≠ some r) ∧ (∀ e, t.fetch = some e → e.ring ≠ r) then
          t.ring r = RequestRing.empty ∧
            t.slot f.slot = u.posted 0 (doneWith x (plainResult (.outcome .ok) 0 zeroArea))
        else t.ring r = { s.ring r with state := .deleting } ∧ 
          t.slot f.slot = { x with state := .live, progress := some .drainingRing }) ∧
  ∀ (s : State) (f : Fetch) (cfg : RingConfig) (record : Record) (granted : Bool) (b : Byte), Arriving s f cfg → IdleTimersFollow s →
    f.ring = 0 → kindOf record = some .cqDelete → record[7] = 0 → argsOf .cqDelete record = some (.cqDelete b) →
    let c : Cq := Fin.ofNat 4 b.toNat
    let u := s.consumed f cfg.size granted
    let x := arrivedSlot s f cfg record
    let ok := doneWith { x with args := some (.cqDelete b) } (plainResult (.outcome .ok) 0 zeroArea)
    let refusal : Option Status :=
      if b.toNat < 1 ∨ 3 < b.toNat then some .badRequest
      else if (s.cq c).state = .unconfigured then some .notFound
      else if ∃ r : Ring, (s.ring r).state ≠ .unconfigured ∧ (s.ring r).config.map RingConfig.cq = some c then some .inUse
      else if ∃ g : Seg, (s.seg g).config.noticeCq = c then some .inUse
      else none
    (∀ status, refusal = some status →
      exec (.fetchComplete ⟨record, granted⟩) s = .next (u.answered f.slot 0 (doneWith x (plainResult status 0 zeroArea)))) ∧
    (refusal = none → ∃ t, exec (.fetchComplete ⟨record, granted⟩) s = .next t ∧
      t.cq c = CompletionRing.empty ∧ (∀ d, d ≠ c → t.cq d = (u.answered f.slot 0 ok).cq d) ∧
      t.slot f.slot = u.posted 0 ok ∧
      (∀ i, i ≠ f.slot → t.slot i =
        if Posting.slot i ∈ (s.cq c).backlog ∧ (s.slot i).state = .done then Slot.empty else u.slot i) ∧
      t = { u with
        slots := t.slots, cqs := t.cqs
        write := match s.write with | some w => if w.cq = c then none else some w | none => none })

/-! ### The completion writer and the host port -/

/-- RECORD_WRITE_REQUEST: with no record write outstanding, the first writable ring in rotation after the one served last asks
for a write at base + 16 x producer index (R133). That it counts as served here is the model's choice, log entry 15. -/
def Obligations.RecordWriteRequestRotates : Prop :=
  ∀ (s : State) (c : Cq) (cfg : CqConfig), s.write = none → (s.cq c).config = some cfg → (s.cq c).state = .active →
    (s.cq c).backlog ≠ [] → (s.cq c).unreleased < cfg.size →
    (∀ d : Cq, (d.val + 4 - s.cqLast.val - 1) % 4 < (c.val + 4 - s.cqLast.val - 1) % 4 → (s.cq d).writable = false) →
    exec .recordWriteRequest s = .next { s with
      write := some { cq := c, addr := cfg.base + BitVec.ofNat 64 (16 * (s.cq c).producer) }, cqLast := c }

/-- RECORD_WRITE_ISSUE with bus mastering enabled, in its turn and with no message waiting: the 16-byte record goes onto the link,
the posting leaves the backlog and its slot becomes FREE, the producer index and phase advance, one more entry is unreleased, and
coalescing acts (R133, R140, R141, R167). A held message waits once its number is unmasked (R168), log entry 16. That the record
is built and NOTICES_LOST read at this command is the model's reading, log entry 14. -/
def Obligations.RecordWriteAdvancesRing : Prop :=
  ∀ (s : State) (pcie : PcieConfig) (w : WriteRequest) (cfg : CqConfig) (p : Posting) (rest : List Posting), s.write = some w →
    pcie.busMaster = true → (s.cq w.cq).config = some cfg → (s.cq w.cq).state = .active → (s.cq w.cq).backlog = p :: rest →
    (s.cq w.cq).unreleased < cfg.size → (s.cq w.cq).producer < cfg.size →
    (∀ c : Cq, s.msgPending.get c = false ∧ (s.msgHeld.get c ≠ none → pcie.mask.getLsbD c.val = true)) →
    (∀ a, s.read = .waiting a → s.arbLast = .ringUnit) → (∀ i, p = .slot i → (s.slot i).state = .done) →
    let q := s.cq w.cq
    let n := q.sinceMessage + 1
    let sends := q.armed = true ∧ (cfg.count ≤ n ∨ n = 1 ∧ cfg.delay = 0)
    exec (.recordWriteIssue pcie) s = .next { (match p with
        | .slot i => s.setSlot i Slot.empty
        | .notice _ => s).setCq w.cq { q with
          backlog := rest
          noticesWaiting := (match p with | .slot _ => q.noticesWaiting | .notice _ => q.noticesWaiting - 1)
          noticesLost := (match p with | .slot _ => q.noticesLost | .notice _ => false)
          producer := (q.producer + 1) % cfg.size
          phase := if q.producer + 1 = cfg.size then !q.phase else q.phase
          unreleased := q.unreleased + 1
          sinceMessage := if sends then 0 else n
          armed := if sends then false else q.armed
          delayTimer := if sends then .stopped else if n = 1 then (if cfg.delay = 0 then .stopped else .running cfg.delay)
            else q.delayTimer } with
      write := none, arbLast := .completionWriter
      msgPending := if sends then s.msgPending.set w.cq.val true w.cq.isLt else s.msgPending
      link := s.link ++ [.recordWrite w.addr (s.postingRecord w.cq p)] }

/-- RECORD_WRITE_ISSUE with bus mastering disabled: the completion ring is ERRORED with its indices kept, every posting of its
backlog is discarded and its DONE slots FREE, its interrupt state is cleared, and a CQ_ERROR notice goes to completion ring 0
unless it is that ring (R138). That a write not issued counts as served, and that a held message waits once its number is unmasked,
are the model's readings, log entry 16. -/
def Obligations.UnissuableWriteErrorsRing : Prop :=
  ∀ (s : State) (pcie : PcieConfig) (w : WriteRequest), s.write = some w → pcie.busMaster = false →
    (s.cq w.cq).writable = true →
    (∀ c : Cq, s.msgPending.get c = false ∧ (s.msgHeld.get c ≠ none → pcie.mask.getLsbD c.val = true)) →
    (∀ a, s.read = .waiting a → s.arbLast = .ringUnit) →
    ∃ t, exec (.recordWriteIssue pcie) s = .next t ∧
      (∀ i, t.slot i =
        if Posting.slot i ∈ (s.cq w.cq).backlog ∧ (s.slot i).state = .done then Slot.empty else s.slot i) ∧
      t.cq w.cq = { s.cq w.cq with
        state := .errored, backlog := [], noticesWaiting := 0, noticesLost := false, delayTimer := .stopped
        sinceMessage := 0, armed := false } ∧
      (∀ c, c ≠ w.cq → t.cq c = if c = 0 then (s.postNotice 0 (.cqError w.cq)).cq 0 else s.cq c) ∧
      t = { s with slots := t.slots, cqs := t.cqs, write := none, arbLast := .completionWriter } ∧
      t.status.getLsbD (16 + w.cq.val) = true

/-- A notice posted to an ACTIVE completion ring joins the tail while fewer than 8 notices wait, and is dropped with notices
lost set otherwise; to a ring that is not ACTIVE it is discarded (R132, R135). -/
def Obligations.NoticesJoinUpToEight : Prop :=
  ∀ (s : State) (c : Cq) (n : Notice),
    s.postNotice c n =
      if (s.cq c).state ≠ .active then s
      else if (s.cq c).noticesWaiting < 8 then s.setCq c { s.cq c with
        backlog := (s.cq c).backlog ++ [.notice n], noticesWaiting := (s.cq c).noticesWaiting + 1 }
      else s.setCq c { s.cq c with noticesLost := true }

/-- INTERRUPT_MESSAGE_ISSUE, in its turn: the first in order 0 to 3 of the completion rings that asked for a message or have one
held for a number now unmasked is served (R165). All requests waiting for its number are one message, merged with the one held for
it: issued under that number, held pending while masked, for the lowest of its rings, dropped where messages or bus mastering are
disabled; no ring's interrupt state changes (R168). What counts as a turn, and that requests merge when the number's turn comes and
keep the lowest ring's place, are the model's readings, log entries 16 and 17; that of one ring's messages a held one goes first, of
several the lowest number, is its choice, log entry 42. -/
def Obligations.MessageIsIssuedHeldOrDropped : Prop :=
  ∀ (s : State) (p : PcieConfig) (c : Cq), (p.enabled = 1 ∨ p.enabled = 2 ∨ p.enabled = 4) →
    (∀ a, s.read = .waiting a → s.arbLast = .ringUnit) →
    let ready (d m : Cq) : Prop := s.msgHeld.get m = some d ∧ p.mask.getLsbD m.val = false
    let waits (d : Cq) : Prop := (∃ m, ready d m) ∨ s.msgPending.get d = true
    waits c → (∀ d : Cq, d < c → ¬ waits d) →
    ∀ n : Cq, (ready c n ∧ (∀ m : Cq, m < n → ¬ ready c m)) ∨ ((∀ m, ¬ ready c m) ∧ n.val = c.val % p.enabled) →
    let standsFor (d : Cq) : Prop := s.msgHeld.get n = some d ∨ s.msgPending.get d = true ∧ d.val % p.enabled = n.val
    ∀ e : Cq, standsFor e → (∀ d : Cq, d < e → ¬ standsFor d) →
    let masked := p.mask.getLsbD n.val
    let sends := p.messages && p.busMaster
    exec (.interruptMessageIssue p) s = .next { s with
      arbLast := .completionWriter
      msgPending := Vector.ofFn fun d => s.msgPending.get d && decide (d.val % p.enabled ≠ n.val)
      msgHeld := s.msgHeld.set n.val (if masked && (sends || (s.msgHeld.get n).isSome) then some e else none) n.isLt
      link := if sends = true ∧ masked = false then s.link ++ [.message n.val] else s.link }

/-- COALESCING_DELAY_EXPIRY: an armed ring sends its message, with its count cleared and itself disarmed; one not armed stops its
timer and keeps its count (R140, R141). -/
def Obligations.DelayExpirySignalsArmedRing : Prop :=
  ∀ (s : State) (c : Cq) (us : Nat), (s.cq c).delayTimer = .running us →
    exec (.coalescingDelayExpiry c) s = .next (
      if (s.cq c).armed = true then
        { s.setCq c { s.cq c with armed := false, sinceMessage := 0, delayTimer := .stopped } with
          msgPending := s.msgPending.set c.val true c.isLt }
      else s.setCq c { s.cq c with delayTimer := .stopped })

/-! ### Timers -/

/-- DEADLINE_EXPIRY of a LIVE exchange: the deadline is PASSED, WAITING legs leave their queues and finish EXPIRED with their
attempts kept, legs ON_WIRE or FINISHED are unchanged; with none left unfinished the slot goes DONE (R16, R18). -/
def Obligations.DeadlineExpiryFinishesWaitingLegs : Prop :=
  ∀ (s : State) (i : SlotId) (x : Exchange) (ms us : Nat) (c : Cq), LegsLegal (s.slot i) → IdleTimersFollow s →
    (s.slot i).state = .live → (s.slot i).exchange = some x → (s.slot i).deadline = .running ms →
    (s.slot i).deadlineTimer = .running us → (s.slot i).cq = some c →
    let legs := (s.slot i).legs.map fun l =>
      if l.state = .waiting then { l with state := .finished, outcome := some .expired } else l
    let y : Slot := { s.slot i with deadline := .passed, deadlineTimer := .stopped, legs := legs }
    ∃ t, exec (.deadlineExpiry i) s = .next t ∧ IdleTimersFollow t ∧
      (∀ g, LegWaits s g i → t.queue g = (s.queue g).filter (fun j => decide (j ≠ i))) ∧
      (∀ g, ¬ LegWaits s g i → t.queue g = s.queue g) ∧
      (∀ g, t.seg g = { s.seg g with idleTimer := (t.seg g).idleTimer }) ∧
      t = { if ∀ l ∈ legs, l.state = .finished then s.answered i c (doneWith y (exchangeResult y x)) else s.setSlot i y with
        queues := t.queues, segs := t.segs }

/-- HOLD_TIMER_EXPIRY: the hold state is NONE; in no LIVE HOLD's named set, a HOLD_LOST notice with reason EXPIRED goes to the
holder ring's completion ring; every LIVE HOLD of the ring that names the segment completes EXPIRED, its own set returned to NONE,
after the HOLD_LOST notice where the segment is in no own set (R110, R111). That only the holder ring's HOLDs end is log entry 13, and
that a segment in the own set of one LIVE HOLD and named by another posts no notice log entry 12. -/
def Obligations.HoldTimerExpiryEndsHold : Prop :=
  ∀ (s : State) (g : Seg) (r : Ring) (ms : Half) (cfg : RingConfig), IdleTimersFollow s → (s.seg g).hold = .held r ms →
    (s.ring r).config = some cfg →
    ∃ t, exec (.holdTimerExpiry g) s = .next t ∧ IdleTimersFollow t ∧ (t.seg g).hold = .none ∧ OnlyWork s t ∧
      HoldLost s t g .expired ∧
      t.queues = s.queues ∧
      ((∀ i, (s.slot i).state = .live → (s.slot i).kind = some .hold → (s.slot i).ring = some r →
          (s.slot i).namedSet.getLsbD g.val = false) →
        t = (s.setSeg g { s.seg g with hold := .none, idleTimer := (t.seg g).idleTimer }).postNotice cfg.cq
          (.holdLost g .expired r)) ∧
      ∀ i, (s.slot i).state = .live → (s.slot i).kind = some .hold → (s.slot i).ring = some r →
        (s.slot i).exchange = none → (s.slot i).namedSet.getLsbD g.val = true →
        (t.slot i).state ≠ .live ∧ ∀ h, (s.slot i).ownSet.getLsbD h.val = true → (t.seg h).hold.holder ≠ some r

/-- HOLD_GRANT: a DRAINING segment whose frame has ended is HELD with its timer started from hold_limit and joins the granted
set; the HOLD completes OK when that makes it the named set (R109). -/
def Obligations.HoldGrantHoldsSegment : Prop :=
  ∀ (s : State) (g : Seg) (r : Ring) (i : SlotId) (named own granted : SegSet) (c : Cq), IdleTimersFollow s →
    (s.seg g).hold = .draining r i → (s.seg g).frame = none → (s.slot i).state = .live → (s.slot i).exchange = none →
    (s.slot i).args = some (.hold named) → (s.slot i).progress = some (.hold { own := own, granted := granted }) →
    (s.slot i).cq = some c →
    let all := granted ||| BitVec.twoPow 8 g.val
    let x : Slot := { s.slot i with progress := some (.hold { own := own, granted := all }) }
    exec (.holdGrant g) s = .next ((if all = named then s.answered i c (doneWith x (plainResult (.outcome .ok) 0 zeroArea))
      else s.setSlot i x).setSeg g { s.seg g with hold := .held r s.holdLimit })

/-- IDLE_TIMER_EXPIRY, and SLEEP_COMMAND_START for a pending SLEEP in IDLE, start the dormancy command: an unconfirmed OUT frame
with identifier 126, length 1 and payload 00h, in its lead-in (R76, R89, R99). A SEGMENT_SLEEP is taken by the seven rows of R98 in
their order: refused with BUSY or CONFLICT and nothing changed on the segment, completed OK at once on a DORMANT segment, or SLEEP
pending for the request's LIVE slot with the idle timer stopped. The progress recorded in that slot, and anew as its command starts
(R13), is the stage of log entry 39. -/
def Obligations.DormancyCommandStarts : Prop :=
  (∀ (s : State) (g : Seg) (o : DormancyOrigin), IdleTimersFollow s →
    (match o with
      | .idleTimer => (s.seg g).idleTimer ≠ .stopped
      | .sleep => (s.seg g).lineState = .active ∧ (s.seg g).phase = .idle ∧ (s.seg g).frame = none ∧
          ∃ i, (s.seg g).pendingOp = some { op := .sleep, slot := i }) →
    let recorded : State := match o, (s.seg g).pendingOp with
      | .sleep, some p => if (s.slot p.slot).state = .live then
          s.setSlot p.slot { s.slot p.slot with progress := some .sendingDormancy } else s
      | _, _ => s
    exec (match o with | .idleTimer => .idleTimerExpiry g | .sleep => .sleepCommandStart g) s = .next (recorded.setSeg g { s.seg g with
      phase := .leadIn, phaseBits := some 16, idleTimer := .stopped
      frame := some {
        carrier := .dormancy o, id := 126, direction := .dirOut, confirmed := false, length := 1, payload := [0x00]
        received := [], inReception := false }
      line := .sending (List.replicate 14 .dominant ++ List.replicate 2 .recessive) })) ∧
  ∀ (s : State) (f : Fetch) (cfg : RingConfig) (record : Record) (granted : Bool) (b : Byte), Arriving s f cfg →
    IdleTimersFollow s → f.ring = 0 → kindOf record = some .segSleep → record[7] = 0 → argsOf .segSleep record = some (.segSleep b) →
    b.toNat ≤ 7 →
    let x := arrivedSlot s f cfg record
    let g : Seg := Fin.ofNat 8 b.toNat
    let u := s.consumed f cfg.size granted
    let taken := { x with args := some (OpArgs.segSleep b) }
    let ok := doneWith taken (plainResult (.outcome .ok) 0 zeroArea)
    let refused (status : Status) : State := u.answered f.slot 0 (doneWith x (plainResult status 0 zeroArea))
    exec (.fetchComplete ⟨record, granted⟩) s = .next (
      if (s.seg g).pendingOp ≠ none then refused .busy
      else if (s.seg g).lineState ≠ .active ∧ (s.seg g).lineState ≠ .dormant then refused .busy
      else if (s.seg g).hold ≠ .none then refused .conflict
      else if (s.seg g).lineState = .dormant ∧ (s.seg g).wakePulse ≠ none then refused .busy
      else if (s.seg g).lineState = .dormant then u.answered f.slot 0 ok
      else if s.queue g ≠ [] then refused .busy
      else (u.setSlot f.slot { taken with state := .live, progress := some .awaitingIdle }).setSeg g
        { s.seg g with pendingOp := some { op := .sleep, slot := f.slot }, idleTimer := .stopped })

/-- WAKE_PULSE_END and REMOTE_WAKE take a DORMANT segment to WAKING with its settle timer started, a remote wake of 250 to 4999 us
with its notice; SETTLE_TIMER_EXPIRY takes it to ACTIVE in IDLE and completes a pending WAKE OK (R85, R91, R92, R103). That a
pulse is given in whole us, and that one of 5000 us or more is DORMANT_STUCK's, is the model's choice, log entry 38. A dominant
level of 10 bit times or more carried into IDLE is a foreign master at the entry: the WAKE has completed OK, then the segment is
FAULTED, its queue displaced and its hold lost (R82, R83, R86, R112); that the expiry carries the level's length is log entry 4. A
SEGMENT_WAKE is taken by the rows of R100; the progress recorded for it, and anew as its pulse ends (R13), is the stage of log
entry 39; that an adopted pulse keeps its origin is log entry 24, and that a segment in the own set of one LIVE HOLD and named by
another posts no HOLD_LOST log entry 12. -/
def Obligations.WakesReachActive : Prop :=
  (∀ (s : State) (g : Seg), IdleTimersFollow s → (s.seg g).lineState = .dormant → (s.seg g).wakePulse ≠ none →
    let recorded : State := match (s.seg g).pendingOp with
      | some { op := .wake, slot := i } => if (s.slot i).state = .live then
          s.setSlot i { s.slot i with progress := some .settling } else s
      | _ => s
    exec (.wakePulseEnd g) s = .next (recorded.setSeg g { s.seg g with
      wakePulse := none, line := .released, lineState := .waking
      settleTimer := .running ((s.seg g).config.wakeSettle.toNat * 1000) })) ∧
  (∀ (s : State) (g : Seg) (us : Nat), IdleTimersFollow s → (s.seg g).lineState = .dormant → (s.seg g).wakePulse = none →
    exec (.remoteWake g us) s = .next (
      if 250 ≤ us ∧ us < 5000 then (s.setSeg g { s.seg g with
        lineState := .waking, settleTimer := .running ((s.seg g).config.wakeSettle.toNat * 1000) }).postNotice
          (s.seg g).config.noticeCq (.remoteWake g)
      else s)) ∧
  (∀ (s : State) (g : Seg) (us n : Nat), IdleTimersFollow s → (s.seg g).lineState = .waking →
    (s.seg g).settleTimer = .running us → n < 10 →
    ((s.seg g).pendingOp = none → ∃ t, exec (.settleTimerExpiry ⟨g, n⟩) s = .next t ∧ IdleTimersFollow t ∧
      t = s.setSeg g { s.seg g with
        lineState := .active, phase := .idle, settleTimer := .stopped, idleTimer := (t.seg g).idleTimer }) ∧
    ∀ (i : SlotId) (c : Cq), (s.seg g).pendingOp = some { op := .wake, slot := i } → (s.slot i).state = .live →
      (s.slot i).exchange = none → (s.slot i).cq = some c →
      ∃ t, exec (.settleTimerExpiry ⟨g, n⟩) s = .next t ∧ IdleTimersFollow t ∧
        t = (s.answered i c (doneWith (s.slot i) (plainResult (.outcome .ok) 0 zeroArea))).setSeg g { s.seg g with
          lineState := .active, phase := .idle, settleTimer := .stopped, pendingOp := none
          idleTimer := (t.seg g).idleTimer }) ∧
  (∀ (s : State) (g : Seg) (us n : Nat), IdleTimersFollow s → (s.seg g).lineState = .waking →
    (s.seg g).settleTimer = .running us → 10 ≤ n → (s.seg g).frame = none →
    ((s.seg g).pendingOp = none ∨ ∃ i, (s.seg g).pendingOp = some { op := .wake, slot := i }) →
    let y := { offRecord (s.seg g) with lineState := .faulted .foreign, lineEvents := (s.seg g).lineEvents + 1 }
    ∃ t, exec (.settleTimerExpiry ⟨g, n⟩) s = .next t ∧ t.seg g = y ∧ t.queue g = [] ∧ IdleTimersFollow t ∧ OnlyWork s t ∧
      (s.queue g = [] → (s.seg g).hold = .none → (s.seg g).pendingOp = none → (∀ i, ¬ HoldEnds s g .fault i) →
        t = (s.setSeg g y).postNotice (s.seg g).config.noticeCq (.segmentFaulted g .foreign)) ∧
      (DispatchLegal s → Displaced s t g .segmentFault ∧
        ((∀ p, (s.seg g).pendingOp = some p → (s.slot p.slot).kind ≠ some .hold) → HoldLost s t g .fault) ∧
        ∀ (i : SlotId) (c : Cq), (s.seg g).pendingOp = some { op := .wake, slot := i } → (s.slot i).state = .live →
          (s.slot i).exchange = none → (s.slot i).cq = some c →
          t.slot i = s.posted c (doneWith (s.slot i) (plainResult (.outcome .ok) 0 zeroArea)))) ∧
  ∀ (s : State) (f : Fetch) (cfg : RingConfig) (record : Record) (granted : Bool) (b : Byte), Arriving s f cfg →
    IdleTimersFollow s → f.ring = 0 → kindOf record = some .segWake → record[7] = 0 → argsOf .segWake record = some (.segWake b) →
    b.toNat ≤ 7 →
    let x := arrivedSlot s f cfg record
    let g : Seg := Fin.ofNat 8 b.toNat
    let u := s.consumed f cfg.size granted
    let taken := { x with args := some (OpArgs.segWake b) }
    let ok := doneWith taken (plainResult (.outcome .ok) 0 zeroArea)
    let refused (status : Status) : State := u.answered f.slot 0 (doneWith x (plainResult status 0 zeroArea))
    exec (.fetchComplete ⟨record, granted⟩) s = .next (
      if (s.seg g).pendingOp ≠ none then refused .busy
      else if (s.seg g).lineState = .active then u.answered f.slot 0 ok
      else if (s.seg g).lineState = .dormant then
        (u.setSlot f.slot { taken with state := .live, progress := some .pulsing }).setSeg g { s.seg g with
          pendingOp := some { op := .wake, slot := f.slot }
          wakePulse := if (s.seg g).wakePulse = none then some .wake else (s.seg g).wakePulse
          line := if (s.seg g).wakePulse = none then .wakePulse else (s.seg g).line }
      else refused .busy)

/-- STOP_ACT: the queue is displaced, each of its legs failing over or finishing SEGMENT_STOPPED (R55), the hold is cleared, the
segment is OFF with its configuration and counters kept, and then the STOP completes OK, last in its backlog (R96); with an empty
queue and no hold nothing else changes, and a HELD segment in no LIVE HOLD posts HOLD_LOST with reason STOPPED first; the LIVE HOLDs
that name the segment complete SEGMENT_STOPPED (R110, R112). That it waits for the hold grant is the model's reading, log entry 9,
and that a segment in the own set of one LIVE HOLD and named by another posts no notice log entry 12. -/
def Obligations.StopActsAfterItsFrame : Prop :=
  ∀ (s : State) (g : Seg) (i : SlotId) (c : Cq), IdleTimersFollow s → DispatchLegal s →
    (s.seg g).pendingOp = some { op := .stop, slot := i } → (s.seg g).frame = none →
    (∀ r j, (s.seg g).hold ≠ .draining r j) → (s.slot i).state = .live → (s.slot i).exchange = none →
    (s.slot i).kind = some .segStop → (s.slot i).cq = some c →
    let off : Segment := { Segment.cold with
      configured := true, config := (s.seg g).config, framesOk := (s.seg g).framesOk
      framesFailed := (s.seg g).framesFailed, retries := (s.seg g).retries, lineEvents := (s.seg g).lineEvents }
    let ok := doneWith (s.slot i) (plainResult (.outcome .ok) 0 zeroArea)
    ∃ t, exec (.stopAct g) s = .next t ∧ t.queue g = [] ∧
      t.seg g = { off with configured := (s.seg g).configured } ∧ OnlyWork s t ∧
      Displaced s t g .segmentStopped ∧ HoldLost s t g .stopped ∧ t.slot i = s.posted c ok ∧
      ((s.cq c).state = .active → ∃ before, (t.cq c).backlog = before ++ [.slot i]) ∧
      (s.queue g = [] → (s.seg g).hold = .none → (∀ j, ¬ HoldEnds s g .stopped j) →
        t = (s.answered i c ok).setSeg g { off with configured := (s.seg g).configured }) ∧
      (∀ r ms cfg, s.queue g = [] → (s.seg g).hold = .held r ms → (s.ring r).config = some cfg →
        (∀ j, ¬ HoldEnds s g .stopped j) →
        t = ((s.postNotice cfg.cq (.holdLost g .stopped r)).answered i c ok).setSeg g
          { off with configured := (s.seg g).configured })

/-! ### Frames -/

/-- PICK takes the first eligible leg: with hold NONE the head, else the first of the holder ring's; it leaves the queue, is
ON_WIRE with one more attempt, and its frame starts from the fields copied at acceptance (R42, R43, R44, R65). With the segment
not ACTIVE in IDLE, with STOP or SLEEP pending, or with no eligible leg, nothing is picked. -/
def Obligations.PickTakesFirstEligibleLeg : Prop :=
  (∀ (s : State) (g : Seg),
    ((s.seg g).lineState ≠ .active ∨ (s.seg g).phase ≠ .idle ∨
      (∃ j, (s.seg g).pendingOp = some { op := .stop, slot := j } ∨ (s.seg g).pendingOp = some { op := .sleep, slot := j }) ∨
      ∀ j ∈ s.queue g, ∃ r, (s.seg g).hold.holder = some r ∧ (s.slot j).ring ≠ some r) →
    exec (.pick g) s = .next s) ∧
  ∀ (s : State) (g : Seg) (i : SlotId) (x : Exchange) (before after : List SlotId), IdleTimersFollow s →
    (s.seg g).lineState = .active → (s.seg g).phase = .idle →
    (∀ j, (s.seg g).pendingOp ≠ some { op := .stop, slot := j } ∧ (s.seg g).pendingOp ≠ some { op := .sleep, slot := j }) →
    s.queue g = before ++ i :: after → i ∉ before ++ after →
    (∀ r, (s.seg g).hold.holder = some r → (s.slot i).ring = some r) →
    (∀ j ∈ before, ∃ r, (s.seg g).hold.holder = some r ∧ (s.slot j).ring ≠ some r) → (s.slot i).exchange = some x →
    exec (.pick g) s = .next (((s.setQueue g (before ++ after)).setSlot i { s.slot i with
        legs := (s.slot i).legs.map fun l =>
          if l.segment = g then { l with state := .onWire, attempts := l.attempts + 1, lastFrameSeg := some g } else l }).setSeg g
      { s.seg g with
        phase := .leadIn, phaseBits := some 16
        frame := some {
          carrier := .exchange i, id := x.frameId, direction := x.direction, confirmed := x.confirmed, length := x.length
          payload := if x.direction = .dirOut then (s.slot i).payload.getD [] else [], received := [], inReception := false }
        line := .sending (List.replicate 14 .dominant ++ List.replicate 2 .recessive) })

/-- The phases the part sends in follow one another (R64, R65, R66, R68, R69): lead-in, header of 20 bit times, then the response
window of an IN frame or the gap of 2 bit times of an OUT frame, the response of 10 x (L + 1) bit times, and the window of a
confirmed frame's acknowledgment. -/
def Obligations.SendingPhasesFollow : Prop :=
  ∀ (s : State) (g : Seg) (f : Frame), IdleTimersFollow s → (s.seg g).lineState = .active → (s.seg g).frame = some f →
    let x := s.seg g
    let window (n : Nat) : Nat := x.config.wbase.toNat + x.config.wbyte.toNat * n
    (x.phase = .leadIn → exec (.leadInEnd g) s = .next (s.setSeg g { x with
      phase := .header, phaseBits := some 20, line := .sending (byteLevels (headerByte0 f) ++ byteLevels (headerByte1 f)) })) ∧
    (x.phase = .header → f.direction = .dirIn → exec (.headerSent g) s = .next (s.setSeg g { x with
      phase := .responseIn, phaseBits := some (window (f.length + 1)), line := .released })) ∧
    (x.phase = .header → f.direction = .dirOut → exec (.headerSent g) s = .next (s.setSeg g { x with
      phase := .gap, phaseBits := some 2, line := .released })) ∧
    (x.phase = .gap → exec (.gapEnd g) s = .next (s.setSeg g { x with
      phase := .responseOut, phaseBits := some (10 * (f.length + 1))
      line := .sending ((f.payload ++ [frameCheck f f.payload]).flatMap byteLevels) })) ∧
    (x.phase = .responseOut → f.confirmed = true → exec (.responseOutEnd g) s = .next (s.setSeg g { x with
      phase := .ackWait, phaseBits := some (window 1), line := .released }))

/-- The dormancy command ends OK with no STOP pending: the segment is DORMANT with no guard, FRAMES_OK counts it; from the idle
timer a SEGMENT_DORMANT notice is posted, a pending SLEEP completes OK, and with legs in the queue a segment with wake_on_demand
starts its wake pulse (R90 row 3, R93, R99, R102). It ends READBACK after RECOVER: GUARD begins, a SLEEP's own command completes it
READBACK, and one of the idle timer leaves it pending (R90 row 4). With a STOP pending the frame ends in GUARD and the stop acts
next, by STOP_ACT (R90 row 2; log entry 9). -/
def Obligations.DormancyCommandEndsDormant : Prop :=
  ∀ (s : State) (g : Seg) (f : Frame) (o : DormancyOrigin), IdleTimersFollow s → (s.seg g).lineState = .active →
    (s.seg g).frame = some f → f.carrier = .dormancy o → f.confirmed = false →
    let x := s.seg g
    let wakes := x.config.wakeOnDemand = true ∧ x.wakePulse = none ∧ s.queue g ≠ []
    let y : Segment := { x with
      lineState := .dormant, phase := .idle, phaseBits := none, frame := none, pendingOutcome := none, pendingOp := none
      run := .notMeasured, line := if wakes then .wakePulse else .released
      wakePulse := if wakes then some .onDemand else x.wakePulse, framesOk := x.framesOk + 1 }
    let noticed : State := match o with
      | .idleTimer => s.postNotice x.config.noticeCq (.segmentDormant g)
      | .sleep => s
    let slept (i : SlotId) (o : LegOutcome) : Slot := doneWith (s.slot i) (plainResult (.outcome o) 0 zeroArea)
    (x.phase = .responseOut →
      (x.pendingOp = none → exec (.responseOutEnd g) s = .next (noticed.setSeg g y)) ∧
      (∀ (i : SlotId) (c : Cq), x.pendingOp = some { op := .sleep, slot := i } → (s.slot i).state = .live →
        (s.slot i).exchange = none → (s.slot i).cq = some c →
        exec (.responseOutEnd g) s = .next ((noticed.answered i c (slept i .ok)).setSeg g y)) ∧
      ∀ i : SlotId, x.pendingOp = some { op := .stop, slot := i } →
        exec (.responseOutEnd g) s = .next (s.setSeg g (afterFrame x .ok))) ∧
    (x.phase = .recover → x.run = .counting → x.pendingOutcome = some .readback →
      ((∃ i, x.pendingOp = some { op := .stop, slot := i }) ∨ x.pendingOp = none ∨
          o = .idleTimer ∧ (∃ i, x.pendingOp = some { op := .sleep, slot := i }) →
        exec (.recoverEnd g) s = .next (s.setSeg g (afterFrame x .readback))) ∧
      ∀ (i : SlotId) (c : Cq), o = .sleep → x.pendingOp = some { op := .sleep, slot := i } → (s.slot i).state = .live →
        (s.slot i).exchange = none → (s.slot i).cq = some c →
        exec (.recoverEnd g) s = .next
          ((s.answered i c (slept i .readback)).setSeg g { afterFrame x .readback with pendingOp := none }))

/-- While the part listens: a start check that reads dominant with the window open takes a byte into reception, one that reads
recessive changes nothing; a byte received with more expected is kept, its eight sampled levels taken least significant first; the
end of the window leaves a byte in reception to its stop bit (R63, R69). -/
def Obligations.ReceptionKeepsBytes : Prop :=
  ∀ (s : State) (g : Seg) (f : Frame), IdleTimersFollow s → (s.seg g).lineState = .active → (s.seg g).frame = some f →
    let x := s.seg g
    ((x.phase = .ackWait ∨ x.phase = .responseIn) → x.phaseBits ≠ none → f.inReception = false →
      exec (.startCheck g .dominant) s = .next (s.setSeg g { x with frame := some { f with inReception := true } }) ∧
      exec (.startCheck g .recessive) s = .next s) ∧
    (∀ b, x.phase = .responseIn → x.phaseBits ≠ none → f.inReception = true → f.received.length < f.length →
      exec (.byteReceived g b) s = .next (s.setSeg g { x with
        frame := some { f with received := f.received ++ [receivedByte b], inReception := false } })) ∧
    (∀ b (n : Fin 8), (receivedByte b).getLsbD n.val = decide (b.get n = .recessive)) ∧
    ((x.phase = .ackWait ∨ x.phase = .responseIn) → x.phaseBits ≠ none → f.inReception = true →
      ∀ n, exec (.windowEnd ⟨g, n⟩) s = .next (s.setSeg g { x with phaseBits := none })) ∧
    ((x.phase = .ackWait ∨ x.phase = .responseIn) → x.phaseBits = none → f.inReception = false →
      exec (.startCheck g .dominant) s = .next s)

/-- The end of a SINGLE exchange's frame that the dispatcher does not retry (R17, R47, R48, R51, with R18 to R20): the frame is
counted and GUARD begins; the leg finishes OK, EXPIRED where the deadline is PASSED and the outcome is not OK, or with the frame
outcome; the slot goes DONE with its result and joins its backlog. The same of any exchange's leg that neither retries nor may
fail over, a PAIR's or a FAN's: with legs left unfinished the slot stays LIVE (R18). The result of any SINGLE or PAIR exchange
whose leg is FINISHED (R19, R20), and of a FAN whose legs all are: its status and its leg table, a nibble for each segment (R21,
R171). -/
def Obligations.FrameEndFinishesSingleExchange : Prop :=
  (∀ (s : State) (g : Seg) (f : Frame) (cmd : Instr) (o : LegOutcome) (bytes : List Byte) (i : SlotId) (x : Exchange) (l : Leg)
    (c : Cq), IdleTimersFollow s → (s.seg g).lineState = .active → (s.seg g).frame = some f →
    EndsFrame (s.seg g) g f cmd o bytes → f.carrier = .exchange i → (s.slot i).state = .live →
    (s.slot i).exchange = some x → x.target = .single g → (s.slot i).legs = [l] → l.segment = g → l.state = .onWire →
    (s.slot i).cq = some c →
    o ∈ [.ok, .refused] ∨ l.retriesLeft = 0 ∨ (s.slot i).abortPending = true ∨ (s.slot i).deadline = .passed →
    let passed := (s.slot i).deadline = .passed
    let final := if passed ∧ o ≠ .ok then .expired else o
    let reads := x.direction = .dirIn ∧ o = .ok
    let late := (s.slot i).late || (decide passed && decide (o = .ok))
    let y : Slot := { s.slot i with
      lastEnded := some g, late := late
      payload := if reads then some bytes else (s.slot i).payload
      legs := [{ l with state := .finished, outcome := some final }] }
    exec cmd s = .next ((s.setSeg g (afterFrame (s.seg g) o)).answered i c (doneWith y {
      status := .outcome final, attempts := l.attempts, lastSeg := l.lastFrameSeg, late := late
      failover := (s.slot i).failoverUsed && !(s.slot i).alternatePath, alternate := (s.slot i).alternatePath
      length := if reads then x.length else 0
      area := if reads then (bytes ++ List.replicate 8 0).take 8 else List.replicate 8 0 }))) ∧
  (∀ (s : State) (g : Seg) (f : Frame) (cmd : Instr) (o : LegOutcome) (bytes : List Byte) (i : SlotId) (x : Exchange) (l : Leg)
    (c : Cq), IdleTimersFollow s → (s.seg g).lineState = .active → (s.seg g).frame = some f →
    EndsFrame (s.seg g) g f cmd o bytes → f.carrier = .exchange i → (s.slot i).state = .live →
    (s.slot i).exchange = some x → LegsLegal (s.slot i) → l ∈ (s.slot i).legs → l.segment = g → l.state = .onWire →
    (s.slot i).cq = some c →
    o ∈ [.ok, .refused] ∨ (s.slot i).abortPending = true ∨ (s.slot i).deadline = .passed ∨
      l.retriesLeft = 0 ∧ l.path ≠ some .primary →
    let passed := (s.slot i).deadline = .passed
    let y : Slot := { (s.slot i).legEndedOn g (if passed ∧ o ≠ .ok then .expired else o) with
      lastEnded := some g, late := (s.slot i).late || (decide passed && decide (o = .ok))
      payload := if x.direction = .dirIn ∧ o = .ok then some bytes else (s.slot i).payload }
    let u := s.setSeg g (afterFrame (s.seg g) o)
    exec cmd s = .next (if ∀ k ∈ y.legs, k.state = .finished then u.answered i c (doneWith y (exchangeResult y x))
      else u.setSlot i y)) ∧
  (∀ (y : Slot) (x : Exchange) (l : Leg) (o : LegOutcome), (∀ m, x.target ≠ .fan m) → y.legs = [l] → l.outcome = some o →
    let reads := x.direction = .dirIn ∧ o = .ok
    exchangeResult y x = {
      status := .outcome o, attempts := l.attempts, lastSeg := l.lastFrameSeg, late := y.late
      failover := y.failoverUsed && !y.alternatePath, alternate := y.alternatePath
      length := if reads then x.length else 0
      area := if reads then (y.payload.getD [] ++ List.replicate 8 0).take 8 else List.replicate 8 0 }) ∧
  ∀ (y : Slot) (x : Exchange) (m : SegSet), x.target = .fan m → (y.legs.Pairwise fun l k => l.segment ≠ k.segment) →
    (∀ l ∈ y.legs, l.outcome ≠ none) → y.failoverUsed = false → y.alternatePath = false →
    let r := exchangeResult y x
    let nibble (g : Seg) : Nat := (r.area.getD (g.val / 2) 0).toNat / (if g.val % 2 = 0 then 1 else 16) % 16
    r.status = (if ∀ l ∈ y.legs, l.outcome = some .ok then .outcome .ok
      else if ∀ l ∈ y.legs, l.outcome ≠ some .ok then .allFailed else .someFailed) ∧
    r.attempts = (y.legs.map Leg.attempts).sum ∧ r.lastSeg = y.lastEnded ∧ r.late = y.late ∧ r.failover = false ∧
    r.alternate = false ∧ r.length = 0 ∧ r.area.length = 8 ∧ r.area.drop 4 = List.replicate 4 0 ∧
    (∀ g, (∀ l ∈ y.legs, l.segment ≠ g) → nibble g = 0) ∧
    ∀ l ∈ y.legs, ∀ o, l.outcome = some o → nibble l.segment = if o = .ok then 15 else (Status.outcome o).code

/-- The end of an exchange frame with a retryable outcome and retries left, no deadline PASSED and no abort-pending: the leg is
WAITING again at its sorted place in the same queue with one retry less, its attempts kept, and RETRIES counts it (R40, R47 row
4, R50). -/
def Obligations.FrameEndRetriesLeg : Prop :=
  ∀ (s : State) (g : Seg) (f : Frame) (cmd : Instr) (o : LegOutcome) (bytes : List Byte) (i : SlotId) (x : Exchange) (l : Leg),
    IdleTimersFollow s → DispatchLegal s → (s.seg g).lineState = .active → (s.seg g).frame = some f →
    EndsFrame (s.seg g) g f cmd o bytes → f.carrier = .exchange i → (s.slot i).state = .live →
    (s.slot i).exchange = some x → l ∈ (s.slot i).legs → l.segment = g → l.state = .onWire →
    o ∈ [.noResponse, .partialResponse, .checkError, .framing, .readback, .badAck] → 0 < l.retriesLeft →
    (s.slot i).abortPending = false → (s.slot i).deadline ≠ .passed →
    ∃ t before after, exec cmd s = .next t ∧ s.queue g = before ++ after ∧ t.queue g = before ++ i :: after ∧
      (∀ j ∈ before, s.priorityOf i < s.priorityOf j ∨ s.priorityOf i = s.priorityOf j ∧ s.arrivalOf j < s.arrivalOf i) ∧
      (∀ j ∈ after, s.priorityOf j < s.priorityOf i ∨ s.priorityOf i = s.priorityOf j ∧ s.arrivalOf i < s.arrivalOf j) ∧
      t = ((s.setQueue g (t.queue g)).setSlot i { s.slot i with
        lastEnded := some g
        legs := (s.slot i).legs.map fun m =>
          if m.segment = g then { m with state := .waiting, retriesLeft := m.retriesLeft - 1 } else m }).setSeg g
        { afterFrame (s.seg g) o with retries := (s.seg g).retries + 1 }

/-- The end of the frame of a PAIR leg on its primary `a`, with retries exhausted, moves it once to its usable secondary `b`:
failover-used is set, retries left returns to the budget, attempts are kept, and the leg waits in the secondary's queue (R47 row
5, R52); with the secondary unusable the leg finishes with the outcome (R53). -/
def Obligations.FrameEndFailsOver : Prop :=
  ∀ (s : State) (a b : Seg) (f : Frame) (cmd : Instr) (o : LegOutcome) (bytes : List Byte) (i : SlotId) (x : Exchange)
    (l : Leg), IdleTimersFollow s → DispatchLegal s → (s.seg a).lineState = .active → (s.seg a).frame = some f →
    EndsFrame (s.seg a) a f cmd o bytes → f.carrier = .exchange i → (s.slot i).state = .live →
    (s.slot i).exchange = some x → x.target = .pair a b → (s.slot i).legs = [l] → l.segment = a → l.path = some .primary →
    l.state = .onWire → o ∈ [.noResponse, .partialResponse, .checkError, .framing, .readback, .badAck] →
    l.retriesLeft = 0 → (s.slot i).abortPending = false → (s.slot i).deadline ≠ .passed →
    (s.slot i).failoverUsed = false →
    ∃ t, exec cmd s = .next t ∧ t.seg a = afterFrame (s.seg a) o ∧
      if (s.seg b).lineState ∈ [.syncing, .active, .dormant, .waking] then
        i ∈ t.queue b ∧ (∀ j, j ≠ i → (j ∈ t.queue b ↔ j ∈ s.queue b)) ∧ (∀ h, h ≠ b → t.queue h = s.queue h) ∧
        (∀ h, h ≠ a → h ≠ b → t.seg h = s.seg h) ∧ (t.seg b).lineState = (s.seg b).lineState ∧
        (t.seg b).retries = (s.seg b).retries ∧
        t = { s.setSlot i { s.slot i with
          lastEnded := some a, failoverUsed := true
          legs := [{ l with
            segment := b, path := some .secondary, state := .waiting, retriesLeft := x.retryBudget }] } with
          queues := t.queues, segs := t.segs }
      else (t.slot i).state ≠ .live ∧ (∀ h, t.queue h = s.queue h) ∧ (∀ h, h ≠ a → t.seg h = s.seg h) ∧
        ((t.slot i).state = .done → (t.slot i).failoverUsed = false ∧
          ∃ r, (t.slot i).result = some r ∧ r.status = .outcome o ∧ r.failover = false)

/-- READBACK_DIFFERENCE whose sample differs from the level the part drives in that bit time, or expects recessive in the gap, and
FRAMING_DETECTED for the byte in reception, release the line and take the frame into RECOVER with its pending outcome; a sample
that reads as expected changes nothing; a readback difference is a line event, a framing detection is none (R61, R63, R73, R102).
A level that reads dominant there is carried into RECOVER and holds the recessive run off until it ends (R82); that the command
carries the level is the model's choice, log entry 4. -/
def Obligations.DetectionsEnterRecover : Prop :=
  ∀ (s : State) (g : Seg) (f : Frame), IdleTimersFollow s → (s.seg g).lineState = .active → (s.seg g).frame = some f →
    let x := s.seg g
    let recover (o : PendingOutcome) (run : RecessiveRun) : Segment := { x with
      phase := .recover, phaseBits := none, frame := some { f with inReception := false }, pendingOutcome := some o
      run := run, line := .released }
    (∀ (bit : Nat) (expected read : Level),
      (x.phase ∈ [.leadIn, .header, .responseOut] ∧ ∃ levels, x.line = .sending levels ∧ levels[bit]? = some expected) ∨
        x.phase = .gap ∧ x.line = .released ∧ bit < 2 ∧ expected = .recessive →
      exec (.readbackDifference ⟨g, bit, read⟩) s = .next (
        if read = expected then s
        else s.setSeg g { recover .readback (if read = .dominant then .interrupted else .counting) with
          lineEvents := x.lineEvents + 1 })) ∧
    (x.phase ∈ [.ackWait, .responseIn] → f.inReception = true →
      exec (.framingDetected g) s = .next (s.setSeg g (recover .framing .interrupted)))

/-! ### The line watch -/

/-- NOISE adds one to LINE_EVENTS and changes nothing else, the idle timer included (R83); RECESSIVE_RUN_RESTART breaks or
starts the recessive run of SYNCING or RECOVER and changes nothing else (R82, R88); GUARD_END takes the frame phase to IDLE and
changes nothing else but the idle timer, as R89 has it (R75, R81). That a command carries the level is the model's choice, log
entry 4. -/
def Obligations.NoiseRunAndGuardChangeOneField : Prop :=
  ∀ (s : State) (g : Seg), IdleTimersFollow s →
    ((s.seg g).lineState = .active → (s.seg g).phase = .guard → ∃ t, exec (.guardEnd g) s = .next t ∧ IdleTimersFollow t ∧
      t = s.setSeg g { s.seg g with phase := .idle, phaseBits := none, idleTimer := (t.seg g).idleTimer }) ∧
    ((s.seg g).lineState = .active → (s.seg g).phase = .idle ∨ (s.seg g).phase = .guard →
      exec (.noise g) s = .next (s.setSeg g { s.seg g with lineEvents := (s.seg g).lineEvents + 1 })) ∧
    ((s.seg g).run ≠ .notMeasured →
      exec (.recessiveRunRestart g .dominant) s = .next (s.setSeg g { s.seg g with run := .interrupted }) ∧
      exec (.recessiveRunRestart g .recessive) s = .next (s.setSeg g { s.seg g with run := .counting })) ∧
    ((s.seg g).lineState = .syncing → (s.seg g).run = .interrupted → exec (.syncComplete g) s = .next s)

/-- FOREIGN_MASTER, STUCK_LINE, DORMANT_STUCK, SYNC_NO_IDLE and RECOVER_NO_IDLE take the segment to FAULTED with their reason
(R83, R84, R85, R88, R73, R86): line released, phase IDLE, no frame, hold, pending operation, pulse or timer, the queue empty, a
frame in progress counted in FRAMES_FAILED, a foreign master in LINE_EVENTS; with nothing to end, only the notice is posted. The
frame's leg and each leg of the queue finish SEGMENT_FAULT or fail over (R55, R57), and a pending operation completes
SEGMENT_FAULT.
A segment that was held loses its hold, with the LIVE HOLDs that name it (R110, R112; in the own set of one and named by another it
posts no notice, log entry 12). A window that ends the frame with a dominant
level of 10 bit times or more on the line is followed at once by the hold grant, then by the stop that waited for the frame, or, no
stop waiting, by the foreign master (R64, R82, R83, R96, R109); that WINDOW_END carries the level's length is log entry 4, that grant
and stop are commands of their own where it carries none log entry 9. -/
def Obligations.LineFaultsEnterFaulted : Prop :=
  (∀ (s : State) (g : Seg) (cmd : Instr) (why : FaultReason), IdleTimersFollow s →
    let x := s.seg g
    (cmd = .foreignMaster g ∧ why = .foreign ∧ x.lineState = .active ∧ (x.phase = .idle ∨ x.phase = .guard) ∨
      cmd = .stuckLine g ∧ why = .stuck ∧ (x.lineState = .syncing ∨ x.lineState = .waking ∨
        x.lineState = .active ∧ x.phase ∈ [.ackWait, .responseIn, .recover]) ∨
      cmd = .dormantStuck g ∧ why = .stuck ∧ x.lineState = .dormant ∧ x.wakePulse = none ∨
      cmd = .syncNoIdle g ∧ why = .noIdle ∧ x.lineState = .syncing ∨
      cmd = .recoverNoIdle g ∧ why = .noIdle ∧ x.lineState = .active ∧ x.phase = .recover) →
    let y : Segment := { Segment.cold with
      configured := x.configured, config := x.config, lineState := .faulted why
      framesOk := x.framesOk, retries := x.retries
      framesFailed := if x.frame = none then x.framesFailed else x.framesFailed + 1
      lineEvents := if why = .foreign then x.lineEvents + 1 else x.lineEvents }
    ∃ t, exec cmd s = .next t ∧ t.seg g = y ∧ t.queue g = [] ∧ IdleTimersFollow t ∧ OnlyWork s t ∧
      (x.frame = none → s.queue g = [] → x.hold = .none → x.pendingOp = none → (∀ i, ¬ HoldEnds s g .fault i) →
        t = (s.setSeg g y).postNotice x.config.noticeCq (.segmentFaulted g why)) ∧
      (DispatchLegal s → Displaced s t g .segmentFault ∧ FrameCut s t g .segmentFault ∧ HoldLost s t g .fault ∧
        ∀ (p : PendingOp) (c : Cq), x.pendingOp = some p → (s.slot p.slot).state = .live → (s.slot p.slot).exchange = none →
          (s.slot p.slot).kind ≠ some .hold → (s.slot p.slot).cq = some c →
          t.slot p.slot = s.posted c (doneWith (s.slot p.slot) (plainResult (.outcome .segmentFault) 0 zeroArea)))) ∧
  ∀ (s : State) (g : Seg) (f : Frame) (n : Nat), IdleTimersFollow s → (s.seg g).lineState = .active →
    (s.seg g).phase = .ackWait ∨ (s.seg g).phase = .responseIn → (s.seg g).frame = some f → f.inReception = false →
    (s.seg g).phaseBits ≠ none → 10 ≤ n →
    let stops := ∃ i, (s.seg g).pendingOp = some { op := .stop, slot := i }
    ∃ t u, exec (.windowEnd ⟨g, 0⟩) s = .next t ∧
      ((∃ r j, (s.seg g).hold = .draining r j) → exec (.holdGrant g) t = .next u) ∧
      ((∀ r j, (s.seg g).hold ≠ .draining r j) → u = t) ∧
      (stops → exec (.windowEnd ⟨g, n⟩) s = exec (.stopAct g) u) ∧
      (¬ stops → exec (.windowEnd ⟨g, n⟩) s = exec (.foreignMaster g) u)

/-- SYNC_COMPLETE: after 24 recessive bit times without a break the segment is ACTIVE in IDLE and its START completes OK (R88). -/
def Obligations.SyncCompleteEndsStart : Prop :=
  ∀ (s : State) (g : Seg) (i : SlotId) (c : Cq), IdleTimersFollow s → (s.seg g).lineState = .syncing →
    (s.seg g).run = .counting → (s.seg g).pendingOp = some { op := .start, slot := i } → (s.slot i).state = .live →
    (s.slot i).exchange = none → (s.slot i).cq = some c →
    ∃ t, exec (.syncComplete g) s = .next t ∧ IdleTimersFollow t ∧
      t = (s.answered i c (doneWith (s.slot i) (plainResult (.outcome .ok) 0 zeroArea))).setSeg g { s.seg g with
        lineState := .active, phase := .idle, run := .notMeasured, pendingOp := none, idleTimer := (t.seg g).idleTimer }

/-! ### Bytes and records -/

/-- The header of every frame the part can send (R66): the direction bit, the identifier, the length, and a check that makes the
nibbles of H0, the length and the check sum to 15 modulo 16; each byte is a start bit, eight data bits from the least
significant, and a stop bit (R62). The check byte is the CRC-8 of header and payload, each byte most significant bit first (R67).
With the three headers worked out in R66 and the check byte worked through in R67. -/
def Obligations.HeaderBytesAndLevels : Prop :=
  (∀ o, headerByte0 (dormancyFrame o) = 0x7E ∧ headerByte1 (dormancyFrame o) = 0x91 ∧
    frameCheck (dormancyFrame o) [0x00] = 0xF7) ∧
  (∀ f : Frame, f.id = 19 → f.direction = .dirIn → f.length = 4 → headerByte0 f = 0x93 ∧ headerByte1 f = 0xF4) ∧
  (∀ f : Frame, f.id = 5 → f.direction = .dirOut → f.length = 2 → headerByte0 f = 0x05 ∧ headerByte1 f = 0x82) ∧
  (∀ f : Frame, f.id < 128 → f.length ≤ 8 →
    (headerByte0 f).toNat % 128 = f.id ∧ (headerByte0 f).msb = decide (f.direction = .dirIn) ∧
    (headerByte1 f).toNat % 16 = f.length ∧
    ((headerByte0 f).toNat % 16 + (headerByte0 f).toNat / 16 + f.length + (headerByte1 f).toNat / 16) % 16 = 15) ∧
  (∀ (f : Frame) (payload : List Byte),
    let shift (reg : Byte) (bit : Bool) : Byte := if (reg.msb != bit) = true then (reg <<< 1) ^^^ 0x2F else reg <<< 1
    frameCheck f payload = ([headerByte0 f, headerByte1 f] ++ payload).foldl (fun reg b =>
      [7, 6, 5, 4, 3, 2, 1, 0].foldl (fun reg n => shift reg (b.getLsbD n)) reg) 0xFF ^^^ 0xFF) ∧
  ∀ b : Byte, (byteLevels b).length = 10 ∧ (byteLevels b)[0]? = some .dominant ∧ (byteLevels b)[9]? = some .recessive ∧
    ∀ n : Fin 8, (byteLevels b)[n.val + 1]? = some (if b.getLsbD n.val = true then .recessive else .dominant)

/-- The 16 bytes of a completion record, its status by the code table of section 10.5, and of a notice record, each kind with its
code, subject, reason codes and holder ring (R171, R172). -/
def Obligations.RecordsAreSixteenBytes : Prop :=
  let codes : List (Status × Nat) := [
    (.outcome .ok, 0x00), (.outcome .noResponse, 0x01), (.outcome .partialResponse, 0x02), (.outcome .checkError, 0x03),
    (.outcome .framing, 0x04), (.outcome .readback, 0x05), (.outcome .refused, 0x06), (.outcome .badAck, 0x07),
    (.outcome .expired, 0x08), (.outcome .aborted, 0x09), (.outcome .flushed, 0x0A), (.outcome .segmentFault, 0x0B),
    (.outcome .segmentStopped, 0x0C), (.outcome .segmentReset, 0x0D), (.outcome .segmentOff, 0x0E), (.someFailed, 0x10),
    (.allFailed, 0x11), (.badRequest, 0x20), (.badTarget, 0x21), (.noPath, 0x22), (.conflict, 0x23), (.notFound, 0x24),
    (.tooLate, 0x25), (.notHeld, 0x26), (.inUse, 0x27), (.busy, 0x28), (.noSpace, 0x29)]
  (∀ (s : State) (c : Cq) (i : SlotId) (r : Result) (tag : Half) (q : Ring), (s.slot i).result = some r →
    (s.slot i).tag = some tag → (s.slot i).ring = some q → r.area.length = 8 → r.attempts < 256 → r.length < 256 →
    let bytes := s.postingRecord c (.slot i)
    bytes.length = 16 ∧ bytes.drop 8 = r.area ∧ bytes[1]?.getD 0 ++ bytes[0]?.getD 0 = tag ∧
    (bytes[2]?.getD 0).toNat = q.val ∧ (r.status, (bytes[3]?.getD 0).toNat) ∈ codes ∧ (bytes[4]?.getD 0).toNat = r.attempts ∧
    (∀ n : Fin 8, (bytes[5]?.getD 0).getLsbD n.val = (
      if n.val = 0 then r.late else if n.val = 1 then r.failover else if n.val = 2 then r.alternate
      else if n.val = 7 then (s.cq c).phase else false)) ∧
    (bytes[6]?.getD 0).toNat = r.length ∧
    (bytes[7]?.getD 0).toNat = (match r.lastSeg with | some g => g.val | none => 255)) ∧
  ∀ (s : State) (c : Cq) (n : Notice),
    let bytes := s.postingRecord c (.notice n)
    bytes.length = 16 ∧ bytes.take 3 = [0x00, 0x00, 0x80] ∧ bytes.drop 8 = List.replicate 8 0x00 ∧
    (bytes[5]?.getD 0).toNat = (if (s.cq c).noticesLost then 8 else 0) + (if (s.cq c).phase then 128 else 0) ∧
    [bytes[3]?, bytes[4]?, bytes[6]?, bytes[7]?].map (fun b => (b.getD 0).toNat) = match n with
      | .ringError r why => [1, r.val, match why with | .readError => 1 | .readTimeout => 2, 0]
      | .cqError d => [2, d.val, 0, 0]
      | .segmentFaulted g why => [3, g.val, match why with | .foreign => 1 | .stuck => 2 | .noIdle => 3, 0]
      | .segmentDormant g => [4, g.val, 0, 0]
      | .remoteWake g => [5, g.val, 0, 0]
      | .holdLost g why r => [6, g.val, match why with | .expired => 1 | .fault => 2 | .stopped => 3 | .reset => 4, r.val]

end Slice0
end

