-- ==== Sys2Proof/Laws/State.lean ====
section
/-! SUPPORT. What each accessor reads after each update of the state, so that no proof unfolds an update. -/

namespace Sys2Proof.Machine

/-! ### An accessor reads its own table only -/

@[simp] theorem State.slots_get (s : State) (i : SlotId) : s.slots.get i = s.slot i := rfl

@[simp] theorem State.segs_get (s : State) (i : Seg) : s.segs.get i = s.seg i := rfl

@[simp] theorem State.queues_get (s : State) (i : Seg) : s.queues.get i = s.queue i := rfl

@[simp] theorem State.rings_get (s : State) (i : Ring) : s.rings.get i = s.ring i := rfl

@[simp] theorem State.cqs_get (s : State) (i : Cq) : s.cqs.get i = s.cq i := rfl

variable (a0 : (Vector Slot 64)) (a1 : Nat) (a2 : (Vector Half 4)) (a3 : (Vector MapEntry 32)) (a4 : (Vector (List SlotId) 8)) (a5 : (Vector Segment 8)) (a6 : Half) (a7 : (Vector RequestRing 8)) (a8 : Ring) (a9 : Nat) (a10 : (Option Fetch)) (a11 : (Vector CompletionRing 4)) (a12 : Cq) (a13 : (Option ResetKind)) (a14 : Bool) (a15 : Bool) (a16 : Addr) (a17 : Addr) (a18 : Word) (a19 : ReadPort) (a20 : (Option WriteRequest)) (a21 : Side) (a22 : (Vector Bool 4)) (a23 : (Vector (Option Cq) 4)) (a24 : (List LinkOp)) (a25 : (List Instr))

@[simp] theorem State.slot_mk (i : SlotId) :
    State.slot (State.mk a0 a1 a2 a3 a4 a5 a6 a7 a8 a9 a10 a11 a12 a13 a14 a15 a16 a17 a18 a19 a20 a21 a22 a23 a24 a25) i = a0.get i := rfl

@[simp] theorem State.seg_mk (i : Seg) :
    State.seg (State.mk a0 a1 a2 a3 a4 a5 a6 a7 a8 a9 a10 a11 a12 a13 a14 a15 a16 a17 a18 a19 a20 a21 a22 a23 a24 a25) i = a5.get i := rfl

@[simp] theorem State.queue_mk (i : Seg) :
    State.queue (State.mk a0 a1 a2 a3 a4 a5 a6 a7 a8 a9 a10 a11 a12 a13 a14 a15 a16 a17 a18 a19 a20 a21 a22 a23 a24 a25) i = a4.get i := rfl

@[simp] theorem State.ring_mk (i : Ring) :
    State.ring (State.mk a0 a1 a2 a3 a4 a5 a6 a7 a8 a9 a10 a11 a12 a13 a14 a15 a16 a17 a18 a19 a20 a21 a22 a23 a24 a25) i = a7.get i := rfl

@[simp] theorem State.cq_mk (i : Cq) :
    State.cq (State.mk a0 a1 a2 a3 a4 a5 a6 a7 a8 a9 a10 a11 a12 a13 a14 a15 a16 a17 a18 a19 a20 a21 a22 a23 a24 a25) i = a11.get i := rfl

/-! ### Fields that an update of one table leaves -/

@[simp] theorem State.setSlot_lastArrival (s : State) (i : SlotId) (x : Slot) : (s.setSlot i x).lastArrival = s.lastArrival := rfl
@[simp] theorem State.setSlot_lifetimes (s : State) (i : SlotId) (x : Slot) : (s.setSlot i x).lifetimes = s.lifetimes := rfl
@[simp] theorem State.setSlot_map (s : State) (i : SlotId) (x : Slot) : (s.setSlot i x).map = s.map := rfl
@[simp] theorem State.setSlot_queues (s : State) (i : SlotId) (x : Slot) : (s.setSlot i x).queues = s.queues := rfl
@[simp] theorem State.setSlot_segs (s : State) (i : SlotId) (x : Slot) : (s.setSlot i x).segs = s.segs := rfl
@[simp] theorem State.setSlot_holdLimit (s : State) (i : SlotId) (x : Slot) : (s.setSlot i x).holdLimit = s.holdLimit := rfl
@[simp] theorem State.setSlot_rings (s : State) (i : SlotId) (x : Slot) : (s.setSlot i x).rings = s.rings := rfl
@[simp] theorem State.setSlot_rotPtr (s : State) (i : SlotId) (x : Slot) : (s.setSlot i x).rotPtr = s.rotPtr := rfl
@[simp] theorem State.setSlot_grantCount (s : State) (i : SlotId) (x : Slot) : (s.setSlot i x).grantCount = s.grantCount := rfl
@[simp] theorem State.setSlot_fetch (s : State) (i : SlotId) (x : Slot) : (s.setSlot i x).fetch = s.fetch := rfl
@[simp] theorem State.setSlot_cqs (s : State) (i : SlotId) (x : Slot) : (s.setSlot i x).cqs = s.cqs := rfl
@[simp] theorem State.setSlot_cqLast (s : State) (i : SlotId) (x : Slot) : (s.setSlot i x).cqLast = s.cqLast := rfl
@[simp] theorem State.setSlot_resetting (s : State) (i : SlotId) (x : Slot) : (s.setSlot i x).resetting = s.resetting := rfl
@[simp] theorem State.setSlot_enable (s : State) (i : SlotId) (x : Slot) : (s.setSlot i x).enable = s.enable := rfl
@[simp] theorem State.setSlot_adminFault (s : State) (i : SlotId) (x : Slot) : (s.setSlot i x).adminFault = s.adminFault := rfl
@[simp] theorem State.setSlot_adminRqBase (s : State) (i : SlotId) (x : Slot) : (s.setSlot i x).adminRqBase = s.adminRqBase := rfl
@[simp] theorem State.setSlot_adminCqBase (s : State) (i : SlotId) (x : Slot) : (s.setSlot i x).adminCqBase = s.adminCqBase := rfl
@[simp] theorem State.setSlot_adminSizes (s : State) (i : SlotId) (x : Slot) : (s.setSlot i x).adminSizes = s.adminSizes := rfl
@[simp] theorem State.setSlot_read (s : State) (i : SlotId) (x : Slot) : (s.setSlot i x).read = s.read := rfl
@[simp] theorem State.setSlot_write (s : State) (i : SlotId) (x : Slot) : (s.setSlot i x).write = s.write := rfl
@[simp] theorem State.setSlot_arbLast (s : State) (i : SlotId) (x : Slot) : (s.setSlot i x).arbLast = s.arbLast := rfl
@[simp] theorem State.setSlot_msgPending (s : State) (i : SlotId) (x : Slot) : (s.setSlot i x).msgPending = s.msgPending := rfl
@[simp] theorem State.setSlot_msgHeld (s : State) (i : SlotId) (x : Slot) : (s.setSlot i x).msgHeld = s.msgHeld := rfl
@[simp] theorem State.setSlot_link (s : State) (i : SlotId) (x : Slot) : (s.setSlot i x).link = s.link := rfl
@[simp] theorem State.setSlot_pending (s : State) (i : SlotId) (x : Slot) : (s.setSlot i x).pending = s.pending := rfl
@[simp] theorem State.seg_setSlot (s : State) (i : SlotId) (x : Slot) (j : Seg) : (s.setSlot i x).seg j = s.seg j := rfl
@[simp] theorem State.queue_setSlot (s : State) (i : SlotId) (x : Slot) (j : Seg) : (s.setSlot i x).queue j = s.queue j := rfl
@[simp] theorem State.ring_setSlot (s : State) (i : SlotId) (x : Slot) (j : Ring) : (s.setSlot i x).ring j = s.ring j := rfl
@[simp] theorem State.cq_setSlot (s : State) (i : SlotId) (x : Slot) (j : Cq) : (s.setSlot i x).cq j = s.cq j := rfl

@[simp] theorem State.setSeg_slots (s : State) (i : Seg) (x : Segment) : (s.setSeg i x).slots = s.slots := rfl
@[simp] theorem State.setSeg_lastArrival (s : State) (i : Seg) (x : Segment) : (s.setSeg i x).lastArrival = s.lastArrival := rfl
@[simp] theorem State.setSeg_lifetimes (s : State) (i : Seg) (x : Segment) : (s.setSeg i x).lifetimes = s.lifetimes := rfl
@[simp] theorem State.setSeg_map (s : State) (i : Seg) (x : Segment) : (s.setSeg i x).map = s.map := rfl
@[simp] theorem State.setSeg_queues (s : State) (i : Seg) (x : Segment) : (s.setSeg i x).queues = s.queues := rfl
@[simp] theorem State.setSeg_holdLimit (s : State) (i : Seg) (x : Segment) : (s.setSeg i x).holdLimit = s.holdLimit := rfl
@[simp] theorem State.setSeg_rings (s : State) (i : Seg) (x : Segment) : (s.setSeg i x).rings = s.rings := rfl
@[simp] theorem State.setSeg_rotPtr (s : State) (i : Seg) (x : Segment) : (s.setSeg i x).rotPtr = s.rotPtr := rfl
@[simp] theorem State.setSeg_grantCount (s : State) (i : Seg) (x : Segment) : (s.setSeg i x).grantCount = s.grantCount := rfl
@[simp] theorem State.setSeg_fetch (s : State) (i : Seg) (x : Segment) : (s.setSeg i x).fetch = s.fetch := rfl
@[simp] theorem State.setSeg_cqs (s : State) (i : Seg) (x : Segment) : (s.setSeg i x).cqs = s.cqs := rfl
@[simp] theorem State.setSeg_cqLast (s : State) (i : Seg) (x : Segment) : (s.setSeg i x).cqLast = s.cqLast := rfl
@[simp] theorem State.setSeg_resetting (s : State) (i : Seg) (x : Segment) : (s.setSeg i x).resetting = s.resetting := rfl
@[simp] theorem State.setSeg_enable (s : State) (i : Seg) (x : Segment) : (s.setSeg i x).enable = s.enable := rfl
@[simp] theorem State.setSeg_adminFault (s : State) (i : Seg) (x : Segment) : (s.setSeg i x).adminFault = s.adminFault := rfl
@[simp] theorem State.setSeg_adminRqBase (s : State) (i : Seg) (x : Segment) : (s.setSeg i x).adminRqBase = s.adminRqBase := rfl
@[simp] theorem State.setSeg_adminCqBase (s : State) (i : Seg) (x : Segment) : (s.setSeg i x).adminCqBase = s.adminCqBase := rfl
@[simp] theorem State.setSeg_adminSizes (s : State) (i : Seg) (x : Segment) : (s.setSeg i x).adminSizes = s.adminSizes := rfl
@[simp] theorem State.setSeg_read (s : State) (i : Seg) (x : Segment) : (s.setSeg i x).read = s.read := rfl
@[simp] theorem State.setSeg_write (s : State) (i : Seg) (x : Segment) : (s.setSeg i x).write = s.write := rfl
@[simp] theorem State.setSeg_arbLast (s : State) (i : Seg) (x : Segment) : (s.setSeg i x).arbLast = s.arbLast := rfl
@[simp] theorem State.setSeg_msgPending (s : State) (i : Seg) (x : Segment) : (s.setSeg i x).msgPending = s.msgPending := rfl
@[simp] theorem State.setSeg_msgHeld (s : State) (i : Seg) (x : Segment) : (s.setSeg i x).msgHeld = s.msgHeld := rfl
@[simp] theorem State.setSeg_link (s : State) (i : Seg) (x : Segment) : (s.setSeg i x).link = s.link := rfl
@[simp] theorem State.setSeg_pending (s : State) (i : Seg) (x : Segment) : (s.setSeg i x).pending = s.pending := rfl
@[simp] theorem State.slot_setSeg (s : State) (i : Seg) (x : Segment) (j : SlotId) : (s.setSeg i x).slot j = s.slot j := rfl
@[simp] theorem State.queue_setSeg (s : State) (i : Seg) (x : Segment) (j : Seg) : (s.setSeg i x).queue j = s.queue j := rfl
@[simp] theorem State.ring_setSeg (s : State) (i : Seg) (x : Segment) (j : Ring) : (s.setSeg i x).ring j = s.ring j := rfl
@[simp] theorem State.cq_setSeg (s : State) (i : Seg) (x : Segment) (j : Cq) : (s.setSeg i x).cq j = s.cq j := rfl

@[simp] theorem State.setQueue_slots (s : State) (i : Seg) (x : List SlotId) : (s.setQueue i x).slots = s.slots := rfl
@[simp] theorem State.setQueue_lastArrival (s : State) (i : Seg) (x : List SlotId) : (s.setQueue i x).lastArrival = s.lastArrival := rfl
@[simp] theorem State.setQueue_lifetimes (s : State) (i : Seg) (x : List SlotId) : (s.setQueue i x).lifetimes = s.lifetimes := rfl
@[simp] theorem State.setQueue_map (s : State) (i : Seg) (x : List SlotId) : (s.setQueue i x).map = s.map := rfl
@[simp] theorem State.setQueue_segs (s : State) (i : Seg) (x : List SlotId) : (s.setQueue i x).segs = s.segs := rfl
@[simp] theorem State.setQueue_holdLimit (s : State) (i : Seg) (x : List SlotId) : (s.setQueue i x).holdLimit = s.holdLimit := rfl
@[simp] theorem State.setQueue_rings (s : State) (i : Seg) (x : List SlotId) : (s.setQueue i x).rings = s.rings := rfl
@[simp] theorem State.setQueue_rotPtr (s : State) (i : Seg) (x : List SlotId) : (s.setQueue i x).rotPtr = s.rotPtr := rfl
@[simp] theorem State.setQueue_grantCount (s : State) (i : Seg) (x : List SlotId) : (s.setQueue i x).grantCount = s.grantCount := rfl
@[simp] theorem State.setQueue_fetch (s : State) (i : Seg) (x : List SlotId) : (s.setQueue i x).fetch = s.fetch := rfl
@[simp] theorem State.setQueue_cqs (s : State) (i : Seg) (x : List SlotId) : (s.setQueue i x).cqs = s.cqs := rfl
@[simp] theorem State.setQueue_cqLast (s : State) (i : Seg) (x : List SlotId) : (s.setQueue i x).cqLast = s.cqLast := rfl
@[simp] theorem State.setQueue_resetting (s : State) (i : Seg) (x : List SlotId) : (s.setQueue i x).resetting = s.resetting := rfl
@[simp] theorem State.setQueue_enable (s : State) (i : Seg) (x : List SlotId) : (s.setQueue i x).enable = s.enable := rfl
@[simp] theorem State.setQueue_adminFault (s : State) (i : Seg) (x : List SlotId) : (s.setQueue i x).adminFault = s.adminFault := rfl
@[simp] theorem State.setQueue_adminRqBase (s : State) (i : Seg) (x : List SlotId) : (s.setQueue i x).adminRqBase = s.adminRqBase := rfl
@[simp] theorem State.setQueue_adminCqBase (s : State) (i : Seg) (x : List SlotId) : (s.setQueue i x).adminCqBase = s.adminCqBase := rfl
@[simp] theorem State.setQueue_adminSizes (s : State) (i : Seg) (x : List SlotId) : (s.setQueue i x).adminSizes = s.adminSizes := rfl
@[simp] theorem State.setQueue_read (s : State) (i : Seg) (x : List SlotId) : (s.setQueue i x).read = s.read := rfl
@[simp] theorem State.setQueue_write (s : State) (i : Seg) (x : List SlotId) : (s.setQueue i x).write = s.write := rfl
@[simp] theorem State.setQueue_arbLast (s : State) (i : Seg) (x : List SlotId) : (s.setQueue i x).arbLast = s.arbLast := rfl
@[simp] theorem State.setQueue_msgPending (s : State) (i : Seg) (x : List SlotId) : (s.setQueue i x).msgPending = s.msgPending := rfl
@[simp] theorem State.setQueue_msgHeld (s : State) (i : Seg) (x : List SlotId) : (s.setQueue i x).msgHeld = s.msgHeld := rfl
@[simp] theorem State.setQueue_link (s : State) (i : Seg) (x : List SlotId) : (s.setQueue i x).link = s.link := rfl
@[simp] theorem State.setQueue_pending (s : State) (i : Seg) (x : List SlotId) : (s.setQueue i x).pending = s.pending := rfl
@[simp] theorem State.slot_setQueue (s : State) (i : Seg) (x : List SlotId) (j : SlotId) : (s.setQueue i x).slot j = s.slot j := rfl
@[simp] theorem State.seg_setQueue (s : State) (i : Seg) (x : List SlotId) (j : Seg) : (s.setQueue i x).seg j = s.seg j := rfl
@[simp] theorem State.ring_setQueue (s : State) (i : Seg) (x : List SlotId) (j : Ring) : (s.setQueue i x).ring j = s.ring j := rfl
@[simp] theorem State.cq_setQueue (s : State) (i : Seg) (x : List SlotId) (j : Cq) : (s.setQueue i x).cq j = s.cq j := rfl

@[simp] theorem State.setRing_slots (s : State) (i : Ring) (x : RequestRing) : (s.setRing i x).slots = s.slots := rfl
@[simp] theorem State.setRing_lastArrival (s : State) (i : Ring) (x : RequestRing) : (s.setRing i x).lastArrival = s.lastArrival := rfl
@[simp] theorem State.setRing_lifetimes (s : State) (i : Ring) (x : RequestRing) : (s.setRing i x).lifetimes = s.lifetimes := rfl
@[simp] theorem State.setRing_map (s : State) (i : Ring) (x : RequestRing) : (s.setRing i x).map = s.map := rfl
@[simp] theorem State.setRing_queues (s : State) (i : Ring) (x : RequestRing) : (s.setRing i x).queues = s.queues := rfl
@[simp] theorem State.setRing_segs (s : State) (i : Ring) (x : RequestRing) : (s.setRing i x).segs = s.segs := rfl
@[simp] theorem State.setRing_holdLimit (s : State) (i : Ring) (x : RequestRing) : (s.setRing i x).holdLimit = s.holdLimit := rfl
@[simp] theorem State.setRing_rotPtr (s : State) (i : Ring) (x : RequestRing) : (s.setRing i x).rotPtr = s.rotPtr := rfl
@[simp] theorem State.setRing_grantCount (s : State) (i : Ring) (x : RequestRing) : (s.setRing i x).grantCount = s.grantCount := rfl
@[simp] theorem State.setRing_fetch (s : State) (i : Ring) (x : RequestRing) : (s.setRing i x).fetch = s.fetch := rfl
@[simp] theorem State.setRing_cqs (s : State) (i : Ring) (x : RequestRing) : (s.setRing i x).cqs = s.cqs := rfl
@[simp] theorem State.setRing_cqLast (s : State) (i : Ring) (x : RequestRing) : (s.setRing i x).cqLast = s.cqLast := rfl
@[simp] theorem State.setRing_resetting (s : State) (i : Ring) (x : RequestRing) : (s.setRing i x).resetting = s.resetting := rfl
@[simp] theorem State.setRing_enable (s : State) (i : Ring) (x : RequestRing) : (s.setRing i x).enable = s.enable := rfl
@[simp] theorem State.setRing_adminFault (s : State) (i : Ring) (x : RequestRing) : (s.setRing i x).adminFault = s.adminFault := rfl
@[simp] theorem State.setRing_adminRqBase (s : State) (i : Ring) (x : RequestRing) : (s.setRing i x).adminRqBase = s.adminRqBase := rfl
@[simp] theorem State.setRing_adminCqBase (s : State) (i : Ring) (x : RequestRing) : (s.setRing i x).adminCqBase = s.adminCqBase := rfl
@[simp] theorem State.setRing_adminSizes (s : State) (i : Ring) (x : RequestRing) : (s.setRing i x).adminSizes = s.adminSizes := rfl
@[simp] theorem State.setRing_read (s : State) (i : Ring) (x : RequestRing) : (s.setRing i x).read = s.read := rfl
@[simp] theorem State.setRing_write (s : State) (i : Ring) (x : RequestRing) : (s.setRing i x).write = s.write := rfl
@[simp] theorem State.setRing_arbLast (s : State) (i : Ring) (x : RequestRing) : (s.setRing i x).arbLast = s.arbLast := rfl
@[simp] theorem State.setRing_msgPending (s : State) (i : Ring) (x : RequestRing) : (s.setRing i x).msgPending = s.msgPending := rfl
@[simp] theorem State.setRing_msgHeld (s : State) (i : Ring) (x : RequestRing) : (s.setRing i x).msgHeld = s.msgHeld := rfl
@[simp] theorem State.setRing_link (s : State) (i : Ring) (x : RequestRing) : (s.setRing i x).link = s.link := rfl
@[simp] theorem State.setRing_pending (s : State) (i : Ring) (x : RequestRing) : (s.setRing i x).pending = s.pending := rfl
@[simp] theorem State.slot_setRing (s : State) (i : Ring) (x : RequestRing) (j : SlotId) : (s.setRing i x).slot j = s.slot j := rfl
@[simp] theorem State.seg_setRing (s : State) (i : Ring) (x : RequestRing) (j : Seg) : (s.setRing i x).seg j = s.seg j := rfl
@[simp] theorem State.queue_setRing (s : State) (i : Ring) (x : RequestRing) (j : Seg) : (s.setRing i x).queue j = s.queue j := rfl
@[simp] theorem State.cq_setRing (s : State) (i : Ring) (x : RequestRing) (j : Cq) : (s.setRing i x).cq j = s.cq j := rfl

@[simp] theorem State.setCq_slots (s : State) (i : Cq) (x : CompletionRing) : (s.setCq i x).slots = s.slots := rfl
@[simp] theorem State.setCq_lastArrival (s : State) (i : Cq) (x : CompletionRing) : (s.setCq i x).lastArrival = s.lastArrival := rfl
@[simp] theorem State.setCq_lifetimes (s : State) (i : Cq) (x : CompletionRing) : (s.setCq i x).lifetimes = s.lifetimes := rfl
@[simp] theorem State.setCq_map (s : State) (i : Cq) (x : CompletionRing) : (s.setCq i x).map = s.map := rfl
@[simp] theorem State.setCq_queues (s : State) (i : Cq) (x : CompletionRing) : (s.setCq i x).queues = s.queues := rfl
@[simp] theorem State.setCq_segs (s : State) (i : Cq) (x : CompletionRing) : (s.setCq i x).segs = s.segs := rfl
@[simp] theorem State.setCq_holdLimit (s : State) (i : Cq) (x : CompletionRing) : (s.setCq i x).holdLimit = s.holdLimit := rfl
@[simp] theorem State.setCq_rings (s : State) (i : Cq) (x : CompletionRing) : (s.setCq i x).rings = s.rings := rfl
@[simp] theorem State.setCq_rotPtr (s : State) (i : Cq) (x : CompletionRing) : (s.setCq i x).rotPtr = s.rotPtr := rfl
@[simp] theorem State.setCq_grantCount (s : State) (i : Cq) (x : CompletionRing) : (s.setCq i x).grantCount = s.grantCount := rfl
@[simp] theorem State.setCq_fetch (s : State) (i : Cq) (x : CompletionRing) : (s.setCq i x).fetch = s.fetch := rfl
@[simp] theorem State.setCq_cqLast (s : State) (i : Cq) (x : CompletionRing) : (s.setCq i x).cqLast = s.cqLast := rfl
@[simp] theorem State.setCq_resetting (s : State) (i : Cq) (x : CompletionRing) : (s.setCq i x).resetting = s.resetting := rfl
@[simp] theorem State.setCq_enable (s : State) (i : Cq) (x : CompletionRing) : (s.setCq i x).enable = s.enable := rfl
@[simp] theorem State.setCq_adminFault (s : State) (i : Cq) (x : CompletionRing) : (s.setCq i x).adminFault = s.adminFault := rfl
@[simp] theorem State.setCq_adminRqBase (s : State) (i : Cq) (x : CompletionRing) : (s.setCq i x).adminRqBase = s.adminRqBase := rfl
@[simp] theorem State.setCq_adminCqBase (s : State) (i : Cq) (x : CompletionRing) : (s.setCq i x).adminCqBase = s.adminCqBase := rfl
@[simp] theorem State.setCq_adminSizes (s : State) (i : Cq) (x : CompletionRing) : (s.setCq i x).adminSizes = s.adminSizes := rfl
@[simp] theorem State.setCq_read (s : State) (i : Cq) (x : CompletionRing) : (s.setCq i x).read = s.read := rfl
@[simp] theorem State.setCq_write (s : State) (i : Cq) (x : CompletionRing) : (s.setCq i x).write = s.write := rfl
@[simp] theorem State.setCq_arbLast (s : State) (i : Cq) (x : CompletionRing) : (s.setCq i x).arbLast = s.arbLast := rfl
@[simp] theorem State.setCq_msgPending (s : State) (i : Cq) (x : CompletionRing) : (s.setCq i x).msgPending = s.msgPending := rfl
@[simp] theorem State.setCq_msgHeld (s : State) (i : Cq) (x : CompletionRing) : (s.setCq i x).msgHeld = s.msgHeld := rfl
@[simp] theorem State.setCq_link (s : State) (i : Cq) (x : CompletionRing) : (s.setCq i x).link = s.link := rfl
@[simp] theorem State.setCq_pending (s : State) (i : Cq) (x : CompletionRing) : (s.setCq i x).pending = s.pending := rfl
@[simp] theorem State.slot_setCq (s : State) (i : Cq) (x : CompletionRing) (j : SlotId) : (s.setCq i x).slot j = s.slot j := rfl
@[simp] theorem State.seg_setCq (s : State) (i : Cq) (x : CompletionRing) (j : Seg) : (s.setCq i x).seg j = s.seg j := rfl
@[simp] theorem State.queue_setCq (s : State) (i : Cq) (x : CompletionRing) (j : Seg) : (s.setCq i x).queue j = s.queue j := rfl
@[simp] theorem State.ring_setCq (s : State) (i : Cq) (x : CompletionRing) (j : Ring) : (s.setCq i x).ring j = s.ring j := rfl

/-! ### An update read back -/

theorem State.slot_setSlot (s : State) (i j : SlotId) (x : Slot) : (s.setSlot i x).slot j = if i = j then x else s.slot j := by
  simp only [State.slot, State.setSlot, Vector.get_eq_getElem, Vector.getElem_set, Fin.ext_iff]

@[simp] theorem State.slot_setSlot_self (s : State) (i : SlotId) (x : Slot) : (s.setSlot i x).slot i = x := by
  simp [State.slot_setSlot]

theorem State.slot_setSlot_of_ne (s : State) (i j : SlotId) (x : Slot) (h : i ≠ j) : (s.setSlot i x).slot j = s.slot j := by
  simp [State.slot_setSlot, h]

@[simp] theorem State.setSlot_setSlot (s : State) (i : SlotId) (x y : Slot) : (s.setSlot i x).setSlot i y = s.setSlot i y := by
  simp [State.setSlot]

@[simp] theorem State.setSlot_self (s : State) (i : SlotId) : s.setSlot i (s.slot i) = s := by
  simp [State.setSlot, State.slot, Vector.get_eq_getElem]

theorem State.seg_setSeg (s : State) (i j : Seg) (x : Segment) : (s.setSeg i x).seg j = if i = j then x else s.seg j := by
  simp only [State.seg, State.setSeg, Vector.get_eq_getElem, Vector.getElem_set, Fin.ext_iff]

@[simp] theorem State.seg_setSeg_self (s : State) (i : Seg) (x : Segment) : (s.setSeg i x).seg i = x := by
  simp [State.seg_setSeg]

theorem State.seg_setSeg_of_ne (s : State) (i j : Seg) (x : Segment) (h : i ≠ j) : (s.setSeg i x).seg j = s.seg j := by
  simp [State.seg_setSeg, h]

@[simp] theorem State.setSeg_setSeg (s : State) (i : Seg) (x y : Segment) : (s.setSeg i x).setSeg i y = s.setSeg i y := by
  simp [State.setSeg]

@[simp] theorem State.setSeg_self (s : State) (i : Seg) : s.setSeg i (s.seg i) = s := by
  simp [State.setSeg, State.seg, Vector.get_eq_getElem]

theorem State.queue_setQueue (s : State) (i j : Seg) (x : List SlotId) : (s.setQueue i x).queue j = if i = j then x else s.queue j := by
  simp only [State.queue, State.setQueue, Vector.get_eq_getElem, Vector.getElem_set, Fin.ext_iff]

@[simp] theorem State.queue_setQueue_self (s : State) (i : Seg) (x : List SlotId) : (s.setQueue i x).queue i = x := by
  simp [State.queue_setQueue]

theorem State.queue_setQueue_of_ne (s : State) (i j : Seg) (x : List SlotId) (h : i ≠ j) : (s.setQueue i x).queue j = s.queue j := by
  simp [State.queue_setQueue, h]

@[simp] theorem State.setQueue_setQueue (s : State) (i : Seg) (x y : List SlotId) : (s.setQueue i x).setQueue i y = s.setQueue i y := by
  simp [State.setQueue]

@[simp] theorem State.setQueue_self (s : State) (i : Seg) : s.setQueue i (s.queue i) = s := by
  simp [State.setQueue, State.queue, Vector.get_eq_getElem]

theorem State.ring_setRing (s : State) (i j : Ring) (x : RequestRing) : (s.setRing i x).ring j = if i = j then x else s.ring j := by
  simp only [State.ring, State.setRing, Vector.get_eq_getElem, Vector.getElem_set, Fin.ext_iff]

@[simp] theorem State.ring_setRing_self (s : State) (i : Ring) (x : RequestRing) : (s.setRing i x).ring i = x := by
  simp [State.ring_setRing]

theorem State.ring_setRing_of_ne (s : State) (i j : Ring) (x : RequestRing) (h : i ≠ j) : (s.setRing i x).ring j = s.ring j := by
  simp [State.ring_setRing, h]

@[simp] theorem State.setRing_setRing (s : State) (i : Ring) (x y : RequestRing) : (s.setRing i x).setRing i y = s.setRing i y := by
  simp [State.setRing]

@[simp] theorem State.setRing_self (s : State) (i : Ring) : s.setRing i (s.ring i) = s := by
  simp [State.setRing, State.ring, Vector.get_eq_getElem]

theorem State.cq_setCq (s : State) (i j : Cq) (x : CompletionRing) : (s.setCq i x).cq j = if i = j then x else s.cq j := by
  simp only [State.cq, State.setCq, Vector.get_eq_getElem, Vector.getElem_set, Fin.ext_iff]

@[simp] theorem State.cq_setCq_self (s : State) (i : Cq) (x : CompletionRing) : (s.setCq i x).cq i = x := by
  simp [State.cq_setCq]

theorem State.cq_setCq_of_ne (s : State) (i j : Cq) (x : CompletionRing) (h : i ≠ j) : (s.setCq i x).cq j = s.cq j := by
  simp [State.cq_setCq, h]

@[simp] theorem State.setCq_setCq (s : State) (i : Cq) (x y : CompletionRing) : (s.setCq i x).setCq i y = s.setCq i y := by
  simp [State.setCq]

@[simp] theorem State.setCq_self (s : State) (i : Cq) : s.setCq i (s.cq i) = s := by
  simp [State.setCq, State.cq, Vector.get_eq_getElem]

/-! ### A change of one record is an update -/

@[simp] theorem State.modSlot_eq (s : State) (i : SlotId) (f : Slot → Slot) : s.modSlot i f = s.setSlot i (f (s.slot i)) := rfl
@[simp] theorem State.modSeg_eq (s : State) (i : Seg) (f : Segment → Segment) : s.modSeg i f = s.setSeg i (f (s.seg i)) := rfl
@[simp] theorem State.modRing_eq (s : State) (i : Ring) (f : RequestRing → RequestRing) : s.modRing i f = s.setRing i (f (s.ring i)) := rfl
@[simp] theorem State.modCq_eq (s : State) (i : Cq) (f : CompletionRing → CompletionRing) : s.modCq i f = s.setCq i (f (s.cq i)) := rfl

end Sys2Proof.Machine
end

