-- ==== Sys2Proof/Laws/IdleTimer.lean ====
section
/-! SUPPORT. The idle timers at the end of a step (R89): what `refreshIdle` leaves, and that it does nothing where the timers
already follow. -/

namespace Sys2Proof.Machine

theorem Segment.idleRuns_iff (x : Segment) (q : List SlotId) : x.idleRuns q = true ↔
    x.config.idleToDormant ≠ 0 ∧ x.lineState = .active ∧ x.phase = .idle ∧ q = [] ∧ x.hold = .none ∧ x.pendingOp = none := by
  simp [Segment.idleRuns, and_assoc]

theorem idleTimersFollow_iff (s : State) :
    IdleTimersFollow s ↔ ∀ g, (s.seg g).idleTimer = (s.seg g).idleTimerFor (s.queue g) := by
  simp only [IdleTimersFollow, Segment.idleTimerFor, Segment.idleRuns_iff, Config.usPerMs]

/-- A timer that follows is stopped where one of R89's conditions fails. -/
theorem IdleTimersFollow.stopped {s : State} (h : IdleTimersFollow s) {g : Seg} (hg : (s.seg g).idleRuns (s.queue g) = false) :
    (s.seg g).idleTimer = .stopped := by
  rw [(idleTimersFollow_iff s).1 h g, Segment.idleTimerFor, hg]
  rfl

@[simp] theorem State.seg_refreshIdle (s : State) (g : Seg) :
    s.refreshIdle.seg g = { s.seg g with idleTimer := (s.seg g).idleTimerFor (s.queue g) } := by
  simp [State.seg, State.refreshIdle, Vector.get_eq_getElem]

@[simp] theorem State.slot_refreshIdle (s : State) (i : SlotId) : s.refreshIdle.slot i = s.slot i := rfl
@[simp] theorem State.queue_refreshIdle (s : State) (g : Seg) : s.refreshIdle.queue g = s.queue g := rfl
@[simp] theorem State.ring_refreshIdle (s : State) (r : Ring) : s.refreshIdle.ring r = s.ring r := rfl
@[simp] theorem State.cq_refreshIdle (s : State) (c : Cq) : s.refreshIdle.cq c = s.cq c := rfl

/-- Two states that differ in no segment record and in no other field are equal. -/
theorem State.eq_of_segs {s t : State} (h : t = { s with segs := t.segs }) (hg : ∀ g, s.seg g = t.seg g) : s = t := by
  have : s.segs = t.segs := by
    apply Vector.ext
    intro i hi
    simpa [State.seg, Vector.get_eq_getElem] using hg ⟨i, hi⟩
  rw [h, ← this]

theorem State.refreshIdle_of_follow {s : State} (h : IdleTimersFollow s) : s.refreshIdle = s := by
  refine State.eq_of_segs rfl fun g => ?_
  rw [State.seg_refreshIdle, ← (idleTimersFollow_iff s).1 h g]

theorem State.refreshIdle_follows (s : State) : IdleTimersFollow s.refreshIdle := by
  rw [idleTimersFollow_iff]
  intro g
  simp [Segment.idleTimerFor, Segment.idleRuns]

/-- A state whose timers follow is what a step leaves of any state that differs from it in the timers alone. -/
theorem State.refreshIdle_eq {s t : State} (ht : IdleTimersFollow t) (h : t = { s with segs := t.segs })
    (hg : ∀ g, t.seg g = { s.seg g with idleTimer := (t.seg g).idleTimer }) : s.refreshIdle = t := by
  refine State.eq_of_segs ?_ fun g => ?_
  · rw [h]; rfl
  · have hq : s.queue g = t.queue g := by rw [h]; rfl
    have hf := (idleTimersFollow_iff t).1 ht g
    have hx : (s.seg g).idleTimerFor (s.queue g) = (t.seg g).idleTimerFor (t.queue g) := by
      rw [hg g, hq]; rfl
    rw [State.seg_refreshIdle, hx, ← hf]
    exact (hg g).symm

/-- The timers of a state follow again once one segment record is replaced and its timer set as R89 has it. -/
theorem State.refreshIdle_setSeg {s : State} (h : IdleTimersFollow s) (g : Seg) (y : Segment) :
    (s.setSeg g y).refreshIdle = s.setSeg g { y with idleTimer := y.idleTimerFor (s.queue g) } := by
  refine State.eq_of_segs rfl fun k => ?_
  by_cases hk : g = k
  · subst hk; simp
  · simp [State.seg_setSeg, hk, ← (idleTimersFollow_iff s).1 h k]

theorem State.refreshIdle_setSlot (s : State) (i : SlotId) (x : Slot) : (s.setSlot i x).refreshIdle = s.refreshIdle.setSlot i x := rfl
theorem State.refreshIdle_setCq (s : State) (c : Cq) (x : CompletionRing) : (s.setCq c x).refreshIdle = s.refreshIdle.setCq c x := rfl
theorem State.refreshIdle_setRing (s : State) (r : Ring) (x : RequestRing) :
    (s.setRing r x).refreshIdle = s.refreshIdle.setRing r x := rfl

end Sys2Proof.Machine
end

