-- ==== Sys2Proof/Laws/Operations.lean ====
section
/-! SUPPORT. What each shared operation leaves, said once: answers, postings, legs, queues, frames, faults and stops. -/

namespace Sys2Proof.Machine

/-! ### Postings and answers -/

theorem State.postNotice_eq (s : State) (c : Cq) (n : Notice) : s.postNotice c n =
    if (s.cq c).state ≠ .active then s
    else if (s.cq c).noticesWaiting < 8 then s.setCq c { s.cq c with
      backlog := (s.cq c).backlog ++ [.notice n], noticesWaiting := (s.cq c).noticesWaiting + 1 }
    else s.setCq c { s.cq c with noticesLost := true } := by
  simp only [State.postNotice, State.modCq_eq, Config.noticeAllowance]
  split <;> simp_all

/-- A FETCHING or LIVE slot that goes DONE stands in its backlog, or is FREE where its completion ring is not ACTIVE. -/
theorem State.completeSlot_eq {s : State} {i : SlotId} {c : Cq} (r : Result)
    (h : (s.slot i).state = .fetching ∨ (s.slot i).state = .live) (hc : (s.slot i).cq = some c) :
    s.completeSlot i r = s.answered i c (doneWith (s.slot i) r) := by
  rw [State.completeSlot, if_pos h]
  simp only [State.postSlot, State.modSlot_eq, State.slot_setSlot_self, hc, State.cq_setSlot, State.modCq_eq, State.freeSlot,
    State.answered, doneWith, State.setSlot_setSlot]

/-- A slot without an exchange is answered with the status. -/
theorem State.answer_eq {s : State} {i : SlotId} {c : Cq} (status : Status) (hx : (s.slot i).exchange = none)
    (h : (s.slot i).state = .fetching ∨ (s.slot i).state = .live) (hc : (s.slot i).cq = some c) :
    s.answer i status = s.answered i c (doneWith (s.slot i) (plainResult status 0 zeroArea)) := by
  rw [State.answer, State.answerResult, hx, State.completeSlot_eq _ h hc]
  rfl

theorem State.answerWith_eq {s : State} {i : SlotId} {c : Cq} (area : List Byte) (hx : (s.slot i).exchange = none)
    (h : (s.slot i).state = .fetching ∨ (s.slot i).state = .live) (hc : (s.slot i).cq = some c) :
    s.answerWith i area = s.answered i c (doneWith (s.slot i) (plainResult (.outcome .ok) 8 area)) := by
  rw [State.answerWith, State.answerResult, hx, State.completeSlot_eq _ h hc]
  rfl

/-- A refused record keeps its arguments absent. -/
theorem State.refuse_eq {s : State} {i : SlotId} {c : Cq} (status : Status) (hx : (s.slot i).exchange = none)
    (h : (s.slot i).state = .fetching ∨ (s.slot i).state = .live) (hc : (s.slot i).cq = some c) :
    s.refuse i status =
      s.answered i c (doneWith { s.slot i with args := none } (plainResult status 0 zeroArea)) := by
  rw [State.refuse, State.modSlot_eq, State.answer_eq (c := c) status (by simpa using hx) (by simpa using h) (by simpa using hc)]
  simp [State.answered]

/-! ### What an answer leaves -/

theorem State.answered_pos {s : State} {c : Cq} (h : (s.cq c).state = .active) (i : SlotId) (x : Slot) :
    s.answered i c x = (s.setSlot i x).setCq c { s.cq c with backlog := (s.cq c).backlog ++ [.slot i] } := if_pos h

theorem State.answered_neg {s : State} {c : Cq} (h : ¬ (s.cq c).state = .active) (i : SlotId) (x : Slot) :
    s.answered i c x = s.setSlot i Slot.empty := if_neg h

theorem State.answered_eq (s : State) (i : SlotId) (c : Cq) (x : Slot) :
    s.answered i c x = { s with slots := (s.answered i c x).slots, cqs := (s.answered i c x).cqs } := by
  unfold State.answered
  split <;> rfl

@[simp] theorem State.seg_answered (s : State) (i : SlotId) (c : Cq) (x : Slot) (g : Seg) : (s.answered i c x).seg g = s.seg g := by
  rw [State.answered_eq]; rfl

@[simp] theorem State.queue_answered (s : State) (i : SlotId) (c : Cq) (x : Slot) (g : Seg) :
    (s.answered i c x).queue g = s.queue g := by
  rw [State.answered_eq]; rfl

@[simp] theorem State.ring_answered (s : State) (i : SlotId) (c : Cq) (x : Slot) (r : Ring) :
    (s.answered i c x).ring r = s.ring r := by
  rw [State.answered_eq]; rfl

theorem State.slot_answered (s : State) (i : SlotId) (c : Cq) (x : Slot) (j : SlotId) : (s.answered i c x).slot j =
    if i = j then (if (s.cq c).state = .active then x else Slot.empty) else s.slot j := by
  unfold State.answered
  split <;> simp [State.slot_setSlot]

theorem State.refreshIdle_answered (s : State) (i : SlotId) (c : Cq) (x : Slot) :
    (s.answered i c x).refreshIdle = s.refreshIdle.answered i c x := by
  by_cases h : (s.cq c).state = .active
  · rw [State.answered_pos h, State.answered_pos (s := s.refreshIdle) h]; rfl
  · rw [State.answered_neg h, State.answered_neg (s := s.refreshIdle) h]; rfl

theorem State.setSeg_answered (s : State) (i : SlotId) (c : Cq) (x : Slot) (g : Seg) (y : Segment) :
    (s.setSeg g y).answered i c x = (s.answered i c x).setSeg g y := by
  by_cases h : (s.cq c).state = .active
  · rw [State.answered_pos h, State.answered_pos (s := s.setSeg g y) h]; rfl
  · rw [State.answered_neg h, State.answered_neg (s := s.setSeg g y) h]; rfl

theorem State.setQueue_answered (s : State) (i : SlotId) (c : Cq) (x : Slot) (g : Seg) (y : List SlotId) :
    (s.setQueue g y).answered i c x = (s.answered i c x).setQueue g y := by
  by_cases h : (s.cq c).state = .active
  · rw [State.answered_pos h, State.answered_pos (s := s.setQueue g y) h]; rfl
  · rw [State.answered_neg h, State.answered_neg (s := s.setQueue g y) h]; rfl

theorem State.setRing_answered (s : State) (i : SlotId) (c : Cq) (x : Slot) (r : Ring) (y : RequestRing) :
    (s.setRing r y).answered i c x = (s.answered i c x).setRing r y := by
  by_cases h : (s.cq c).state = .active
  · rw [State.answered_pos h, State.answered_pos (s := s.setRing r y) h]; rfl
  · rw [State.answered_neg h, State.answered_neg (s := s.setRing r y) h]; rfl

theorem State.setSlot_answered (s : State) (i : SlotId) (c : Cq) (x y : Slot) :
    (s.setSlot i y).answered i c x = s.answered i c x := by
  unfold State.answered
  simp only [State.cq_setSlot, State.setSlot_setSlot]

/-- A change of the timers is kept out of an answer. -/
theorem IdleTimersFollow.answered {s : State} (h : IdleTimersFollow s) (i : SlotId) (c : Cq) (x : Slot) :
    IdleTimersFollow (s.answered i c x) := by
  intro g
  simpa using h g

theorem IdleTimersFollow.setSlot {s : State} (h : IdleTimersFollow s) (i : SlotId) (x : Slot) : IdleTimersFollow (s.setSlot i x) := h
theorem IdleTimersFollow.setCq {s : State} (h : IdleTimersFollow s) (c : Cq) (x : CompletionRing) : IdleTimersFollow (s.setCq c x) := h
theorem IdleTimersFollow.setRing {s : State} (h : IdleTimersFollow s) (r : Ring) (x : RequestRing) : IdleTimersFollow (s.setRing r x) := h

/-! ### Dispatch queues -/

/-- Inserting in a list: the entries not behind the new one stay before it, in their order. -/
theorem insertOrdered_perm {α : Type} (before : α → α → Bool) (x : α) (l : List α) : (insertOrdered before x l).Perm (x :: l) := by
  induction l with
  | nil => exact .refl _
  | cons y rest ih =>
    simp only [insertOrdered]
    split
    · exact .refl _
    · exact (ih.cons y).trans (.swap x y rest)

theorem mem_insertOrdered {α : Type} (before : α → α → Bool) (x y : α) (l : List α) :
    y ∈ insertOrdered before x l ↔ y = x ∨ y ∈ l := by
  rw [(insertOrdered_perm before x l).mem_iff, List.mem_cons]

theorem sortOrdered_perm {α : Type} (before : α → α → Bool) (l : List α) : (sortOrdered before l).Perm l := by
  induction l with
  | nil => exact .refl _
  | cons y rest ih => exact (insertOrdered_perm before y _).trans (ih.cons y)

theorem mem_slotsInOrder (s : State) (p : Slot → Bool) (i : SlotId) : i ∈ s.slotsInOrder p ↔ p (s.slot i) = true := by
  rw [State.slotsInOrder, (sortOrdered_perm _ _).mem_iff]
  simp

theorem State.leaveQueue_eq (s : State) (i : SlotId) (g : Seg) :
    s.leaveQueue i g = s.setQueue g ((s.queue g).filter fun j => decide (j ≠ i)) := rfl

/-- A demand for a wake changes one segment's wake pulse and line at most. -/
theorem State.wakeOnDemand_eq (s : State) (g : Seg) : s.wakeOnDemand g =
    if (s.seg g).lineState = .dormant ∧ (s.seg g).config.wakeOnDemand = true ∧ (s.seg g).wakePulse = none ∧ s.queue g ≠ []
    then s.setSeg g { s.seg g with wakePulse := some .onDemand, line := .wakePulse } else s := rfl

/-- Recording an operation's progress writes one field of the pending operation's LIVE slot, and no field of any other (R13). -/
theorem State.recordProgress_pending {s : State} {g : Seg} {op : SegOp} {i : SlotId} (p : Progress)
    (h : (s.seg g).pendingOp = some { op := op, slot := i }) (hl : (s.slot i).state = .live) :
    s.recordProgress g op p = s.setSlot i { s.slot i with progress := some p } := by
  simp [State.recordProgress, h, hl, State.setProgress]

theorem State.recordProgress_other {s : State} {g : Seg} {op : SegOp} (p : Progress)
    (h : ∀ i, (s.seg g).pendingOp = some { op := op, slot := i } → (s.slot i).state ≠ .live) : s.recordProgress g op p = s := by
  unfold State.recordProgress
  split
  · rename_i q hq
    refine if_neg fun hc => h q.slot ?_ hc.2
    rw [hq, ← hc.1]
  · rfl

/-! ### Frames -/

theorem Segment.countFrame_enterGuard (x : Segment) (o : LegOutcome) : (x.countFrame o).enterGuard = afterFrame x o := by
  unfold Segment.countFrame Segment.enterGuard afterFrame
  split <;> rfl

/-! ### Interrupt messages (R165, R168) -/

/-- What it takes for completion ring c's message to wait: the ring has asked, or a number now unmasked holds one of the ring. -/
theorem State.ringMessage_eq_none (s : State) (p : PcieConfig) (c : Cq) : s.ringMessage p c = none ↔
    s.msgPending.get c = false ∧ ∀ n, s.msgHeld.get n = some c → p.mask.getLsbD n.val = true := by
  unfold State.ringMessage
  split
  · rename_i n h
    have := List.find?_some h
    simp only [State.heldReady, numberMasked, Bool.and_eq_true, decide_eq_true_eq, Bool.not_eq_true'] at this
    simp only [reduceCtorEq, false_iff, not_and, not_forall]
    exact fun _ => ⟨n, this.1, ne_true_of_eq_false this.2⟩
  · rename_i h
    have h' : ∀ n, s.msgHeld.get n = some c → p.mask.getLsbD n.val = true := by
      simpa [State.heldReady, numberMasked] using h
    cases hc : s.msgPending.get c <;> simp_all

/-- The number of completion ring c's message: the lowest unmasked one that holds a message of the ring, else the ring's own. -/
theorem State.ringMessage_eq_some {s : State} {p : PcieConfig} {c n : Cq} (h : s.ringMessage p c = some n) :
    s.heldReady p c n = true ∧ (∀ m, m < n → s.heldReady p c m = false) ∨
      (∀ m, s.heldReady p c m = false) ∧ s.msgPending.get c = true ∧ n = messageNumber p c := by
  unfold State.ringMessage at h
  split at h
  · rename_i k hk
    obtain rfl := Option.some.inj h
    refine .inl ⟨List.find?_some hk, ?_⟩
    obtain ⟨_, as, bs, hl, ha⟩ := List.find?_eq_some_iff_append.1 hk
    intro m hm
    have hmem : m ∈ List.finRange 4 := List.mem_finRange m
    rw [hl] at hmem
    rcases List.mem_append.1 hmem with h1 | h1
    · simpa using ha m h1
    · have hp : (as ++ k :: bs).Pairwise (· < ·) := hl ▸ List.pairwise_lt_finRange 4
      rcases List.mem_cons.1 h1 with rfl | h2
      · exact absurd hm (lt_irrefl _)
      · exact absurd hm (lt_asymm ((List.pairwise_cons.1 (List.pairwise_append.1 hp).2.1).1 m h2))
  · rename_i hk
    refine .inr ⟨by simpa using hk, ?_⟩
    split at h
    · exact ⟨‹_›, (Option.some.inj h).symm⟩
    · cases h

/-- No message waits: no ring has asked, and every number that holds one is masked. -/
theorem State.messageWaits_eq_false (s : State) (p : PcieConfig) : s.messageWaits p = false ↔
    ∀ c, s.msgPending.get c = false ∧ (s.msgHeld.get c ≠ none → p.mask.getLsbD c.val = true) := by
  simp only [State.messageWaits, State.nextMessage, Option.isSome_eq_false_iff, Option.isNone_iff_eq_none, List.findSome?_eq_none_iff,
    List.mem_finRange, forall_const, State.ringMessage_eq_none]
  refine ⟨fun h c => ⟨(h c).1, fun hc => ?_⟩, fun h c => ⟨(h c).1, fun n hn => (h n).2 (by simp [hn])⟩⟩
  obtain ⟨d, hd⟩ := Option.ne_none_iff_exists'.1 hc
  exact (h d).2 c hd

end Sys2Proof.Machine
end

