-- ==== Sys2Proof/Laws/Arrival.lean ====
section
/-! SUPPORT. The arrival of a record (R8, R127): what FETCH_COMPLETE hands to the checks of R9, and what a refusal or an answer
in the acceptance step leaves. -/

namespace Sys2Proof.Machine

theorem RequestRing.consume_eq {q : RequestRing} {cfg : RingConfig} (hc : q.config = some cfg) (h : q.consumer < cfg.size) :
    q.consume = { q with consumer := (q.consumer + 1) % cfg.size } := by
  simp only [RequestRing.consume, RequestRing.size, hc]
  congr 1
  split
  · rw [Nat.mod_eq_of_lt ‹_›]
  · rw [show q.consumer + 1 = cfg.size by omega, Nat.mod_self]

theorem Arriving.arrivalCq {s : State} {f : Fetch} {cfg : RingConfig} (h : Arriving s f cfg) :
    s.arrivalCq f.ring = answerRing f cfg := by
  simp [State.arrivalCq, answerRing, State.ringCq, h.config]

/-! ### The next grant (R125, R126) -/

/-- A grant changes one FREE slot, the rotation, the fetch in flight and the read asked for. -/
theorem State.nextGrant_eq (s : State) : s.nextGrant = { s with
    slots := s.nextGrant.slots, rotPtr := s.nextGrant.rotPtr, grantCount := s.nextGrant.grantCount
    fetch := s.nextGrant.fetch, read := s.nextGrant.read } := by
  unfold State.nextGrant
  split <;> rfl

theorem State.grantIf_eq (s : State) (granted : Bool) : s.grantIf granted = { s with
    slots := (s.grantIf granted).slots, rotPtr := (s.grantIf granted).rotPtr, grantCount := (s.grantIf granted).grantCount
    fetch := (s.grantIf granted).fetch, read := (s.grantIf granted).read } := by
  cases granted
  · rfl
  · exact s.nextGrant_eq

/-- A slot keeps its record through a grant, or was FREE and is FETCHING with its ring and no other field. -/
theorem State.slot_nextGrant (s : State) (j : SlotId) : s.nextGrant.slot j = s.slot j ∨
    (s.slot j).state = .free ∧ ∃ r, s.nextGrant.slot j = { Slot.empty with state := .fetching, ring := some r } := by
  unfold State.nextGrant
  split
  · rename_i g i _ _ hi
    have hfree : (s.slot i).state = .free := by simpa using List.find?_some hi
    by_cases h : i = j
    · subst h
      refine .inr ⟨hfree, g.ring, ?_⟩
      exact State.slot_setSlot_self _ _ _
    · exact .inl (State.slot_setSlot_of_ne _ _ _ _ h)
  · exact .inl rfl

theorem State.slot_grantIf (s : State) (granted : Bool) (j : SlotId) : (s.grantIf granted).slot j = s.slot j ∨
    (s.slot j).state = .free ∧ ∃ r, (s.grantIf granted).slot j = { Slot.empty with state := .fetching, ring := some r } := by
  cases granted
  · exact .inl rfl
  · exact s.slot_nextGrant j

theorem State.slot_grantIf_of_ne_free (s : State) (granted : Bool) {j : SlotId} (h : (s.slot j).state ≠ .free) :
    (s.grantIf granted).slot j = s.slot j :=
  (s.slot_grantIf granted j).resolve_right fun k => h k.1

/-- The arrival position plays no part in a grant. -/
theorem State.grantIf_lastArrival (s : State) (granted : Bool) (n : Nat) :
    { s with lastArrival := n }.grantIf granted = { s.grantIf granted with lastArrival := n } := by
  cases granted
  · rfl
  · suffices h : ∀ u : State, u = { s with lastArrival := n } → u.nextGrant = { s.nextGrant with lastArrival := n } from h _ rfl
    intro u hu
    have hc : u.chooseRing = s.chooseRing := by rw [hu]; rfl
    have hl : u.lowestFree = s.lowestFree := by rw [hu]; rfl
    have hq : u.fetch = s.fetch := by rw [hu]
    rcases hf : s.fetch with _ | f <;> rcases hr : s.chooseRing with _ | g <;> rcases hi : s.lowestFree with _ | i <;>
      simp only [State.nextGrant, hc, hl, hq, hf, hr, hi] <;> rw [hu] <;> first | rfl | rw [hf]

/-! ### The arrival -/

/-- The state in which the checks of R9 are made. -/
def State.arrived (s : State) (f : Fetch) (cfg : RingConfig) (record : Record) (granted : Bool) : State :=
  (s.consumed f cfg.size granted).setSlot f.slot (arrivedSlot s f cfg record)

section consumed
variable (s : State) (f : Fetch) (n : Nat) (granted : Bool)

theorem State.seg_consumed (g : Seg) : (s.consumed f n granted).seg g = s.seg g := by
  rw [State.consumed, State.grantIf_eq]; rfl
theorem State.queue_consumed (g : Seg) : (s.consumed f n granted).queue g = s.queue g := by
  rw [State.consumed, State.grantIf_eq]; rfl
theorem State.cq_consumed (c : Cq) : (s.consumed f n granted).cq c = s.cq c := by
  rw [State.consumed, State.grantIf_eq]; rfl
theorem State.ring_consumed (r : Ring) : (s.consumed f n granted).ring r =
    if f.ring = r then { s.ring f.ring with consumer := ((s.ring f.ring).consumer + 1) % n } else s.ring r := by
  rw [State.consumed, State.grantIf_eq]
  exact State.ring_setRing _ _ _ _
theorem State.map_consumed : (s.consumed f n granted).map = s.map := by
  rw [State.consumed, State.grantIf_eq]; rfl
theorem State.lastArrival_consumed : (s.consumed f n granted).lastArrival = s.lastArrival + 1 := by
  rw [State.consumed, State.grantIf_eq]; rfl

/-- A slot that is not FREE keeps its record when another record is consumed. -/
theorem State.slot_consumed {j : SlotId} (h : (s.slot j).state ≠ .free) : (s.consumed f n granted).slot j = s.slot j :=
  State.slot_grantIf_of_ne_free _ _ h

variable {s}

theorem IdleTimersFollow.consumed (h : IdleTimersFollow s) : IdleTimersFollow (s.consumed f n granted) := by
  intro g
  rw [State.seg_consumed, State.queue_consumed]
  exact h g

end consumed

theorem exec_fetchComplete {s : State} {f : Fetch} {cfg : RingConfig} (h : Arriving s f cfg) (record : Record)
    (granted : Bool) :
    exec (.fetchComplete ⟨record, granted⟩) s = settled ((s.arrived f cfg record granted).checkRecord f.slot f.ring record) := by
  obtain ⟨a, timer, hr⟩ := h.reading
  have hd : s.dropsRecord f = false := by
    simp [State.dropsRecord, h.kept, h.waiting]
  simp only [exec, execFetchComplete, hr, h.inFlight, hd, Bool.false_eq_true, if_false, h.reserved, if_true]
  congr 1
  have hring : (State.ring { s with fetch := none, read := .idle } f.ring) = s.ring f.ring := rfl
  rw [State.modRing_eq, hring, RequestRing.consume_eq h.config h.consumer, State.arrived, State.consumed]
  have hu := State.grantIf_lastArrival ({ s with fetch := none, read := .idle }.setRing f.ring
    { s.ring f.ring with consumer := ((s.ring f.ring).consumer + 1) % cfg.size }) granted (s.lastArrival + 1)
  have he : { s with fetch := none, read := .idle, lastArrival := s.lastArrival + 1 }.setRing f.ring
      { s.ring f.ring with consumer := ((s.ring f.ring).consumer + 1) % cfg.size } =
    { { s with fetch := none, read := .idle }.setRing f.ring
      { s.ring f.ring with consumer := ((s.ring f.ring).consumer + 1) % cfg.size } with lastArrival := s.lastArrival + 1 } := rfl
  rw [he, hu]
  generalize hv : ({ s with fetch := none, read := .idle }.setRing f.ring
      { s.ring f.ring with consumer := ((s.ring f.ring).consumer + 1) % cfg.size }) = v
  have hslot : (v.grantIf granted).slot f.slot = { Slot.empty with state := .fetching, ring := some f.ring } := by
    have hres : v.slot f.slot = { Slot.empty with state := .fetching, ring := some f.ring } := by rw [← hv]; exact h.reserved
    rw [State.slot_grantIf_of_ne_free _ _ (by rw [hres]; simp), hres]
  have hlast : (v.grantIf granted).lastArrival = s.lastArrival := by rw [State.grantIf_eq, ← hv]; rfl
  have hcq : (v.grantIf granted).arrivalCq f.ring = answerRing f cfg := by
    rw [← h.arrivalCq]
    have hr : (v.grantIf granted).ring f.ring =
        { s.ring f.ring with consumer := ((s.ring f.ring).consumer + 1) % cfg.size } := by
      rw [State.grantIf_eq, ← hv]
      exact State.ring_setRing_self _ _ _
    simp only [State.arrivalCq, State.ringCq, hr]
  rw [State.accept, hslot]
  simp only [State.arrive, State.modSlot_eq, hslot, hlast, hcq]
  rfl

/-- A record refused in its acceptance step. -/
theorem Arriving.refuse {s : State} {f : Fetch} {cfg : RingConfig} (hi : IdleTimersFollow s) (record : Record)
    (granted : Bool) (status : Status) (args : Option OpArgs) :
    settled (((s.consumed f cfg.size granted).setSlot f.slot { arrivedSlot s f cfg record with args := args }).refuse f.slot status) =
      .next ((s.consumed f cfg.size granted).answered f.slot (answerRing f cfg)
        (doneWith (arrivedSlot s f cfg record) (plainResult status 0 zeroArea))) := by
  rw [State.refuse_eq (c := answerRing f cfg) status (by simp [arrivedSlot, Slot.empty]) (by simp [arrivedSlot])
    (by simp [arrivedSlot]), settled, State.refreshIdle_answered, State.slot_setSlot_self]
  rw [State.refreshIdle_setSlot, State.setSlot_answered, State.refreshIdle_of_follow (hi.consumed f cfg.size granted)]
  rfl

end Sys2Proof.Machine
end

