-- ==== Sys2Proof/Laws/Frames.lean ====
section
/-! SUPPORT. Frames: the shared operations over slots, queues, segments and backlogs leave the rest of the part as it was, each
segment's configuration included. -/

namespace Sys2Proof.Machine

theorem OnlyWork.refl (s : State) : OnlyWork s s := ⟨rfl, fun _ => ⟨rfl, rfl⟩, fun _ => rfl⟩

theorem OnlyWork.trans {s t u : State} (h : OnlyWork s t) (k : OnlyWork t u) : OnlyWork s u := by
  refine ⟨?_, fun g => ⟨(k.2.1 g).1.trans (h.2.1 g).1, (k.2.1 g).2.trans (h.2.1 g).2⟩, fun c => ?_⟩
  · rw [k.1, h.1]
  · rw [k.2.2 c, h.2.2 c]

theorem OnlyWork.setSlot (s : State) (i : SlotId) (x : Slot) : OnlyWork s (s.setSlot i x) :=
  ⟨rfl, fun _ => ⟨rfl, rfl⟩, fun _ => rfl⟩

theorem OnlyWork.setQueue (s : State) (g : Seg) (x : List SlotId) : OnlyWork s (s.setQueue g x) :=
  ⟨rfl, fun _ => ⟨rfl, rfl⟩, fun _ => rfl⟩

/-- A segment record may be replaced by one with the same configuration. -/
theorem OnlyWork.setSeg (s : State) (g : Seg) (x : Segment) (h : x.configured = (s.seg g).configured ∧ x.config = (s.seg g).config) :
    OnlyWork s (s.setSeg g x) := by
  refine ⟨rfl, fun k => ?_, fun _ => rfl⟩
  rw [State.seg_setSeg]
  split
  · rename_i hk
    exact hk ▸ h
  · exact ⟨rfl, rfl⟩

theorem OnlyWork.modSeg (s : State) (g : Seg) (f : Segment → Segment)
    (h : ∀ x, (f x).configured = x.configured ∧ (f x).config = x.config) : OnlyWork s (s.modSeg g f) :=
  .setSeg _ _ _ (h _)

/-- A completion ring may be replaced by one with another backlog and other notice fields. -/
theorem OnlyWork.setCq (s : State) (c : Cq) (x : CompletionRing) (h : x = { s.cq c with
    backlog := x.backlog, noticesWaiting := x.noticesWaiting, noticesLost := x.noticesLost }) : OnlyWork s (s.setCq c x) := by
  refine ⟨rfl, fun _ => ⟨rfl, rfl⟩, fun d => ?_⟩
  rw [State.cq_setCq]
  split
  · rename_i hd
    exact hd ▸ h
  · rfl

theorem OnlyWork.foldl {α : Type} {f : State → α → State} (h : ∀ s a, OnlyWork s (f s a)) (l : List α) (s : State) :
    OnlyWork s (l.foldl f s) := by
  induction l generalizing s with
  | nil => exact .refl s
  | cons a l ih => exact (h s a).trans (ih _)

theorem OnlyWork.ite {s t u : State} {p : Prop} [Decidable p] (h : OnlyWork s t) (k : OnlyWork s u) : OnlyWork s (if p then t else u) := by
  split
  · exact h
  · exact k

/-- What the work leaves: the link, the waiting commands, the rings and the host port. -/
theorem OnlyWork.link {s t : State} (h : OnlyWork s t) : t.link = s.link := by rw [h.1]
theorem OnlyWork.pending {s t : State} (h : OnlyWork s t) : t.pending = s.pending := by rw [h.1]
theorem OnlyWork.rings {s t : State} (h : OnlyWork s t) : t.rings = s.rings := by rw [h.1]
theorem OnlyWork.fetch {s t : State} (h : OnlyWork s t) : t.fetch = s.fetch := by rw [h.1]
theorem OnlyWork.map {s t : State} (h : OnlyWork s t) : t.map = s.map := by rw [h.1]

/-! ### Postings and answers -/

theorem OnlyWork.postNotice (s : State) (c : Cq) (n : Notice) : OnlyWork s (s.postNotice c n) := by
  rw [State.postNotice_eq]
  exact .ite (.refl s) (.ite (.setCq _ _ _ (by rfl)) (.setCq _ _ _ (by rfl)))

theorem OnlyWork.postSlot (s : State) (i : SlotId) : OnlyWork s (s.postSlot i) := by
  unfold State.postSlot
  split
  · exact .setSlot _ _ _
  · exact .ite (.setCq _ _ _ (by rfl)) (.setSlot _ _ _)

theorem OnlyWork.completeSlot (s : State) (i : SlotId) (r : Result) : OnlyWork s (s.completeSlot i r) :=
  .ite ((OnlyWork.setSlot _ _ _).trans (.postSlot _ _)) (.refl s)

theorem OnlyWork.answer (s : State) (i : SlotId) (status : Status) : OnlyWork s (s.answer i status) :=
  .ite (.completeSlot _ _ _) (.refl s)

theorem OnlyWork.answerWith (s : State) (i : SlotId) (area : List Byte) : OnlyWork s (s.answerWith i area) :=
  .ite (.completeSlot _ _ _) (.refl s)

theorem OnlyWork.refuse (s : State) (i : SlotId) (status : Status) : OnlyWork s (s.refuse i status) :=
  (OnlyWork.setSlot _ _ _).trans (.answer _ _ _)

theorem OnlyWork.answered (s : State) (i : SlotId) (c : Cq) (x : Slot) : OnlyWork s (s.answered i c x) :=
  .ite ((OnlyWork.setSlot _ _ _).trans (.setCq _ _ _ (by rfl))) (.setSlot _ _ _)

theorem OnlyWork.checkDone (s : State) (i : SlotId) : OnlyWork s (s.checkDone i) := by
  unfold State.checkDone
  split
  · exact .refl s
  · exact .ite (.completeSlot _ _ _) (.refl s)

/-! ### Queues and legs -/

theorem OnlyWork.startWakePulse (s : State) (g : Seg) (o : WakeOrigin) : OnlyWork s (s.startWakePulse g o) := .setSeg _ _ _ (by exact ⟨rfl, rfl⟩)

theorem OnlyWork.wakeOnDemand (s : State) (g : Seg) : OnlyWork s (s.wakeOnDemand g) := .ite (.startWakePulse _ _ _) (.refl s)

theorem OnlyWork.joinQueue (s : State) (i : SlotId) (g : Seg) : OnlyWork s (s.joinQueue i g) :=
  (OnlyWork.setQueue _ _ _).trans (.wakeOnDemand _ _)

theorem OnlyWork.leaveQueue (s : State) (i : SlotId) (g : Seg) : OnlyWork s (s.leaveQueue i g) := .setQueue _ _ _

theorem OnlyWork.finishLeg (s : State) (i : SlotId) (g : Seg) (o : LegOutcome) : OnlyWork s (s.finishLeg i g o) :=
  (OnlyWork.setSlot _ _ _).trans (.checkDone _ _)

theorem OnlyWork.finishWaiting (s : State) (i : SlotId) (g : Seg) (o : LegOutcome) : OnlyWork s (s.finishWaiting i g o) :=
  (OnlyWork.leaveQueue _ _ _).trans (.finishLeg _ _ _ _)

theorem OnlyWork.finishWaitingLegs (s : State) (i : SlotId) (o : LegOutcome) : OnlyWork s (s.finishWaitingLegs i o) :=
  (OnlyWork.foldl (fun s g => .finishWaiting s i g o) _ _).trans (.checkDone _ _)

theorem OnlyWork.failover (s : State) (i : SlotId) (g b : Seg) : OnlyWork s (s.failover i g b) :=
  (OnlyWork.setSlot _ _ _).trans (.joinQueue _ _ _)

theorem OnlyWork.retry (s : State) (i : SlotId) (g : Seg) : OnlyWork s (s.retry i g) :=
  ((OnlyWork.setSlot _ _ _).trans (.setSeg _ _ _ (by exact ⟨rfl, rfl⟩))).trans (.joinQueue _ _ _)

theorem OnlyWork.finishOk (s : State) (i : SlotId) (g : Seg) (bytes : List Byte) : OnlyWork s (s.finishOk i g bytes) :=
  (OnlyWork.setSlot _ _ _).trans (.finishLeg _ _ _ _)

theorem OnlyWork.applyDecision (s : State) (i : SlotId) (g : Seg) (bytes : List Byte) (d : LegDecision) :
    OnlyWork s (s.applyDecision i g bytes d) := by
  cases d with
  | finishLate => exact (OnlyWork.setSlot _ _ _).trans (.finishOk _ _ _ _)
  | finishOk => exact .finishOk _ _ _ _
  | finish o => exact .finishLeg _ _ _ _
  | retry => exact .retry _ _ _
  | failover b => exact .failover _ _ _ _

theorem OnlyWork.legFrameEnded (s : State) (i : SlotId) (g : Seg) (o : LegOutcome) (bytes : List Byte) :
    OnlyWork s (s.legFrameEnded i g o bytes) := by
  unfold State.legFrameEnded
  split
  · exact .ite ((OnlyWork.setSlot _ _ _).trans (.applyDecision _ _ _ _ _)) (.refl s)
  · exact .refl s

theorem OnlyWork.displaceLeg (s : State) (g : Seg) (cause : LegOutcome) (i : SlotId) : OnlyWork s (s.displaceLeg g cause i) := by
  unfold State.displaceLeg
  split
  · split
    · exact (OnlyWork.leaveQueue _ _ _).trans (.failover _ _ _ _)
    · exact .finishWaiting _ _ _ _
  · exact .leaveQueue _ _ _

theorem OnlyWork.displaceQueue (s : State) (g : Seg) (cause : LegOutcome) : OnlyWork s (s.displaceQueue g cause) :=
  .foldl (fun s i => .displaceLeg s g cause i) _ _

/-! ### Holds -/

theorem OnlyWork.clearHold (s : State) (g : Seg) : OnlyWork s (s.clearHold g) := .setSeg _ _ _ (by exact ⟨rfl, rfl⟩)

theorem OnlyWork.clearHoldsOf (s : State) (r : Ring) (gs : List Seg) : OnlyWork s (s.clearHoldsOf r gs) :=
  .foldl (fun s g => .ite (.clearHold s g) (.refl s)) _ _

theorem OnlyWork.endHold (s : State) (status : Status) (i : SlotId) : OnlyWork s (s.endHold status i) := by
  unfold State.endHold
  refine .ite ?_ (.refl s)
  split
  · exact (OnlyWork.clearHoldsOf _ _ _).trans (.answer _ _ _)
  · exact .answer _ _ _

theorem OnlyWork.postHoldLost (s : State) (g : Seg) (why : HoldLoss) (r : Ring) : OnlyWork s (s.postHoldLost g why r) := by
  unfold State.postHoldLost
  split
  · exact .postNotice _ _ _
  · exact .refl s

theorem OnlyWork.loseHold (s : State) (g : Seg) (why : HoldLoss) : OnlyWork s (s.loseHold g why) := by
  unfold State.loseHold
  refine OnlyWork.trans ?_ (.foldl (fun s i => .endHold s _ i) _ _)
  split
  · exact .ite (.clearHold _ _) ((OnlyWork.clearHold _ _).trans (.postHoldLost _ _ _ _))
  · exact .clearHold _ _
  · exact .refl s

/-! ### Frames, faults and stops -/

theorem OnlyWork.endPendingOp (s : State) (g : Seg) (status : Status) : OnlyWork s (s.endPendingOp g status) := by
  unfold State.endPendingOp
  split
  · exact .refl s
  · exact (OnlyWork.setSeg _ _ _ (by exact ⟨rfl, rfl⟩)).trans (.ite (.answer _ _ _) (.refl _))

theorem OnlyWork.endOp (s : State) (g : Seg) (op : SegOp) (status : Status) : OnlyWork s (s.endOp g op status) := by
  unfold State.endOp
  split
  · exact .ite (.endPendingOp _ _ _) (.refl s)
  · exact .refl s

theorem Segment.countFrame_config (x : Segment) (o : LegOutcome) :
    (x.countFrame o).configured = x.configured ∧ (x.countFrame o).config = x.config := by
  unfold Segment.countFrame
  split <;> exact ⟨rfl, rfl⟩

theorem OnlyWork.enterDormant (s : State) (g : Seg) (o : DormancyOrigin) : OnlyWork s (s.enterDormant g o) := by
  unfold State.enterDormant
  cases o with
  | idleTimer =>
    exact (((OnlyWork.setSeg _ _ _ (by exact ⟨rfl, rfl⟩)).trans (.postNotice _ _ _)).trans (.endOp _ _ _ _)).trans (.wakeOnDemand _ _)
  | sleep => exact ((OnlyWork.setSeg _ _ _ (by exact ⟨rfl, rfl⟩)).trans (.endOp _ _ _ _)).trans (.wakeOnDemand _ _)

theorem OnlyWork.dormancyEnded (s : State) (g : Seg) (d : DormancyOrigin) (o : LegOutcome) : OnlyWork s (s.dormancyEnded g d o) := by
  unfold State.dormancyEnded
  refine .ite (.refl s) (.ite (.enterDormant _ _ _) ?_)
  cases d with
  | idleTimer => exact .refl s
  | sleep => exact .endOp _ _ _ _

theorem OnlyWork.endFrame (s : State) (g : Seg) (o : LegOutcome) (bytes : List Byte) : OnlyWork s (s.endFrame g o bytes) := by
  unfold State.endFrame
  split
  · exact .refl s
  · rename_i f _
    have h := OnlyWork.setSeg s g ((s.seg g).countFrame o).enterGuard (Segment.countFrame_config _ _)
    cases hf : f.carrier with
    | exchange i => exact h.trans (.legFrameEnded _ _ _ _ _)
    | dormancy d => exact h.trans (.dormancyEnded _ _ _ _)

theorem OnlyWork.cutFrame (s : State) (g : Seg) (cause : LegOutcome) : OnlyWork s (s.cutFrame g cause) := by
  unfold State.cutFrame
  split
  · exact .refl s
  · rename_i f _
    have h := OnlyWork.setSeg s g
      { (s.seg g).countFrame cause with frame := none, pendingOutcome := none, line := .released } (Segment.countFrame_config _ _)
    cases hf : f.carrier with
    | exchange i => exact h.trans (.legFrameEnded _ _ _ _ _)
    | dormancy d => exact h

/-- A quieted segment record keeps its configuration, whatever its line state becomes. -/
theorem Segment.quiet_config (x : Segment) (l : LineState) :
    ({ x.quiet with lineState := l } : Segment).configured = x.configured ∧
      ({ x.quiet with lineState := l } : Segment).config = x.config := ⟨rfl, rfl⟩

theorem OnlyWork.setProgress (s : State) (i : SlotId) (p : Progress) : OnlyWork s (s.setProgress i p) := .setSlot _ _ _

theorem OnlyWork.recordProgress (s : State) (g : Seg) (op : SegOp) (p : Progress) : OnlyWork s (s.recordProgress g op p) := by
  unfold State.recordProgress
  split
  · exact .ite (.setProgress _ _ _) (.refl s)
  · exact .refl s

theorem OnlyWork.enterFaulted (s : State) (g : Seg) (why : FaultReason) : OnlyWork s (s.enterFaulted g why) := by
  unfold State.enterFaulted
  refine (((((OnlyWork.cutFrame _ _ _).trans (.modSeg _ _ _ ?_)).trans (.postNotice _ _ _)).trans (.displaceQueue _ _ _)).trans
    (.loseHold _ _ _)).trans (.endPendingOp _ _ _)
  exact fun x => Segment.quiet_config x _

theorem OnlyWork.stopSegment (s : State) (g : Seg) : OnlyWork s (s.stopSegment g) := by
  unfold State.stopSegment
  refine (((OnlyWork.modSeg _ _ _ ?_).trans (.displaceQueue _ _ _)).trans (.loseHold _ _ _)).trans (.modSeg _ _ _ ?_)
  · exact fun _ => ⟨rfl, rfl⟩
  · exact fun x => Segment.quiet_config x _

theorem OnlyWork.resetSegment (s : State) (g : Seg) : OnlyWork s (s.resetSegment g) := by
  unfold State.resetSegment
  refine (((((OnlyWork.cutFrame _ _ _).trans (.modSeg _ _ _ ?_)).trans (.displaceQueue _ _ _)).trans (.loseHold _ _ _)).trans
    (.endPendingOp _ _ _)).trans (.modSeg _ _ _ ?_)
  · exact fun _ => ⟨rfl, rfl⟩
  · exact fun x => Segment.quiet_config x _

theorem OnlyWork.joinHoldSets (s : State) (i : SlotId) (g : Seg) (own granted : Bool) :
    OnlyWork s (s.joinHoldSets i g own granted) := .setSlot _ _ _

theorem OnlyWork.grantHold (s : State) (g : Seg) (r : Ring) : OnlyWork s (s.grantHold g r) := .setSeg _ _ _ (by exact ⟨rfl, rfl⟩)

theorem OnlyWork.checkHoldGranted (s : State) (i : SlotId) : OnlyWork s (s.checkHoldGranted i) := .ite (.answer _ _ _) (.refl s)

theorem OnlyWork.grantDrained (s : State) (g : Seg) : OnlyWork s (s.grantDrained g) := by
  unfold State.grantDrained
  split
  · exact ((OnlyWork.grantHold _ _ _).trans (.joinHoldSets _ _ _ _ _)).trans (.checkHoldGranted _ _)
  · exact .refl s
  · exact .refl s

theorem OnlyWork.actStop (s : State) (g : Seg) : OnlyWork s (s.actStop g) := (OnlyWork.stopSegment s g).trans (.endOp _ _ _ _)

theorem OnlyWork.foreignMaster (s : State) (g : Seg) : OnlyWork s (s.foreignMaster g) :=
  (OnlyWork.setSeg _ _ _ (by exact ⟨rfl, rfl⟩)).trans (.enterFaulted _ _ _)

theorem OnlyWork.enterMeasured (s : State) (c : CarriedLevel) : OnlyWork s (s.enterMeasured c) := .ite (.refl s) (.foreignMaster _ _)

theorem OnlyWork.enterGuardMeasured (s : State) (c : CarriedLevel) : OnlyWork s (s.enterGuardMeasured c) := by
  refine OnlyWork.ite (.refl s) ?_
  exact (OnlyWork.ite (.grantDrained s _) (.refl s)).trans (.ite (.actStop _ _) (.enterMeasured _ _))

theorem OnlyWork.refreshIdle (s : State) : OnlyWork s s.refreshIdle := by
  refine ⟨rfl, fun g => ?_, fun _ => rfl⟩
  rw [State.seg_refreshIdle]
  exact ⟨rfl, rfl⟩

end Sys2Proof.Machine
end

