-- ==== Sys2Proof/Tests/States.lean ====
section
/-! SUPPORT. Small states for the tests and the witnesses: the reset state with one or two records replaced. -/

namespace Sys2Proof.Tests

open Sys2Proof.Machine

/-- The state after one command; the state itself where the command answers none. -/
def after (c : Instr) (s : State) : State :=
  match exec c s with
  | .next t => t
  | .fault _ => s
  | .refused _ => s

/-- A record from its first bytes, the rest zero. -/
def recordOf (bytes : List Byte) : Record := Vector.ofFn fun i => bytes.getD i.val 0

/-- The PCIe configuration with four message numbers enabled and unmasked. -/
def pcie (busMaster : Bool) : PcieConfig := { busMaster := busMaster, messages := true, enabled := 4, mask := 0 }

/-! ### Rings -/

/-- Request ring 0 as a bring-up leaves it, size 16, with one record posted. -/
def adminRing : RequestRing :=
  { RequestRing.created { base := 0x1000, size := 16, weight := none, reserve := 4, cap := 8, cq := 0 } with producer := 1 }

/-- Request ring 1, size 16, weight 2, reserve 2, cap 8, bound to completion ring 0, with one record posted. -/
def workRing : RequestRing :=
  { RequestRing.created { base := 0x2000, size := 16, weight := some 2, reserve := 2, cap := 8, cq := 0 } with producer := 1 }

/-- Completion ring 0 as a bring-up leaves it, size 16. -/
def adminCq : CompletionRing := CompletionRing.created { base := 0x4000, size := 16, count := 1, delay := 0 }

/-- Rings 0 and 1 and completion ring 0 ACTIVE, grants enabled. -/
def ready : State :=
  { ((State.reset.setRing 0 adminRing).setRing 1 workRing).setCq 0 adminCq with enable := true }

/-! ### A record about to arrive -/

/-- The fetch of the first record of ring `r` into slot 0. -/
def fetchOf (r : Ring) : Fetch := { ring := r, index := 0, slot := 0, discard := false }

/-- The configuration of ring `r` in `ready`. -/
def configOf (r : Ring) : RingConfig :=
  if r = 0 then { base := 0x1000, size := 16, weight := none, reserve := 4, cap := 8, cq := 0 }
  else { base := 0x2000, size := 16, weight := some 2, reserve := 2, cap := 8, cq := 0 }

/-- The read of ring `r`'s first record is on the link. -/
def fetching (s : State) (r : Ring) : State :=
  { s.setSlot 0 { Slot.empty with state := .fetching, ring := some r } with
    fetch := some (fetchOf r), read := .outstanding (configOf r).base (.running 50000) }

/-! ### Segments and frames -/

/-- A configured segment in a line state. -/
def segIn (l : LineState) : Segment := { Segment.cold with configured := true, lineState := l }

/-- The reset state with segment 3 replaced. -/
def withSeg (x : Segment) : State := State.reset.setSeg 3 x

/-- A frame of slot 5's exchange: a READ of two bytes from identifier 40. -/
def readFrame : Frame where
  carrier := .exchange 5
  id := 40
  direction := .dirIn
  confirmed := false
  length := 2
  payload := []
  received := []
  inReception := false

/-- A frame of slot 5's exchange: a confirmed WRITE of one byte to identifier 10. -/
def writeFrame : Frame where
  carrier := .exchange 5
  id := 10
  direction := .dirOut
  confirmed := true
  length := 1
  payload := [0x07]
  received := []
  inReception := false

/-- The levels of a byte's eight data bits, as the line carries them. -/
def levelsOf (b : Byte) : DataLevels := Vector.ofFn fun n => if b.getLsbD n.val then .recessive else .dominant

/-- A segment with a frame in a phase. -/
def framing (phase : FramePhase) (bits : Option Nat) (f : Frame) : Segment :=
  { segIn .active with phase := phase, phaseBits := bits, frame := some f }

/-! ### Exchanges -/

/-- The exchange fields of a READ of two bytes with a target. -/
def readOf (target : Target) : Exchange where
  target := target
  frameId := 40
  direction := .dirIn
  confirmed := false
  length := 2
  priority := 1
  timeoutClass := 0
  retryBudget := 2

/-- A leg on segment 3. -/
def legOf (state : LegState) (path : Option Path) (retries : Nat) : Leg where
  segment := 3
  state := state
  path := path
  retriesLeft := retries
  attempts := 1
  lastFrameSeg := some 3
  outcome := none

/-- A LIVE exchange slot with one leg. -/
def exchanging (x : Exchange) (l : Leg) : Slot :=
  { Slot.empty with
    state := .live, ring := some 1, arrival := some 1, tag := some 0x0310, cq := some 0, kind := some .read
    exchange := some x, legs := [l] }

/-- A LIVE request of ring `r` that is no exchange. -/
def requesting (r : Ring) (k : Kind) (args : OpArgs) : Slot :=
  { Slot.empty with
    state := .live, ring := some r, arrival := some 1, tag := some 0x0120, cq := some 0, kind := some k, args := some args }

/-- The ready state with slot 5 and segment 3 replaced. -/
def busy (x : Slot) (g : Segment) : State := { (ready.setSlot 5 x).setSeg 3 g with lastArrival := 1 }

end Sys2Proof.Tests
end

