-- ==== Sys2Proof/WellFormed.lean ====
section
/-! DEFINITION. When the operands of a command are ones that the outside world can send.
Indices are `Fin`, so only the operands that are plain numbers need a check. -/

namespace Sys2Proof

/-- A host access lies in the 4 KB window and is aligned to its width (R159). -/
def AccessWidth.fits (w : AccessWidth) (offset : Nat) : Bool :=
  match w with
  | .bits8 => offset < Config.windowBytes
  | .bits16 => offset < Config.windowBytes && offset % 2 == 0
  | .bits32 => offset < Config.windowBytes && offset % 4 == 0
  | .bits64 => offset < Config.windowBytes && offset % 8 == 0

/-- The bits of a written value lie within the access's width. -/
def AccessWidth.holds (w : AccessWidth) (value : BitVec 64) : Bool :=
  match w with
  | .bits8 => value.toNat < 2 ^ 8
  | .bits16 => value.toNat < 2 ^ 16
  | .bits32 => value.toNat < 2 ^ 32
  | .bits64 => true

/-- The host enables 1, 2 or 4 message numbers (R168). -/
def PcieConfig.wf (p : PcieConfig) : Bool :=
  p.enabled == 1 || p.enabled == 2 || p.enabled == 4

/-- Operand checks of a command. -/
def Instr.wf : Instr → Bool
  | .registerWrite offset width value => width.fits offset && width.holds value
  | .readIssue config | .recordWriteIssue config | .interruptMessageIssue config => config.wf
  | .readbackDifference sample => sample.bit < Config.longestSentBits
  | .settleTimerExpiry carried | .windowEnd carried => carried.dominant < Config.stuckBits
  | .remoteWake _ us => Config.remoteWakeMin ≤ us && us < Config.dormantStuckAt
  | .coldReset | .controlReset | .functionLevelReset | .functionResetEnd | .adminBringUp | .enableSet | .enableClear => true
  | .rqPost _ _ | .cqRelease _ _ | .fetchGrant | .fetchComplete _ | .ringDeleteComplete _ | .fetchError => true
  | .fetchTimeout | .lateReadCompletion | .recordWriteRequest | .coalescingDelayExpiry _ => true
  | .deadlineExpiry _ | .holdTimerExpiry _ | .holdGrant _ | .idleTimerExpiry _ | .sleepCommandStart _ | .wakePulseEnd _ => true
  | .pick _ | .leadInEnd _ | .headerSent _ | .gapEnd _ | .responseOutEnd _ | .byteReceived _ _ => true
  | .ackReceived _ _ | .stopAct _ | .guardEnd _ | .framingDetected _ => true
  | .recoverEnd _ | .recoverNoIdle _ | .noise _ | .foreignMaster _ | .stuckLine _ | .syncComplete _ | .syncNoIdle _ => true
  | .dormantStuck _ | .startCheck _ _ | .recessiveRunRestart _ _ | .coldResetEnd => true

end Sys2Proof
end

