-- ==== Sys2Proof/Tests/Slice0.lean ====
section
/-! SUPPORT. Tests of single commands. Expected values come from the rule or the worked example of spec/ named at each test. -/

namespace Sys2Proof.Tests

open Sys2Proof.Machine

/-! ### Operands that are refused as ill-formed -/

theorem test_wf_offset_beyond_window : (Instr.registerWrite 4096 .bits8 0).wf = false := by decide
theorem test_wf_last_word : (Instr.registerWrite 4092 .bits32 0xFFFFFFFF).wf = true := by decide
theorem test_wf_unaligned_word : (Instr.registerWrite 2 .bits32 0).wf = false := by decide
theorem test_wf_unaligned_half : (Instr.registerWrite 1 .bits16 0).wf = false := by decide
theorem test_wf_unaligned_double : (Instr.registerWrite 4 .bits64 0).wf = false := by decide
theorem test_wf_value_too_wide : (Instr.registerWrite 0 .bits32 0x100000000).wf = false := by decide
theorem test_wf_byte_too_wide : (Instr.registerWrite 0 .bits8 0x100).wf = false := by decide
theorem test_wf_half_too_wide : (Instr.registerWrite 0 .bits16 0x10000).wf = false := by decide

theorem test_wf_message_numbers (b m : Bool) (k : BitVec 4) :
    (Instr.interruptMessageIssue { busMaster := b, messages := m, enabled := 3, mask := k }).wf = false := rfl
theorem test_wf_read_numbers (b m : Bool) (k : BitVec 4) :
    (Instr.readIssue { busMaster := b, messages := m, enabled := 0, mask := k }).wf = false := rfl
theorem test_wf_write_numbers (b m : Bool) (k : BitVec 4) :
    (Instr.recordWriteIssue { busMaster := b, messages := m, enabled := 5, mask := k }).wf = false := rfl
theorem test_wf_window_stuck : (Instr.windowEnd ⟨0, 64⟩).wf = false := by decide
theorem test_wf_settle_stuck : (Instr.settleTimerExpiry ⟨0, 64⟩).wf = false := by decide

theorem test_wf_short_pulse : (Instr.remoteWake 0 249).wf = false := by decide
theorem test_wf_long_pulse : (Instr.remoteWake 0 5000).wf = false := by decide

/-! ### Decoding and stepping -/

/-- The table gives no row any bits. -/
theorem test_no_word_decodes (n w : Nat) : decodeTableWord n w = none := rfl

/-- Commands run first in, first out. -/
theorem test_front_runs_first :
    step { ready with pending := [.enableClear, .coldReset] } =
      .next { ready with enable := false, pending := [.coldReset] } := rfl

/-! ### Resets (R7, R161, R164) -/

theorem test_coldReset_not_ready : (after .coldReset ready).readRegister 4 = 0 := by decide
theorem test_coldResetEnd_ready : (after .coldResetEnd (after .coldReset ready)).readRegister 4 = 1 := by decide
theorem test_controlReset_clears_enable : (after .controlReset ready).enable = false := by decide
/-- A function reset keeps a segment's configuration (R79). -/
theorem test_functionLevelReset_keeps_configured :
    ((after .functionLevelReset (withSeg (segIn .active))).seg 3).configured = true := by decide
theorem test_functionResetEnd_ready :
    ((after .functionResetEnd (after .controlReset ready)).readRegister 4).getLsbD 0 = true := by decide

/-! ### The register window (R123, R134, R160, R162, R163) -/

/-- Sizes that are no power of two set ADMIN_FAULT, bit 1 of STATUS. -/
theorem test_adminBringUp_fault :
    (after .adminBringUp { State.reset with adminSizes := 0x00200030 }).readRegister 4 = 3 := by decide
theorem test_adminBringUp_success :
    ((after .adminBringUp { State.reset with adminSizes := 0x00200020 }).cq 0).armed = true := by decide
theorem test_enableClear_stops_grants : (after .enableClear ready).eligible 1 = false := by decide
theorem test_enableSet_allows_grants : (after .enableSet (after .enableClear ready)).eligible 1 = true := by decide
/-- Only bits 0 to 15 count. -/
theorem test_rqPost_low_half : ((after (.rqPost 1 0xFFFF0005) ready).ring 1).producer = 5 := by decide
theorem test_rqPost_beyond_size : ((after (.rqPost 1 16) ready).ring 1).producer = 1 := by decide
/-- Releasing up to the producer index releases all (R134). -/
theorem test_cqRelease_all :
    ((after (.cqRelease 0 3) (ready.setCq 0 { adminCq with producer := 3, unreleased := 3 })).cq 0).unreleased = 0 := by decide
theorem test_cqRelease_none :
    ((after (.cqRelease 0 5) (ready.setCq 0 { adminCq with producer := 3, unreleased := 3 })).cq 0).release = 0 := by decide
theorem test_registerWrite_high_word :
    (after (.registerWrite 0x14 .bits32 0x89ABCDEF) State.reset).adminRqBase = 0x89ABCDEF00000000 := by decide
theorem test_registerWrite_narrow_ignored :
    (after (.registerWrite 0x20 .bits16 0x20) State.reset).adminSizes = 0 := by decide

/-! ### Fetching (R125 to R128, R166) -/

/-- Ring 0 goes first, at base + 32 x index. -/
theorem test_fetchGrant_admin_first : (after .fetchGrant ready).read = .waiting 0x1000 := by decide
theorem test_fetchGrant_index :
    (after .fetchGrant { ready.setRing 1 { workRing with producer := 4, consumer := 3 } with
      rings := ((ready.setRing 1 { workRing with producer := 4, consumer := 3 }).setRing 0 { adminRing with producer := 0 }).rings }).read
      = .waiting 0x2060 := by decide
theorem test_readIssue_on_link : (after (.readIssue (pcie true)) (after .fetchGrant ready)).link = [.readRequest 0x1000] := by decide
theorem test_readIssue_bus_master_off :
    ((after (.readIssue (pcie false)) (after .fetchGrant ready)).ring 0).error = some .readError := by decide
/-- SET_LIMITS writes the hold limit (R154). -/
theorem test_fetchComplete_setLimits :
    (after (.fetchComplete ⟨recordOf [0x48, 0, 1, 2, 0, 0, 0, 0, 0, 0, 0, 0, 0, 0, 0, 0, 1, 0, 2, 0, 3, 0, 4, 0, 0x2C, 1], false⟩)
      (fetching ready 0)).holdLimit = 300 := by decide
/-- A READ of an address no entry holds is refused with BAD_TARGET and consumed (R30, R10). -/
theorem test_fetchComplete_badTarget :
    let t := after (.fetchComplete ⟨recordOf [0x01], false⟩) (fetching ready 1)
    ((t.slot 0).result.map Result.status, (t.ring 1).consumer) = (some .badTarget, 1) := by decide
theorem test_fetchError_reason : ((after .fetchError (fetching ready 1)).ring 1).error = some .readError := by decide
theorem test_fetchTimeout_status : ((after .fetchTimeout (fetching ready 1)).readRegister 4) = 0x201 := by decide
theorem test_lateReadCompletion_discarded : after .lateReadCompletion ready = ready := rfl
theorem test_ringDeleteComplete :
    ((after (.ringDeleteComplete 1) (ready.setRing 1 { workRing with state := .deleting })).ring 1).state = .unconfigured := by
  decide

/-! ### Records and messages (R133, R138, R140, R167, R168, R171, R172) -/

/-- A SEGMENT_FAULTED notice of SEG3, reason STUCK, waiting on completion ring 0. -/
def noticeWaits : State := ready.postNotice 0 (.segmentFaulted 3 .stuck)

theorem test_recordWriteRequest_address :
    (after .recordWriteRequest noticeWaits).write = some { cq := 0, addr := 0x4000 } := by decide
/-- The bytes of the notice, with phase 1 (R172). -/
theorem test_recordWriteIssue_notice :
    (after (.recordWriteIssue (pcie true)) (after .recordWriteRequest noticeWaits)).link =
      [.recordWrite 0x4000 [0, 0, 0x80, 3, 3, 0x80, 2, 0, 0, 0, 0, 0, 0, 0, 0, 0]] := by decide
theorem test_recordWriteIssue_bus_master_off :
    ((after (.recordWriteIssue (pcie false)) (after .recordWriteRequest noticeWaits)).cq 0).state = .errored := by decide
/-- Completion ring 2 sends number 0 where two numbers are enabled (R168). -/
theorem test_interruptMessageIssue_modulo :
    (after (.interruptMessageIssue { busMaster := true, messages := true, enabled := 2, mask := 0 })
      { ready with msgPending := #v[false, false, true, false] }).link = [.message 0] := by decide
theorem test_interruptMessageIssue_masked :
    (after (.interruptMessageIssue { busMaster := true, messages := true, enabled := 4, mask := 4 })
      { ready with msgPending := #v[false, false, true, false] }).msgHeld = #v[none, none, some 2, none] := by decide
/-- Two numbers enabled: ring 1's message goes before ring 2's, which is held for number 0 and unmasked now (R165). -/
theorem test_interruptMessageIssue_ring_order :
    (after (.interruptMessageIssue { busMaster := true, messages := true, enabled := 2, mask := 0 })
      { ready with msgPending := #v[false, true, false, false], msgHeld := #v[some 2, none, none, none] }).link = [.message 1] := by
  decide
theorem test_coalescingDelayExpiry_sends :
    (after (.coalescingDelayExpiry 0) (ready.setCq 0 { adminCq with delayTimer := .running 9, sinceMessage := 1 })).msgPending.get 0
      = true := by decide

/-! ### Timers and same-moment steps -/

/-- A waiting leg finishes EXPIRED at its deadline (R16). -/
theorem test_deadlineExpiry_waiting :
    ((after (.deadlineExpiry 5) (busy { exchanging (readOf (.single 3)) (legOf .waiting none 2) with
      deadline := .running 20, deadlineTimer := .running 20000 } (segIn .active))).slot 5).result.map Result.status
      = some (.outcome .expired) := by decide
theorem test_holdTimerExpiry_notice :
    ((after (.holdTimerExpiry 3) (busy Slot.empty { segIn .active with hold := .held 1 1000 })).cq 0).backlog
      = [.notice (.holdLost 3 .expired 1)] := by decide
theorem test_holdGrant_starts_timer :
    ((after (.holdGrant 3) (busy (requesting 1 .hold (.hold 8)) { segIn .active with hold := .draining 1 5 })).seg 3).hold
      = .held 1 1000 := by decide
/-- The header of the dormancy command is 7Eh 91h (R67). -/
theorem test_idleTimerExpiry_frame :
    let s := after (.idleTimerExpiry 3) (withSeg { segIn .active with
      config := { SegConfig.default with idleToDormant := 5 }, idleTimer := .running 5000 })
    (s.seg 3).frame.map (fun f => [headerByte0 f, headerByte1 f]) = some [0x7E, 0x91] := by decide
theorem test_sleepCommandStart_frame :
    ((after (.sleepCommandStart 3) (withSeg { segIn .active with pendingOp := some { op := .sleep, slot := 5 } })).seg 3).frame
      = some (dormancyFrame .sleep) := by decide
/-- The engine records in the request's slot that its own command is in progress (R13, R99). -/
theorem test_sleepCommandStart_progress :
    ((after (.sleepCommandStart 3) (busy (requesting 0 .segSleep (.segSleep 3))
      { segIn .active with pendingOp := some { op := .sleep, slot := 5 } })).slot 5).progress = some .sendingDormancy := by decide
theorem test_wakePulseEnd_settles :
    ((after (.wakePulseEnd 3) (withSeg { segIn .dormant with wakePulse := some .wake, line := .wakePulse })).seg 3).settleTimer
      = .running 20000 := by decide
theorem test_settleTimerExpiry_active :
    ((after (.settleTimerExpiry ⟨3, 9⟩) (withSeg { segIn .waking with settleTimer := .running 20000 })).seg 3).lineState = .active := by
  decide
/-- A level of 10 bit times carried into IDLE is a foreign master at once (R82). -/
theorem test_settleTimerExpiry_carried :
    ((after (.settleTimerExpiry ⟨3, 10⟩) (withSeg { segIn .waking with settleTimer := .running 20000 })).seg 3).lineState
      = .faulted .foreign := by decide
theorem test_stopAct_off :
    ((after (.stopAct 3) (busy (requesting 0 .segStop (.segStop 3))
      { segIn .active with phase := .guard, pendingOp := some { op := .stop, slot := 5 } })).seg 3).lineState = .off := by decide
/-- The idle timer starts again once GUARD is over (R89). -/
theorem test_guardEnd_idle_timer :
    ((after (.guardEnd 3) (withSeg { segIn .active with
      phase := .guard, config := { SegConfig.default with idleToDormant := 5 } })).seg 3).idleTimer = .running 5000 := by decide

/-! ### Frames (R44, R64 to R73) -/

theorem test_pick_attempts :
    ((after (.pick 3) ((busy (exchanging (readOf (.single 3)) (legOf .waiting none 2)) (segIn .active)).setQueue 3 [5])).slot 5).legs.map
      Leg.attempts = [2] := by decide
/-- A leg of another ring than the holder is not picked (R42). -/
theorem test_pick_held :
    ((after (.pick 3) ((busy (exchanging (readOf (.single 3)) (legOf .waiting none 2))
      { segIn .active with hold := .held 2 1000 }).setQueue 3 [5])).seg 3).frame = none := by decide
theorem test_leadInEnd_bits : ((after (.leadInEnd 3) (withSeg (framing .leadIn (some 16) readFrame))).seg 3).phaseBits = some 20 := by
  decide
/-- The window of a READ of 2 bytes with the default window base 10 and byte 14: 10 + 14 x 3 (R69). -/
theorem test_headerSent_window :
    ((after (.headerSent 3) (withSeg (framing .header (some 20) readFrame))).seg 3).phaseBits = some 52 := by decide
theorem test_headerSent_gap : ((after (.headerSent 3) (withSeg (framing .header (some 20) writeFrame))).seg 3).phaseBits = some 2 := by
  decide
theorem test_gapEnd_bits : ((after (.gapEnd 3) (withSeg (framing .gap (some 2) writeFrame))).seg 3).phaseBits = some 20 := by decide
theorem test_responseOutEnd_ack_window :
    ((after (.responseOutEnd 3) (withSeg (framing .responseOut (some 20) writeFrame))).seg 3).phaseBits = some 24 := by decide
theorem test_startCheck_dominant :
    ((after (.startCheck 3 .dominant) (withSeg (framing .ackWait (some 24) writeFrame))).seg 3).frame.map Frame.inReception
      = some true := by decide
theorem test_byteReceived_kept :
    ((after (.byteReceived 3 (levelsOf 0x3C)) (withSeg (framing .responseIn (some 52) { readFrame with inReception := true }))).seg 3).frame.map
      Frame.received = some [0x3C] := by decide
/-- ACCEPT on the line is 0, 1, 1, 0, 1, 0, 0, 1 (R71). -/
theorem test_receivedByte_accept :
    receivedByte #v[.dominant, .recessive, .recessive, .dominant, .recessive, .dominant, .dominant, .recessive] = 0x96 := by decide
/-- The acknowledgment 69h refuses the WRITE (R71). -/
theorem test_ackReceived_refused :
    ((after (.ackReceived 3 (levelsOf 0x69)) (busy (exchanging (readOf (.single 3)) (legOf .onWire none 2))
      (framing .ackWait (some 24) { writeFrame with inReception := true }))).slot 5).result.map Result.status
      = some (.outcome .refused) := by decide
/-- No byte at all in the window, with no retries left (R72). -/
theorem test_windowEnd_no_response :
    ((after (.windowEnd ⟨3, 0⟩) (busy (exchanging (readOf (.single 3)) (legOf .onWire none 0))
      (framing .responseIn (some 52) readFrame))).slot 5).result.map Result.status = some (.outcome .noResponse) := by decide
/-- A line held dominant past the window is a foreign master as GUARD begins (R82, R83). -/
theorem test_windowEnd_carried :
    ((after (.windowEnd ⟨3, 24⟩) (withSeg (framing .ackWait (some 24) writeFrame))).seg 3).lineState = .faulted .foreign := by decide
/-- A STOP that waits for the frame acts at its end, and the level is dropped (R64, R82, R96). -/
theorem test_windowEnd_carried_stop :
    ((after (.windowEnd ⟨3, 24⟩) (withSeg { framing .ackWait (some 24) writeFrame with
      pendingOp := some { op := .stop, slot := 5 } })).seg 3).lineState = .off := by decide
/-- A HOLD that waits for the frame is granted at its end, before the foreign master of the guard (R64, R109). -/
theorem test_windowEnd_carried_draining :
    ((after (.windowEnd ⟨3, 24⟩) (busy { requesting 1 .hold (.hold 8) with progress := some (.hold { own := 8, granted := 0 }) }
      { framing .ackWait (some 24) (dormancyFrame .sleep) with hold := .draining 1 5 })).slot 5).result.map Result.status
      = some (.outcome .ok) := by decide
/-- A fault of a segment ends a LIVE HOLD that names it, whoever holds it then (R110). -/
theorem test_foreignMaster_ends_hold :
    ((after (.foreignMaster 3) (busy { requesting 1 .hold (.hold 8) with progress := some (.hold { own := 0, granted := 8 }) }
      { segIn .active with phase := .guard, phaseBits := some 8 })).slot 5).result.map Result.status = some (.outcome .segmentFault) := by decide
theorem test_readbackDifference_event :
    ((after (.readbackDifference ⟨3, 13, .recessive⟩) (withSeg { framing .leadIn (some 16) readFrame with
      line := .sending leadInLevels })).seg 3).lineEvents = 1 := by decide
/-- A recessive sample is what the gap expects (R61). -/
theorem test_readbackDifference_gap :
    ((after (.readbackDifference ⟨3, 1, .recessive⟩) (withSeg (framing .gap (some 2) writeFrame))).seg 3).phase = .gap := by decide
theorem test_framingDetected_recover :
    ((after (.framingDetected 3) (withSeg (framing .ackWait (some 24) { writeFrame with inReception := true }))).seg 3).pendingOutcome
      = some .framing := by decide
/-- The dominant stop bit is carried into RECOVER: no recessive run is under way there (R82, R73). -/
theorem test_framingDetected_then_recoverEnd :
    ((after (.recoverEnd 3) (after (.framingDetected 3) (withSeg (framing .ackWait (some 24)
      { writeFrame with inReception := true })))).seg 3).phase = .recover := by decide
theorem test_recoverEnd_guard :
    ((after (.recoverEnd 3) (withSeg { framing .recover none readFrame with
      run := .counting, pendingOutcome := some .readback })).seg 3).phase = .guard := by decide
theorem test_recoverNoIdle_faulted :
    ((after (.recoverNoIdle 3) (withSeg { framing .recover none readFrame with
      run := .interrupted, pendingOutcome := some .readback })).seg 3).lineState = .faulted .noIdle := by decide

/-! ### The line watch (R83 to R88) -/

theorem test_noise_counts : ((after (.noise 3) (withSeg (segIn .active))).seg 3).lineEvents = 1 := by decide
theorem test_foreignMaster_faulted : ((after (.foreignMaster 3) (withSeg (segIn .active))).seg 3).lineState = .faulted .foreign := by
  decide
theorem test_stuckLine_faulted :
    ((after (.stuckLine 3) (withSeg { segIn .waking with settleTimer := .running 20000 })).seg 3).settleTimer = .stopped := by decide
theorem test_syncComplete_active :
    ((after (.syncComplete 3) (withSeg { segIn .syncing with run := .counting })).seg 3).lineState = .active := by decide
theorem test_syncNoIdle_faulted :
    ((after (.syncNoIdle 3) (withSeg { segIn .syncing with run := .interrupted })).seg 3).lineState = .faulted .noIdle := by decide
theorem test_remoteWake_waking : ((after (.remoteWake 3 250) (withSeg (segIn .dormant))).seg 3).lineState = .waking := by decide
theorem test_dormantStuck_faulted : ((after (.dormantStuck 3) (withSeg (segIn .dormant))).seg 3).lineState = .faulted .stuck := by
  decide
theorem test_recessiveRunRestart_breaks :
    ((after (.recessiveRunRestart 3 .dominant) (withSeg { segIn .syncing with run := .counting })).seg 3).run = .interrupted := by
  decide

/-! ### Worked bytes (R66, R67) -/

/-- The check byte of the dormancy command, over 7Eh 91h 00h (R67). -/
theorem test_crc_dormancy : crc8 [0x7E, 0x91, 0x00] = 0xF7 := by decide +kernel

end Sys2Proof.Tests
end

