-- ==== Sys2Proof/Tests/Witnesses.lean ====
section
/-! SUPPORT. For each statement of Certificates/Slice0/Obligations.lean that has hypotheses, a concrete state and operands that
meet all of them together, for each of its clauses. -/

namespace Sys2Proof.Tests

open Sys2Proof.Machine

/-! ### Legality of the small states -/

theorem follows_of_check (s : State)
    (h : (List.finRange 8).all (fun g => decide ((s.seg g).idleTimer = (s.seg g).idleTimerFor (s.queue g))) = true) :
    IdleTimersFollow s := by
  rw [idleTimersFollow_iff]
  intro g
  simpa using List.all_eq_true.1 h g (List.mem_finRange g)

theorem legal_cold : SegmentLegal Segment.cold := by
  constructor <;> simp [Segment.cold, Hold.holder, opsPendingIn]

/-- With one segment record replaced, the segment records are legal if that one is. -/
theorem legal_withSeg {s : State} (hs : ∀ g, s.seg g = Segment.cold) {x : Segment} (h : SegmentLegal x) (g : Seg) :
    SegmentsLegal (s.setSeg g x) := by
  intro k
  rw [State.seg_setSeg]
  split
  · exact h
  · exact hs k ▸ legal_cold

theorem legal_legs_empty : LegsLegal Slot.empty := by
  constructor <;> simp [Slot.empty]

/-- A slot that no queue speaks of: not LIVE, no exchange, no legs. -/
def unused (x : Slot) : Bool := x.state ≠ .live && x.exchange.isNone && x.legs.isEmpty

/-- The dispatch queues are legal where one slot alone may carry legs, and each queue holds it exactly where it waits. -/
theorem dispatch_of_one {s : State} (i : SlotId) (hother : ∀ j, j ≠ i → unused (s.slot j) = true)
    (hq : ∀ g, s.queue g = if (s.slot i).state = .live ∧ ∃ l ∈ (s.slot i).legs, l.segment = g ∧ l.state = .waiting then [i] else [])
    (hlegs : LegsLegal (s.slot i)) (harr : (s.slot i).state = .live → (s.slot i).arrival = some 1) (hlast : s.lastArrival = 1)
    (hmap : ∀ e, (s.map.get e).kind = .pair → (s.map.get e).segA ≠ (s.map.get e).segB) : DispatchLegal s := by
  have ho : ∀ j, j ≠ i → (s.slot j).state ≠ .live ∧ (s.slot j).exchange = none ∧ (s.slot j).legs = [] := by
    intro j hj
    simpa [unused, and_assoc] using hother j hj
  exact {
    queued := fun g j => by
      rw [hq g]
      by_cases hj : j = i
      · subst hj
        simp only [LegWaits]
        split <;> simp_all
      · simp only [LegWaits, (ho j hj).1, false_and, iff_false]
        split <;> simp [hj]
    ordered := fun g => by
      rw [hq g]
      split <;> simp
    legs := fun j => by
      by_cases hj : j = i
      · exact hj ▸ hlegs
      · constructor <;> simp [(ho j hj).2]
    arrived := fun j hl => by
      by_cases hj : j = i
      · subst hj
        exact ⟨1, harr hl, by omega⟩
      · exact absurd hl (ho j hj).1
    inOrder := fun j k hj hk _ => by
      by_cases h1 : j = i
      · by_cases h2 : k = i
        · rw [h1, h2]
        · exact absurd hk (ho k h2).1
      · exact absurd hj (ho j h1).1
    entries := hmap }

theorem arriving_of_check (s : State) (r : Ring) (hslot : s.slot 0 = { Slot.empty with state := .fetching, ring := some r })
    (hread : s.read = .outstanding (configOf r).base (.running 50000)) (hf : s.fetch = some (fetchOf r))
    (hp : (s.ring r).pendingCount ≠ 0) (hc : (s.ring r).config = some (configOf r)) (hk : (s.ring r).consumer < (configOf r).size) :
    Arriving s (fetchOf r) (configOf r) :=
  ⟨⟨_, _, hread⟩, hf, rfl, hp, hc, hk, hslot⟩

theorem arriving_admin : Arriving (fetching ready 0) (fetchOf 0) (configOf 0) :=
  arriving_of_check _ _ (by decide) rfl rfl (by decide) (by decide) (by decide)

theorem arriving_work : Arriving (fetching ready 1) (fetchOf 1) (configOf 1) :=
  arriving_of_check _ _ (by decide) rfl rfl (by decide) (by decide) (by decide)

theorem follows_admin : IdleTimersFollow (fetching ready 0) := follows_of_check _ (by decide)

theorem follows_work : IdleTimersFollow (fetching ready 1) := follows_of_check _ (by decide)

/-- Where no LIVE slot is a HOLD, no loss ends one. -/
theorem no_holdEnds {s : State} (h : ∀ i, (s.slot i).state = .live → (s.slot i).kind ≠ some .hold) (g : Seg) (why : HoldLoss)
    (i : SlotId) : ¬ HoldEnds s g why i :=
  fun he => h i he.1 he.2.1

/-- The dispatch queues are legal where they are empty, no slot carries legs, and slots 5 and 6 alone may be LIVE. -/
theorem dispatch_of_two {s : State} (hslots : ∀ i, (s.slot i).exchange = none ∧ (s.slot i).legs = []) (hq : ∀ g, s.queue g = [])
    (hlive : ∀ i, (s.slot i).state = .live → i = 5 ∨ i = 6) (h5 : (s.slot 5).arrival = some 1) (h6 : (s.slot 6).arrival = some 0)
    (hlast : s.lastArrival = 1)
    (hmap : ∀ e, (s.map.get e).kind = .pair → (s.map.get e).segA ≠ (s.map.get e).segB) : DispatchLegal s where
  queued := fun g i => by simp [hq g, LegWaits, (hslots i).2]
  ordered := fun g => by simp [hq g]
  legs := fun i => by constructor <;> simp [hslots i]
  arrived := fun i hi => by
    rcases hlive i hi with rfl | rfl
    · exact ⟨1, h5, by omega⟩
    · exact ⟨0, h6, by omega⟩
  inOrder := fun i j hi hj => by
    rcases hlive i hi with rfl | rfl <;> rcases hlive j hj with rfl | rfl <;> simp [h5, h6]
  entries := hmap

/-! ### The step's invariants -/

/-- An ACTIVE segment in GUARD. -/
def guarding : Segment := { segIn .active with phase := .guard, phaseBits := some 8 }

theorem legal_guarding : SegmentLegal guarding := by
  constructor <;> simp [guarding, segIn, Segment.cold, Hold.holder, opsPendingIn]

theorem guardEnd_steps (s : State) (h : (s.seg 3).lineState = .active ∧ (s.seg 3).phase = .guard) (hp : s.pending = [.guardEnd 3]) :
    ∃ t, step s = .next t := by
  rw [step, hp]
  exact ⟨_, if_pos h⟩

theorem witness_StepKeepsIdleTimers : ∃ s, IdleTimersFollow s ∧ ∃ t, step s = .next t :=
  ⟨{ withSeg guarding with pending := [.guardEnd 3] }, follows_of_check _ (by decide), guardEnd_steps _ (by decide) rfl⟩

theorem witness_StepKeepsSegmentRecordsLegal : ∃ s, SegmentsLegal s ∧ ∃ t, step s = .next t :=
  ⟨{ withSeg guarding with pending := [.guardEnd 3] },
    legal_withSeg (s := { State.reset with pending := [.guardEnd 3] }) (by decide) legal_guarding 3,
    guardEnd_steps _ (by decide) rfl⟩

theorem legal_ring_empty (r : Ring) : RingLegal r RequestRing.empty := by
  constructor <;> simp [RequestRing.empty]

theorem legal_adminRing : RingLegal 0 adminRing := by
  constructor <;> simp [adminRing, RequestRing.created]
  constructor <;> simp [aligned64, requestSizes]

theorem legal_workRing : RingLegal 1 workRing := by
  constructor <;> simp [workRing, RequestRing.created]
  constructor <;> simp [aligned64, requestSizes]

theorem rings_ready (r : Ring) : RingLegal r (ready.ring r) := by
  by_cases h0 : r = 0
  · exact h0 ▸ legal_adminRing
  · by_cases h1 : r = 1
    · exact h1 ▸ legal_workRing
    · have : ready.ring r = RequestRing.empty := by
        revert r
        decide
      exact this ▸ legal_ring_empty r

/-- `ready` with one command waiting. -/
def readyWith (c : Instr) : State := { ready with pending := [c] }

theorem ringsLegal_ready (c : Instr) : RingsLegal (readyWith c) :=
  ⟨rings_ready, (by decide : ready.rotPtr ≠ 0), (by decide : ready.grantCount ≤ 15),
    fun f h => absurd (show (none : Option Fetch) = some f from h) nofun⟩

theorem witness_StepKeepsRequestRingsLegal : ∃ s t, RingsLegal s ∧ step s = .next t :=
  ⟨readyWith .fetchGrant, _, ringsLegal_ready _, rfl⟩

theorem legal_cq_empty : CqLegal CompletionRing.empty := by
  constructor <;> simp [CompletionRing.empty, noticesIn]

theorem legal_adminCq : CqLegal adminCq := by
  constructor <;> simp [adminCq, CompletionRing.created, CompletionRing.empty, noticesIn, aligned64, completionSizes]

theorem witness_StepKeepsCompletionRingsLegal : ∃ s t, CqsLegal s ∧ step s = .next t := by
  refine ⟨readyWith .recordWriteRequest, _, fun c => ?_, rfl⟩
  by_cases h0 : c = 0
  · exact h0 ▸ legal_adminCq
  · have : (readyWith .recordWriteRequest).cq c = CompletionRing.empty := by
      revert c
      decide
    exact this ▸ legal_cq_empty

/-- A record write waits for the second of 16 entries, with one still unreleased; ring 0 and completion ring 0 are ACTIVE. -/
theorem witness_StepKeepsCompletionRingsLegal_write :
    let q : CompletionRing := { adminCq with
      producer := 1, unreleased := 1, backlog := [.notice (.cqError 1)], noticesWaiting := 1 }
    let s : State := { ready.setCq 0 q with
      write := some { cq := 0, addr := 0x4010 }, pending := [.recordWriteIssue (pcie true)], arbLast := .ringUnit }
    CqsLegal s ∧ WriteLegal s ∧ ∃ t, step s = .next t := by
  intro q s
  have hw : s.write = some { cq := 0, addr := 0x4010 } := rfl
  refine ⟨fun c => ?_, ⟨fun w h => ?_, by decide, by decide⟩, ⟨_, rfl⟩⟩
  · by_cases h0 : c = 0
    · subst h0
      show CqLegal q
      constructor <;> simp [q, adminCq, CompletionRing.created, CompletionRing.empty, noticesIn, aligned64, completionSizes]
    · have : s.cq c = CompletionRing.empty := by
        revert c
        decide
      exact this ▸ legal_cq_empty
  · obtain rfl := Option.some.inj (hw.symm.trans h)
    exact ⟨rfl, by decide, { base := 0x4000, size := 16, count := 1, delay := 0 }, rfl, by decide, by decide⟩

theorem allocation_ready : AllocationLegal (readyWith .fetchGrant) where
  owned := by decide
  withinCap := by decide
  withinPool := by decide
  adminFirst := by decide
  adminKept := by decide

theorem witness_StepKeepsAllocationWithinBounds : ∃ s t, RingsLegal s ∧ AllocationLegal s ∧ step s = .next t :=
  ⟨readyWith .fetchGrant, _, ringsLegal_ready _, allocation_ready, rfl⟩

theorem witness_AllowanceFindsFreeSlot : ∃ s r, AllocationLegal s ∧ s.hasAllowance r = true :=
  ⟨readyWith .fetchGrant, 1, allocation_ready, by decide⟩

/-- A READ waiting on segment 3, which is in GUARD. -/
def waitingState : State :=
  { (busy (exchanging (readOf (.single 3)) (legOf .waiting none 2)) guarding).setQueue 3 [5] with pending := [.guardEnd 3] }

theorem legal_one_leg (x : Exchange) (l : Leg) (h : ∀ a b, x.target ≠ .pair a b) (hp : l.path = none) :
    LegsLegal (exchanging x l) := by
  constructor
  · simp [exchanging]
  · simp [exchanging]
  · intro y a b hy ht
    simp [exchanging] at hy
    exact absurd ht (hy ▸ h a b)
  · simp [exchanging, hp]
  · simp [exchanging]

theorem dispatch_waiting : DispatchLegal waitingState :=
  dispatch_of_one 5 (by decide) (by decide) (legal_one_leg _ _ (by simp [readOf]) rfl) (by decide) rfl (by decide)

theorem witness_StepKeepsQueuesAndLegsAgreeing : ∃ s, DispatchLegal s ∧ ∃ t, step s = .next t :=
  ⟨waitingState, dispatch_waiting, guardEnd_steps _ (by decide) rfl⟩

theorem segments_waiting : SegmentsLegal waitingState := by
  intro g
  by_cases h : g = 3
  · exact h ▸ legal_guarding
  · have : waitingState.seg g = Segment.cold := by
      revert g
      decide
    exact this ▸ legal_cold

theorem witness_StepKeepsOneFrameForEachLegOnWire :
    ∃ s, SegmentsLegal s ∧ DispatchLegal s ∧ FramesLegal s ∧ ∃ t, step s = .next t := by
  refine ⟨waitingState, segments_waiting, dispatch_waiting, fun g i => ?_, guardEnd_steps _ (by decide) rfl⟩
  have hn : ∀ g, (waitingState.seg g).frame = none := by decide
  have he : ∀ i, i ≠ 5 → waitingState.slot i = Slot.empty := by decide
  constructor
  · rintro ⟨hl, l, hm, -, hw⟩
    by_cases hi : i = 5
    · subst hi
      have : l = legOf .waiting none 2 := List.mem_singleton.1 hm
      subst this
      simp [legOf] at hw
    · rw [he i hi] at hl
      simp [Slot.empty] at hl
  · rintro ⟨f, hf, -⟩
    rw [hn g] at hf
    simp at hf

theorem witness_SlotsMoveAlongTheTable : ∃ c s t, exec c s = .next t := ⟨.fetchGrant, ready, _, rfl⟩

/-! ### Resets and the register window -/

theorem witness_FunctionResetKeepsConfiguration : ready.resetting = none := by decide

/-- Before bring-up, with the admin registers at their reset values (sizes 0, not valid). -/
theorem witness_BringUpChecksAdminRegisters_fault :
    State.reset.resetting = none ∧ State.reset.enable = false ∧ (∀ r, State.reset.ring r = RequestRing.empty) ∧
      (∀ i, (State.reset.slot i).state = .free) ∧ State.reset.adminSizes.toNat % 65536 = 0 := by
  decide

/-- Before bring-up, with valid admin registers: the smallest request ring and the largest completion ring. -/
def beforeBringUp : State := { State.reset with adminSizes := 0x10000010, adminRqBase := 0x40 }

theorem witness_BringUpChecksAdminRegisters_success :
    beforeBringUp.resetting = none ∧ beforeBringUp.enable = false ∧ (∀ r, beforeBringUp.ring r = RequestRing.empty) ∧
      (∀ i, (beforeBringUp.slot i).state = .free) ∧ beforeBringUp.adminRqBase.toNat % 64 = 0 ∧
      beforeBringUp.adminCqBase.toNat % 64 = 0 ∧ beforeBringUp.adminSizes.toNat % 65536 = 16 ∧
      beforeBringUp.adminSizes.toNat / 65536 = 4096 := by
  decide

theorem witness_EnableSwitchesGrantsOnly : ready.resetting = none ∧ (ready.ring 0).state ≠ .unconfigured := by decide

/-- The last index that is taken and the first that is ignored, and a ring that is not configured. -/
theorem witness_RqPostSetsProducerIndex :
    ready.resetting = none ∧ (ready.ring 1).config = some (configOf 1) ∧ (15 : Word).toNat % 65536 < (configOf 1).size ∧
      ¬ (16 : Word).toNat % 65536 < (configOf 1).size ∧ (ready.ring 2).state = .unconfigured ∧
      (ready.ring 1).state ≠ .unconfigured ∧ (configOf 1).size ≤ 1024 ∧ (ready.ring 1).consumer < (configOf 1).size ∧
      (15 : Word).toNat % 65536 = ((ready.ring 1).consumer + 15) % (configOf 1).size := by
  decide

/-- A completion ring with three unreleased entries, producer index 3, two entries since its last message, a notice waiting. -/
def releasingCq : CompletionRing :=
  { adminCq with
    producer := 3, unreleased := 3, sinceMessage := 2, armed := false, backlog := [.notice (.cqError 1)], noticesWaiting := 1
    config := some { base := 0x4000, size := 16, count := 4, delay := 100 } }

def releasing : State := ready.setCq 0 releasingCq

/-- The same ring full, all its 16 entries unreleased. -/
def fullCq : CompletionRing := { releasingCq with release := 3, unreleased := 16 }

theorem cqsLegal_setCq (q : CompletionRing) (h : CqLegal q) : CqsLegal (ready.setCq 0 q) := by
  have rest : ∀ c : Cq, c ≠ 0 → ready.cq c = CompletionRing.empty := by decide
  intro c
  by_cases h0 : c = 0
  · rw [h0, State.cq_setCq_self]
    exact h
  · rw [State.cq_setCq_of_ne _ _ _ _ (Ne.symm h0), rest c h0]
    exact legal_cq_empty

theorem witness_CqRelease_indices :
    CqsLegal releasing ∧ CqsLegal (ready.setCq 0 fullCq) ∧ fullCq.unreleased = 16 ∧ fullCq.state = .active ∧
      (ready.cq 1).state ≠ .active ∧ releasingCq.state = .active ∧ releasingCq.backlog ≠ [] := by
  refine ⟨cqsLegal_setCq _ ?_, cqsLegal_setCq _ ?_, by decide⟩ <;>
    constructor <;> simp [fullCq, releasingCq, adminCq, CompletionRing.created, CompletionRing.empty, noticesIn, aligned64,
      completionSizes]

/-- A value of 2 releases fewer entries than are unreleased, 3 releases all, 4 none. -/
theorem witness_CqReleaseFreesEntriesAndRearms :
    releasing.resetting = none ∧
      (releasing.cq 0).config = some { base := 0x4000, size := 16, count := 4, delay := 100 } ∧
      (2 + 16 - (releasing.cq 0).release) % 16 < (releasing.cq 0).unreleased ∧ (releasing.cq 0).producer = 3 ∧
      (releasing.cq 0).unreleased ≤ (4 + 16 - (releasing.cq 0).release) % 16 := by
  decide

theorem witness_RegisterWritesByWidthAndOffset :
    State.reset.resetting = none ∧ (State.reset.enable = false ∧ (State.reset.ring 0).state = .unconfigured) ∧
      ready.resetting = none ∧ ¬ (ready.enable = false ∧ (ready.ring 0).state = .unconfigured) ∧
      (0x120 ∉ [0x000, 0x010, 0x014, 0x018, 0x01C, 0x020] ∧ (∀ r : Ring, 0x120 ≠ 0x100 + 4 * r.val) ∧
        ∀ c : Cq, 0x120 ≠ 0x200 + 4 * c.val) ∧ (2 : BitVec 64).getLsbD 1 = true := by
  decide

theorem witness_RegisterReadsReflectState :
    ready.resetting = none ∧ 0x210 ∉ [0x000, 0x004, 0x010, 0x014, 0x018, 0x01C, 0x020] ∧
      (∀ r : Ring, 0x210 ≠ 0x100 + 4 * r.val) ∧ (∀ c : Cq, 0x210 ≠ 0x200 + 4 * c.val) ∧ 0x020 % 4 = 0 ∧ 3 + 1 ≤ 4 ∧ 0 + 4 ≤ 4 := by
  decide

/-! ### Fetching -/

/-- Ring 0 and ring 1 eligible, slot 0 FREE: the grant is ring 0's. -/
theorem witness_FetchGrantChoosesRingAndSlot_admin :
    ready.fetch = none ∧ ready.eligible 0 = true ∧ (ready.ring 0).config = some (configOf 0) ∧ (ready.slot 0).state = .free ∧
      ∀ j : SlotId, j < 0 → (ready.slot j).state ≠ .free := by
  decide

/-- Nothing posted on ring 0; ring 1 has the pointer, and one of its two grants is left. -/
def oneLeft : State := { ready.setRing 0 { adminRing with producer := 0 } with grantCount := 1 }

theorem witness_FetchGrantChoosesRingAndSlot_run :
    oneLeft.fetch = none ∧ oneLeft.eligible 1 = true ∧ (oneLeft.ring 1).config = some (configOf 1) ∧
      (oneLeft.slot 0).state = .free ∧ (∀ j : SlotId, j < 0 → (oneLeft.slot j).state ≠ .free) ∧ oneLeft.eligible 0 = false ∧
      (1 : Ring) = oneLeft.rotPtr ∧ (configOf 1).weight = some 2 ∧ oneLeft.grantCount < 2 := by
  decide

/-- Ring 1 has the pointer and its run is over: it comes last in the cycle, and no other ring is eligible. -/
def runOver : State := { oneLeft with grantCount := 2 }

theorem witness_FetchGrantChoosesRingAndSlot_next :
    runOver.fetch = none ∧ runOver.eligible 1 = true ∧ (runOver.ring 1).config = some (configOf 1) ∧
      (runOver.slot 0).state = .free ∧ (∀ j : SlotId, j < 0 → (runOver.slot j).state ≠ .free) ∧ runOver.eligible 0 = false ∧
      runOver.rotPtr ≠ 0 ∧
      ¬ (runOver.eligible runOver.rotPtr = true ∧
        ∃ c w, (runOver.ring runOver.rotPtr).config = some c ∧ c.weight = some w ∧ runOver.grantCount < w) ∧
      (1 : Ring) ≠ 0 ∧ (∀ q : Ring, q ≠ 0 → (q.val + 7 - runOver.rotPtr.val - 1) % 7 < ((1 : Ring).val + 7 - runOver.rotPtr.val - 1) % 7 →
        runOver.eligible q = false) := by
  refine ⟨by decide, by decide, by decide, by decide, by decide, by decide, by decide, ?_, by decide, by decide⟩
  rintro ⟨-, c, w, hc, hw, hlt⟩
  have h1 : (runOver.ring runOver.rotPtr).config = some (configOf 1) := by decide
  rw [h1] at hc
  obtain rfl := Option.some.inj hc
  have h2 : (configOf 1).weight = some 2 := by decide
  rw [h2] at hw
  obtain rfl := Option.some.inj hw
  exact absurd hlt (by decide)

/-- A fetch in flight; and no ring eligible, grants being disabled. -/
theorem witness_FetchGrantChoosesRingAndSlot_nothing :
    (fetching ready 1).fetch ≠ none ∧ ∀ r, ({ ready with enable := false } : State).eligible r = false := by
  decide

/-- A read that waits for the arbiter. -/
def readWaiting (last : Side) : State :=
  { ready with fetch := some (fetchOf 1), read := .waiting 0x2000, write := some { cq := 0, addr := 0x4000 }, arbLast := last }

theorem witness_ReadIssueFollowsArbiter :
    (readWaiting .completionWriter).read = .waiting 0x2000 ∧ (readWaiting .completionWriter).fetch = some (fetchOf 1) ∧
      (readWaiting .completionWriter).arbLast = .completionWriter ∧
      (readWaiting .ringUnit).read = .waiting 0x2000 ∧ (readWaiting .ringUnit).fetch = some (fetchOf 1) ∧
      (readWaiting .ringUnit).write ≠ none ∧ (readWaiting .ringUnit).arbLast ≠ .completionWriter ∧
      (pcie true).busMaster = true ∧ (pcie false).busMaster = false := by
  decide

/-- A held message keeps a read back once its number is unmasked, and does not while it is masked (R168). -/
theorem witness_ReadIssueFollowsArbiter_held :
    let s := { readWaiting .ringUnit with write := none, msgHeld := #v[none, none, none, some 3] }
    let masked : PcieConfig := { pcie true with mask := 8 }
    (s.read = .waiting 0x2000 ∧ s.fetch = some (fetchOf 1)) ∧
      ¬ (∀ c : Cq, s.msgPending.get c = false ∧ (s.msgHeld.get c ≠ none → (pcie true).mask.getLsbD c.val = true)) ∧
      ∀ c : Cq, s.msgPending.get c = false ∧ (s.msgHeld.get c ≠ none → masked.mask.getLsbD c.val = true) := by
  decide

/-- The fetch of ring 1, marked for discard. -/
def discarding : State := { fetching ready 1 with fetch := some { fetchOf 1 with discard := true } }

theorem witness_FetchesEndWithoutRecord :
    ((∃ a timer, (fetching ready 1).read = .outstanding a timer) ∧ (fetching ready 1).fetch = some (fetchOf 1) ∧
      ((fetching ready 1).slot 0).state = .fetching ∧ (fetchOf 1).discard = false) ∧
    (∃ a timer, discarding.read = .outstanding a timer) ∧ discarding.fetch = some { fetchOf 1 with discard := true } ∧
      (discarding.slot 0).state = .fetching :=
  ⟨⟨⟨_, _, rfl⟩, rfl, by decide, rfl⟩, ⟨_, _, rfl⟩, rfl, by decide⟩

/-- A withdrawn record: ring 1's producer index set back to its consumer index. -/
theorem witness_FetchesEndWithoutRecord_withdrawn :
    let s := (fetching ready 1).setRing 1 { workRing with producer := 0 }
    s.fetch = some (fetchOf 1) ∧ (s.slot 0).state = .fetching ∧ (s.ring 1).pendingCount = 0 := by
  decide

/-! ### Arrivals

`arriving_admin`, `follows_admin` (ring 0) and `arriving_work`, `follows_work` (ring 1) are the hypotheses about the fetch; each
theorem below adds the hypotheses about the record. -/

/-- A request with tag 0120h, for node 0100h. -/
def request (kind flags length : Byte) (args : List Byte) : Record :=
  recordOf ([kind, flags, 0x20, 0x01, 0x00, 0x01, length, 0, 0, 0, 0, 0, 0, 0, 0, 0] ++ args)

/-- A record of each form that fails with BAD_REQUEST: a kind the table lacks, an admin kind on ring 1, an exchange on ring 0, a
reserved byte that is not zero, a length of 9, and bit 6 of byte 1. -/
theorem witness_RefusedRecordIsAnswered_badRequest :
    Arriving (fetching ready 1) (fetchOf 1) (configOf 1) ∧ IdleTimersFollow (fetching ready 1) ∧
    Arriving (fetching ready 0) (fetchOf 0) (configOf 0) ∧ IdleTimersFollow (fetching ready 0) ∧
      kindOf (request 0x03 0 0 []) = none ∧
      (kindOf (request 0x48 0 0 []) = some .setLimits ∧ (fetchOf 1).ring ≠ 0) ∧
      (kindOf (request 0x01 0 0 []) = some .read ∧ (fetchOf 0).ring = 0) ∧
      (recordOf [0x01, 0, 0, 0, 0, 0, 0, 1])[7] ≠ 0 ∧
      (kindOf (request 0x01 0 9 []) = some .read ∧ 8 < (request 0x01 0 9 [])[6].toNat) ∧
      (kindOf (request 0x02 0x40 8 []) = some .write ∧ 64 ≤ (request 0x02 0x40 8 [])[1].toNat) :=
  ⟨arriving_work, follows_work, arriving_admin, follows_admin, by decide⟩

/-- The reset map matches no node address. -/
theorem witness_RefusedRecordIsAnswered_noEntry :
    (fetchOf 1).ring ≠ 0 ∧ (request 0x01 0x3F 8 [])[7] = 0 ∧ (request 0x01 0x3F 8 [])[6].toNat ≤ 8 ∧
      (request 0x01 0x3F 8 [])[1].toNat < 64 ∧ kindOf (request 0x01 0x3F 8 []) = some .read ∧
      ∀ e : EntryId, ¬ (((fetching ready 1).map.get e).valid = true ∧
        ((fetching ready 1).map.get e).first.toNat ≤ (nodeOf (request 0x01 0x3F 8 [])).toNat ∧
        (nodeOf (request 0x01 0x3F 8 [])).toNat ≤ ((fetching ready 1).map.get e).last.toNat) := by
  decide

/-- The ready state with map entry 0 replaced and segment 3 in a line state, a record of ring 1 about to arrive. -/
def mapped (e : MapEntry) (l : LineState) : State :=
  { (fetching ready 1).setSeg 3 (segIn l) with map := State.reset.map.set 0 e, lastArrival := 1 }

/-- A SINGLE entry for the node address 0100h alone, on segment 3. -/
def single (readOk writeOk : Bool) : MapEntry :=
  { MapEntry.empty with valid := true, first := 0x0100, last := 0x0100, segA := 3, idBase := 63, readOk := readOk, writeOk := writeOk }

theorem arriving_mapped (e : MapEntry) (l : LineState) : Arriving (mapped e l) (fetchOf 1) (configOf 1) :=
  arriving_of_check _ _ (by decide : (fetching ready 1).slot 0 = _) rfl rfl (by decide : ((fetching ready 1).ring 1).pendingCount ≠ 0)
    (by decide : ((fetching ready 1).ring 1).config = _) (by decide : ((fetching ready 1).ring 1).consumer < _)

theorem follows_mapped (e : MapEntry) (l : LineState) : IdleTimersFollow (mapped e l) := by
  intro g
  have h : ∀ g, ((mapped e l).seg g).idleTimer = .stopped ∧ ((mapped e l).seg g).config.idleToDormant = 0 := by
    intro g
    show (((fetching ready 1).setSeg 3 (segIn l)).seg g).idleTimer = _ ∧ _
    have hs : ∀ g, (fetching ready 1).seg g = Segment.cold := by decide
    have hm : (mapped e l).seg g = ((fetching ready 1).setSeg 3 (segIn l)).seg g := rfl
    rw [hm, State.seg_setSeg]
    split
    · exact ⟨rfl, rfl⟩
    · rw [hs g]; exact ⟨rfl, rfl⟩
  simp [h g]

/-- The first matching entry does not allow the kind. -/
theorem witness_RefusedRecordIsAnswered_notAllowed :
    let s := mapped (single false true) .active
    let record := request 0x01 0 8 []
    Arriving s (fetchOf 1) (configOf 1) ∧ IdleTimersFollow s ∧ kindOf record = some .read ∧
      (s.map.get 0).valid = true ∧ (s.map.get 0).first.toNat ≤ (nodeOf record).toNat ∧
      (nodeOf record).toNat ≤ (s.map.get 0).last.toNat ∧ (s.map.get 0).readOk = false :=
  ⟨arriving_mapped _ _, follows_mapped _ _, by decide⟩

/-- A WRITE of 8 bytes through a SINGLE entry, at the highest confirmed identifier. -/
theorem witness_SingleExchangeIsAccepted :
    let s := mapped (single true true) .active
    let record := request 0x02 0x3F 8 []
    (Arriving s (fetchOf 1) (configOf 1) ∧ IdleTimersFollow s ∧ DispatchLegal s ∧ SegmentsLegal s) ∧ (fetchOf 1).ring ≠ 0 ∧
      kindOf record = some .write ∧ record[7] = 0 ∧ record[6].toNat ≤ 8 ∧ record[1].toNat < 64 ∧
      (s.map.get 0).valid = true ∧ (s.map.get 0).first.toNat ≤ (nodeOf record).toNat ∧
      (nodeOf record).toNat ≤ (s.map.get 0).last.toNat ∧
      (∀ d : EntryId, d < 0 → ¬ ((s.map.get d).valid = true ∧ (s.map.get d).first.toNat ≤ (nodeOf record).toNat ∧
        (nodeOf record).toNat ≤ (s.map.get d).last.toNat)) ∧
      (s.map.get 0).kind = .single ∧ (s.map.get 0).readOk = true ∧ (s.map.get 0).writeOk = true ∧
      (s.seg (s.map.get 0).segA).lineState ∈ [.syncing, .active, .dormant, .waking] := by
  refine ⟨⟨arriving_mapped _ _, follows_mapped _ _, ?_, ?_⟩, by decide⟩
  · have hd : DispatchLegal { fetching ready 1 with lastArrival := 1 } :=
      dispatch_of_one 0 (by decide) (by decide)
        (by constructor <;> simp [show State.slot { fetching ready 1 with lastArrival := 1 } 0
              = { Slot.empty with state := .fetching, ring := some 1 } by decide, Slot.empty]) (by decide) rfl (by decide)
    refine { queued := hd.queued, ordered := hd.ordered, legs := hd.legs, arrived := hd.arrived, inOrder := hd.inOrder, entries := ?_ }
    have : ∀ e, ((mapped (single true true) .active).map.get e).kind ≠ .pair := by decide
    exact fun e h => absurd h (this e)
  · intro g
    have hm : (mapped (single true true) .active).seg g = ((fetching ready 1).setSeg 3 (segIn .active)).seg g := rfl
    rw [hm]
    refine legal_withSeg (by decide) ?_ 3 g
    constructor <;> simp [segIn, Segment.cold, Hold.holder, opsPendingIn]

/-- A PAIR entry on segments 3 and 4, and a FAN entry on them, for the node address 0100h alone. -/
def pairEntry : MapEntry := { single true true with kind := .pair, segB := 4 }

def fanEntry : MapEntry := { single true true with kind := .fan, segA := 0, fanMask := 0x18 }

theorem witness_RefusedRecordIsAnswered_noPath :
    (∀ l ∈ [LineState.off, .faulted .stuck], Arriving (mapped (single true true) l) (fetchOf 1) (configOf 1) ∧
      IdleTimersFollow (mapped (single true true) l) ∧ ((mapped (single true true) l).seg 3).lineState = l) ∧
    Arriving (mapped pairEntry .off) (fetchOf 1) (configOf 1) ∧ IdleTimersFollow (mapped pairEntry .off) ∧
    let record := request 0x02 0x3F 8 []
    (fetchOf 1).ring ≠ 0 ∧ kindOf record = some .write ∧ record[7] = 0 ∧ record[6].toNat ≤ 8 ∧ record[1].toNat < 64 ∧
      ∀ e ∈ [single true true, pairEntry], Matches (mapped e .off) 0 (nodeOf record) ∧
        ((mapped e .off).map.get 0).writeOk = true ∧ ((mapped pairEntry .off).seg 3).lineState = .off ∧
        ((mapped pairEntry .off).seg 4).lineState = .off := by
  refine ⟨fun l hl => ⟨arriving_mapped _ _, follows_mapped _ _, ?_⟩, arriving_mapped _ _, follows_mapped _ _, by unfold Matches; decide⟩
  revert l
  decide

theorem dispatch_mapped {e : MapEntry} (he : e.kind = .pair → e.segA ≠ e.segB) (l : LineState) : DispatchLegal (mapped e l) := by
  have hd : DispatchLegal { fetching ready 1 with lastArrival := 1 } :=
    dispatch_of_one 0 (by decide) (by decide)
      (by constructor <;> simp [show State.slot { fetching ready 1 with lastArrival := 1 } 0
            = { Slot.empty with state := .fetching, ring := some 1 } by decide, Slot.empty]) (by decide) rfl (by decide)
  refine { queued := hd.queued, ordered := hd.ordered, legs := hd.legs, arrived := hd.arrived, inOrder := hd.inOrder, entries := ?_ }
  intro k
  show ((State.reset.map.set 0 e).get k).kind = _ → ((State.reset.map.set 0 e).get k).segA ≠ ((State.reset.map.set 0 e).get k).segB
  have hm : State.reset.map = Vector.replicate 32 MapEntry.empty := rfl
  by_cases h : k = 0
  · subst h
    simpa [hm, Vector.get_eq_getElem] using he
  · rw [hm]
    simp [Vector.get_eq_getElem, show ¬ 0 = k.val from fun h0 => h (Fin.ext h0.symm), MapEntry.empty]

theorem segments_mapped (e : MapEntry) {l : LineState} (h : l = .off ∨ l = .active ∨ l = .dormant) : SegmentsLegal (mapped e l) := by
  intro g
  have hm : (mapped e l).seg g = ((fetching ready 1).setSeg 3 (segIn l)).seg g := rfl
  rw [hm]
  refine legal_withSeg (by decide) ?_ 3 g
  rcases h with rfl | rfl | rfl <;> constructor <;> simp [segIn, Segment.cold, Hold.holder, opsPendingIn]

/-- A WRITE to a PAIR with its primary usable; to a FAN with one leg WAITING and one FINISHED; to a FAN with none WAITING. -/
theorem witness_SingleExchangeIsAccepted_pairAndFan :
    ∀ e ∈ [pairEntry, fanEntry], ∀ l ∈ [LineState.active, .off],
    let s := mapped e l
    let record := request 0x02 0x3F 8 []
    (Arriving s (fetchOf 1) (configOf 1) ∧ IdleTimersFollow s ∧ DispatchLegal s ∧ SegmentsLegal s) ∧ (fetchOf 1).ring ≠ 0 ∧
      kindOf record = some .write ∧ record[7] = 0 ∧ record[6].toNat ≤ 8 ∧ record[1].toNat < 64 ∧
      Matches s 0 (nodeOf record) ∧ (s.map.get 0).writeOk = true ∧ (s.map.get 0).kind = e.kind ∧ (s.seg 3).lineState = l ∧
      (s.seg 4).lineState = .off := by
  intro e he l hl
  refine ⟨⟨arriving_mapped _ _, follows_mapped _ _, dispatch_mapped ?_ _, segments_mapped _ ?_⟩, ?_⟩
  · revert e
    decide
  · revert l
    simp
  · unfold Matches
    revert l e
    decide

/-- hold_limit 0 and 1. -/
theorem witness_SetLimitsWritesFiveValues :
    (Arriving (fetching ready 0) (fetchOf 0) (configOf 0) ∧ IdleTimersFollow (fetching ready 0)) ∧ (fetchOf 0).ring = 0 ∧
      ∀ h ∈ [0x00, 0x01], kindOf (request 0x48 0 0 [1, 0, 2, 0, 3, 0, 4, 0, h]) = some .setLimits ∧
        (request 0x48 0 0 [1, 0, 2, 0, 3, 0, 4, 0, h])[7] = 0 ∧
        argsOf .setLimits (request 0x48 0 0 [1, 0, 2, 0, 3, 0, 4, 0, h]) =
          some (.setLimits { class0 := 1, class1 := 2, class2 := 3, class3 := 4, holdLimit := le16 h 0 }) :=
  ⟨⟨arriving_admin, follows_admin⟩, by decide⟩

/-- Entry 31 takes a FAN of one segment with the last identifier 119; entry 32 does not exist. -/
theorem witness_MapWriteReplacesEntry :
    (Arriving (fetching ready 0) (fetchOf 0) (configOf 0) ∧ IdleTimersFollow (fetching ready 0)) ∧ (fetchOf 0).ring = 0 ∧
      ∀ entry ∈ [31, 32], kindOf (request 0x40 0 0 [entry, 5, 2, 0, 0, 8, 119, 0, 0, 1, 0, 1]) = some .mapWrite ∧
        (request 0x40 0 0 [entry, 5, 2, 0, 0, 8, 119, 0, 0, 1, 0, 1])[7] = 0 ∧
        argsOf .mapWrite (request 0x40 0 0 [entry, 5, 2, 0, 0, 8, 119, 0, 0, 1, 0, 1]) = some (.mapWrite {
          entry := entry, flags := 5, kind := 2, segA := 0, segB := 0, fanMask := 8, idBase := 119, first := 0x100, last := 0x100 }) :=
  ⟨⟨arriving_admin, follows_admin⟩, by decide⟩

/-- MAP_READ of entries 31 and 32, SEGMENT_QUERY of segments 7 and 8. -/
theorem witness_ReadRequestsReturnEightBytes :
    (Arriving (fetching ready 0) (fetchOf 0) (configOf 0) ∧ IdleTimersFollow (fetching ready 0)) ∧ (fetchOf 0).ring = 0 ∧
      (∀ entry ∈ [31, 32], kindOf (request 0x41 0 0 [entry, 1]) = some .mapRead ∧ (request 0x41 0 0 [entry, 1])[7] = 0 ∧
        argsOf .mapRead (request 0x41 0 0 [entry, 1]) = some (.mapRead entry 1)) ∧
      ∀ g ∈ [7, 8], kindOf (request 0x36 0 0 [g, 0, 3, 1]) = some .segQuery ∧ (request 0x36 0 0 [g, 0, 3, 1])[7] = 0 ∧
        argsOf .segQuery (request 0x36 0 0 [g, 0, 3, 1]) = some (.segQuery { seg := g, first := 0, second := 3, clear := 1 }) :=
  ⟨⟨arriving_admin, follows_admin⟩, by decide⟩

/-- Rings 7 and 8 with the largest size, weight, reserve and cap. -/
theorem witness_RingCreateChecksInOrder :
    (Arriving (fetching ready 0) (fetchOf 0) (configOf 0) ∧ IdleTimersFollow (fetching ready 0)) ∧ (fetchOf 0).ring = 0 ∧
      ∀ r ∈ [7, 8], kindOf (request 0x20 0 0 [r, 0, 15, 16, 64, 0, 0, 4, 64]) = some .ringCreate ∧
        (request 0x20 0 0 [r, 0, 15, 16, 64, 0, 0, 4, 64])[7] = 0 ∧
        argsOf .ringCreate (request 0x20 0 0 [r, 0, 15, 16, 64, 0, 0, 4, 64]) = some (.ringCreate {
          ring := r, cq := 0, weight := 15, reserve := 16, cap := 64, size := 1024, base := 64 }) :=
  ⟨⟨arriving_admin, follows_admin⟩, by decide⟩

/-- Completion rings 3 and 4 with the largest size, count and delay. -/
theorem witness_RingCreateChecksInOrder_completion :
    ∀ c ∈ [3, 4], kindOf (request 0x22 0 0 [c, 255, 255, 255, 0, 16, 0, 0, 64]) = some .cqCreate ∧
      (request 0x22 0 0 [c, 255, 255, 255, 0, 16, 0, 0, 64])[7] = 0 ∧
      argsOf .cqCreate (request 0x22 0 0 [c, 255, 255, 255, 0, 16, 0, 0, 64]) = some (.cqCreate {
        cq := c, count := 255, delay := 65535, size := 4096, base := 64 }) := by
  decide

/-- Segments 7 and 8 with the smallest bit time, window base, window byte, guard and settle time. -/
theorem witness_SegmentConfigReplacesAllFields :
    (Arriving (fetching ready 0) (fetchOf 0) (configOf 0) ∧ IdleTimersFollow (fetching ready 0)) ∧ (fetchOf 0).ring = 0 ∧
      ∀ g ∈ [7, 8], kindOf (request 0x30 0 0 [g, 4, 10, 4, 200, 0, 0, 0, 1, 1, 3]) = some .segConfig ∧
        (request 0x30 0 0 [g, 4, 10, 4, 200, 0, 0, 0, 1, 1, 3])[7] = 0 ∧
        argsOf .segConfig (request 0x30 0 0 [g, 4, 10, 4, 200, 0, 0, 0, 1, 1, 3]) = some (.segConfig {
          seg := g, wbase := 4, wbyte := 10, guard := 4, bitTicks := 200, idleToDormant := 0, wakeSettle := 1, wakeOnDemand := 1
          noticeCq := 3 }) :=
  ⟨⟨arriving_admin, follows_admin⟩, by decide⟩

/-- Segment 7, which is not configured, and segment 3, which is. -/
theorem witness_SegmentStartEntersSyncing :
    let s := (fetching ready 0).setSeg 3 (segIn .off)
    (Arriving s (fetchOf 0) (configOf 0) ∧ IdleTimersFollow s) ∧ (fetchOf 0).ring = 0 ∧
      (∀ b ∈ [3, 7], kindOf (request 0x31 0 0 [b]) = some .segStart ∧ (request 0x31 0 0 [b])[7] = 0 ∧
        argsOf .segStart (request 0x31 0 0 [b]) = some (.segStart b) ∧ b.toNat ≤ 7) ∧
      (s.seg 3).lineState = .off ∧ (s.seg 3).configured = true ∧ (s.seg 7).configured = false :=
  ⟨⟨arriving_of_check _ _ (by decide) rfl rfl (by decide) (by decide) (by decide), follows_of_check _ (by decide)⟩, by decide⟩

/-- A record of ring `r` about to arrive, slot 5 and segment 3 with its queue replaced. -/
def acting (r : Ring) (x : Segment) (y : Slot) (q : List SlotId) : State :=
  { (((fetching ready r).setSlot 5 y).setSeg 3 x).setQueue 3 q with lastArrival := 1 }

/-- The hypotheses about the fetch, by evaluation. -/
theorem acting_arrives (r : Ring) (hr : r = 0 ∨ r = 1) (x : Segment) (y : Slot) (q : List SlotId)
    (h : x.config.idleToDormant = 0 ∧ x.idleTimer = .stopped) :
    Arriving (acting r x y q) (fetchOf r) (configOf r) ∧ IdleTimersFollow (acting r x y q) := by
  have hs : (acting r x y q).slot 0 = { Slot.empty with state := .fetching, ring := some r } := by
    show (((fetching ready r).setSlot 5 y)).slot 0 = _
    rw [State.slot_setSlot_of_ne _ _ _ _ (by decide)]
    rcases hr with rfl | rfl <;> decide
  have hring : (acting r x y q).ring r = ready.ring r := rfl
  refine ⟨arriving_of_check _ _ hs rfl rfl ?_ ?_ ?_, ?_⟩
  · rw [hring]
    rcases hr with rfl | rfl <;> decide
  · rw [hring]
    rcases hr with rfl | rfl <;> decide
  · rw [hring]
    rcases hr with rfl | rfl <;> decide
  · intro g
    have hseg : (acting r x y q).seg g = (ready.setSeg 3 x).seg g := rfl
    have hc : ∀ g, ready.seg g = Segment.cold := by decide
    rw [hseg, State.seg_setSeg]
    split
    · simp [h.1, h.2]
    · simp [hc g, Segment.cold, SegConfig.default]

/-- Slot 5's leg waits on segment 3, or is ON_WIRE there. -/
theorem acting_dispatch (r : Ring) (hr : r = 0 ∨ r = 1) (x : Segment) (l : LegState) :
    DispatchLegal (acting r x (exchanging (readOf (.single 3)) (legOf l none 2)) (if l = .waiting then [5] else [])) := by
  have h5 : ∀ q, (acting r x (exchanging (readOf (.single 3)) (legOf l none 2)) q).slot 5
      = exchanging (readOf (.single 3)) (legOf l none 2) := fun q => by
    show (((fetching ready r).setSlot 5 _)).slot 5 = _
    rw [State.slot_setSlot_self]
  refine dispatch_of_one 5 ?_ ?_ ?_ ?_ rfl (by decide : ∀ e, (State.reset.map.get e).kind = .pair →
    (State.reset.map.get e).segA ≠ (State.reset.map.get e).segB)
  · intro j hj
    show unused ((((fetching ready r).setSlot 5 _)).slot j) = true
    rw [State.slot_setSlot_of_ne _ _ _ _ (Ne.symm hj)]
    revert j
    rcases hr with rfl | rfl <;> decide
  · intro g
    rw [h5]
    show (State.setQueue (fetching ready r) 3 _).queue g = _
    rw [State.queue_setQueue]
    have hq : ∀ g, (fetching ready r).queue g = [] := by rcases hr with rfl | rfl <;> decide
    cases l <;> by_cases hg : 3 = g <;> simp [hg, hq, exchanging, legOf]
  · rw [h5]
    exact legal_one_leg _ _ (by simp [readOf]) rfl
  · rw [h5]
    simp [exchanging]

/-- SEGMENT_STOP of segment 3, a leg waiting: OFF, FAULTED, ACTIVE in IDLE and in a frame, DORMANT, WAKING; with an operation
pending. SEGMENT_RESET of it likewise. -/
theorem witness_SegmentStartEntersSyncing_stopAndReset :
    (∀ x ∈ [segIn .off, segIn (.faulted .stuck), segIn .active, framing .ackWait (some 24) writeFrame, segIn .dormant,
        segIn .waking, { segIn .waking with pendingOp := some { op := .wake, slot := 6 } }],
      let s := acting 0 x (exchanging (readOf (.single 3)) (legOf .waiting none 2)) [5]
      (Arriving s (fetchOf 0) (configOf 0) ∧ IdleTimersFollow s) ∧ DispatchLegal s ∧ s.seg 3 = x) ∧
    ∀ k ∈ [(0x32, Kind.segStop, OpArgs.segStop 3), (0x33, .segReset, .segReset 3)],
      kindOf (request k.1 0 0 [3]) = some k.2.1 ∧ (request k.1 0 0 [3])[7] = 0 ∧
        argsOf k.2.1 (request k.1 0 0 [3]) = some k.2.2 := by
  refine ⟨fun x hx => ⟨acting_arrives 0 (.inl rfl) _ _ _ ?_, acting_dispatch 0 (.inl rfl) x .waiting, ?_⟩, by decide⟩
  · revert x
    decide
  · show (State.setSeg _ 3 x).seg 3 = x
    rw [State.seg_setSeg_self]

/-- A SEGMENT_RESET of a segment with its leg ON_WIRE, and of one with a LIVE WAKE pending; a segment number of 8. -/
theorem witness_SegmentStartEntersSyncing_reset :
    (let s := acting 0 (framing .ackWait (some 24) writeFrame) (exchanging (readOf (.single 3)) (legOf .onWire none 2)) []
     (Arriving s (fetchOf 0) (configOf 0) ∧ IdleTimersFollow s) ∧ DispatchLegal s ∧ (s.slot 5).legs = [legOf .onWire none 2] ∧
        (s.slot 5).state = .live ∧ (s.slot 5).exchange = some (readOf (.single 3)) ∧ (s.slot 5).cq = some 0 ∧
        writeFrame.carrier = .exchange 5) ∧
    (let s := acting 0 { segIn .waking with pendingOp := some { op := .wake, slot := 5 } } (requesting 0 .segWake (.segWake 3)) []
     (Arriving s (fetchOf 0) (configOf 0) ∧ IdleTimersFollow s) ∧ (s.slot 5).state = .live ∧ (s.slot 5).exchange = none ∧
        (s.slot 5).kind ≠ some .hold ∧ (s.slot 5).cq = some 0) ∧
    (7 < (8 : Byte).toNat ∧ kindOf (request 0x34 0 0 [8]) = some .segSleep ∧ (request 0x34 0 0 [8])[7] = 0 ∧
      argsOf .segSleep (request 0x34 0 0 [8]) = some (.segSleep 8)) :=
  ⟨⟨acting_arrives 0 (.inl rfl) _ _ _ (by decide), acting_dispatch 0 (.inl rfl) _ .onWire, by decide⟩,
    ⟨acting_arrives 0 (.inl rfl) _ _ _ (by decide), by decide⟩, by decide⟩

/-- A SEGMENT_STOP that acts at once, or a SEGMENT_RESET, with nothing to displace, end or lose. -/
theorem witness_SegmentStartEntersSyncing_plain :
    let s := acting 0 (segIn .active) Slot.empty []
    (Arriving s (fetchOf 0) (configOf 0) ∧ IdleTimersFollow s) ∧ DispatchLegal s ∧ s.queue 3 = [] ∧ (s.seg 3).hold = .none ∧
      (s.seg 3).pendingOp = none ∧ (s.seg 3).frame = none ∧
      ∀ why i, ¬ HoldEnds (s.consumed (fetchOf 0) (configOf 0).size false) 3 why i :=
  ⟨acting_arrives 0 (.inl rfl) _ _ _ (by decide),
    dispatch_of_one 5 (by decide) (by decide) (by exact legal_legs_empty) (by decide) rfl (by decide), by decide, by decide, by decide,
    by decide, fun _ _ => no_holdEnds (by decide) _ _ _⟩

/-- A LIVE HOLD of segments 3 and 4 by ring 1, with its own set. -/
def liveHold (own : SegSet) : Slot :=
  { requesting 1 .hold (.hold 0x18) with progress := some (.hold { own := own, granted := 0x08 }) }

theorem legal_liveHold (own : SegSet) : LegsLegal (liveHold own) := by
  constructor <;> simp [liveHold, requesting, Slot.empty]

/-- A SEGMENT_STOP or SEGMENT_RESET of segment 3 while ring 1 holds it or it is DRAINING for slot 5's HOLD: in the HOLD's own set, or
held before it. -/
theorem witness_HoldLost_requests : ∀ own ∈ [(0x18 : SegSet), 0x10], ∀ h ∈ [Hold.held 1 5, .draining 1 5, .none],
    let s := acting 0 { segIn .active with hold := h } (liveHold own) []
    let u := s.consumed (fetchOf 0) (configOf 0).size false
    (Arriving s (fetchOf 0) (configOf 0) ∧ IdleTimersFollow s) ∧ DispatchLegal s ∧ HoldEnds u 3 .stopped 5 ∧ HoldEnds u 3 .reset 5 ∧
      (u.slot 5).exchange = none ∧ (u.slot 5).cq = some 0 ∧ (u.slot 5).ring = some 1 ∧ (u.seg 3).hold = h ∧
      (u.ring 1).config = some (configOf 1) ∧ (configOf 1).cq = 0 ∧ (u.cq 0).state = .active ∧ (u.cq 0).noticesWaiting = 0 ∧
      (u.slot 5).ownSet = own := by
  intro own ho h hh
  refine ⟨acting_arrives 0 (.inl rfl) _ _ _ ⟨rfl, rfl⟩, dispatch_of_one 5 ?_ ?_ ?_ ?_ rfl
    (by decide : ∀ e, (State.reset.map.get e).kind = .pair → (State.reset.map.get e).segA ≠ (State.reset.map.get e).segB),
    ⟨?_, ?_, ?_, nofun⟩, ⟨?_, ?_, ?_, nofun⟩, ?_⟩
  case refine_3 =>
    have : (acting 0 { segIn .active with hold := h } (liveHold own) []).slot 5 = liveHold own := by
      show ((fetching ready 0).setSlot 5 _).slot 5 = _
      rw [State.slot_setSlot_self]
    rw [this]
    exact legal_liveHold _
  all_goals
    revert h own
    decide

/-- SEGMENT_SLEEP and SEGMENT_WAKE of segment 3 in each row of R98 and R100. -/
theorem witness_SleepAndWakeRequests :
    (∀ x ∈ [segIn .off, segIn .active, segIn .dormant, { segIn .active with hold := .held 1 1000 },
        { segIn .dormant with wakePulse := some .onDemand }, { segIn .waking with pendingOp := some { op := .wake, slot := 6 } }],
      ∀ q ∈ [[], [5]],
      let s := acting 0 x Slot.empty q
      (Arriving s (fetchOf 0) (configOf 0) ∧ IdleTimersFollow s) ∧ s.seg 3 = x ∧ s.queue 3 = q) ∧
    ∀ k ∈ [(0x34, Kind.segSleep, OpArgs.segSleep 3), (0x35, .segWake, .segWake 3)],
      kindOf (request k.1 0 0 [3]) = some k.2.1 ∧ (request k.1 0 0 [3])[7] = 0 ∧ (fetchOf 0).ring = 0 ∧
        argsOf k.2.1 (request k.1 0 0 [3]) = some k.2.2 := by
  refine ⟨fun x hx q _ => ⟨acting_arrives 0 (.inl rfl) _ _ _ ?_, ?_, ?_⟩, by decide⟩
  · revert x
    decide
  · show (State.setSeg _ 3 x).seg 3 = x
    rw [State.seg_setSeg_self]
  · show (State.setQueue _ 3 q).queue 3 = q
    rw [State.queue_setQueue_self]

/-- A record of ring 1 about to arrive, segment 3 with a frame of slot 5, which belongs to a ring. -/
def holding (r : Ring) : State :=
  ((fetching ready 1).setSeg 3 (framing .ackWait (some 24) writeFrame)).setSlot 5
    { exchanging (readOf (.single 3)) (legOf .onWire none 2) with ring := some r }

theorem witness_HoldOfOneSegment (r : Ring) :
    (Arriving (holding r) (fetchOf 1) (configOf 1) ∧ IdleTimersFollow (holding r)) ∧ (fetchOf 1).ring ≠ 0 ∧
      kindOf (request 0x09 0 0 [8]) = some .hold ∧ (request 0x09 0 0 [8])[7] = 0 ∧
      argsOf .hold (request 0x09 0 0 [8]) = some (.hold (BitVec.twoPow 8 (3 : Seg).val)) ∧ ((holding r).seg 3).hold = .none ∧
      ((holding r).seg 3).lineState ∈ [.syncing, .active, .dormant, .waking] ∧
      ((holding r).seg 3).frame = some writeFrame ∧ writeFrame.carrier = .exchange 5 ∧
      ((holding r).slot 5).ring = some r := by
  refine ⟨⟨arriving_of_check _ _ ?_ rfl rfl ?_ ?_ ?_, follows_of_check _ ?_⟩, ?_⟩ <;> revert r <;> decide

/-- A HOLD of segments 3 and 4: segment 3 is held by the ring already, segment 4 is NONE. -/
theorem witness_HoldOfOneSegment_several :
    let s := (acting 1 { segIn .active with hold := .held 1 5 } Slot.empty []).setSeg 4 (segIn .active)
    (Arriving s (fetchOf 1) (configOf 1) ∧ IdleTimersFollow s) ∧ (fetchOf 1).ring ≠ 0 ∧
      kindOf (request 0x09 0 0 [0x18]) = some .hold ∧ (request 0x09 0 0 [0x18])[7] = 0 ∧
      argsOf .hold (request 0x09 0 0 [0x18]) = some (.hold 0x18) ∧ (0x18 : SegSet) ≠ 0 ∧
      (∀ g : Seg, (0x18 : SegSet).getLsbD g.val = true → (s.seg g).lineState = .active ∧
        ((s.seg g).hold = .none ∨ (s.seg g).hold = .held 1 5)) ∧
      (∀ g : Seg, (0x10 : SegSet).getLsbD g.val = true ↔ (0x18 : SegSet).getLsbD g.val = true ∧ (s.seg g).hold = .none) ∧
      ∀ g : Seg, (s.seg g).frame = none :=
  ⟨⟨arriving_of_check _ _ (by decide) rfl rfl (by decide) (by decide) (by decide), follows_of_check _ (by decide)⟩, by decide⟩

/-- Each refusal: an empty mask, another ring's hold, the ring's own draining, a segment OFF, a segment FAULTED. -/
theorem witness_HoldOfOneSegment_refused :
    (∀ x ∈ [{ segIn .active with hold := .held 2 5 }, { segIn .active with hold := .draining 1 6 }, segIn .off,
        segIn (.faulted .stuck)],
      let s := acting 1 x Slot.empty []
      (Arriving s (fetchOf 1) (configOf 1) ∧ IdleTimersFollow s) ∧ s.seg 3 = x) ∧
    (fetchOf 1).ring ≠ 0 ∧ ∀ m ∈ [0, 8], kindOf (request 0x09 0 0 [m]) = some .hold ∧ (request 0x09 0 0 [m])[7] = 0 ∧
      argsOf .hold (request 0x09 0 0 [m]) = some (.hold m) := by
  refine ⟨fun x hx => ⟨acting_arrives 1 (.inr rfl) _ _ _ ?_, ?_⟩, by decide⟩
  · revert x
    decide
  · show (State.setSeg _ 3 x).seg 3 = x
    rw [State.seg_setSeg_self]

/-- An empty mask, and a mask of SEG3, which ring 1 holds with no HOLD LIVE. -/
theorem witness_ReleaseReturnsNamedSegments :
    let s := (fetching ready 1).setSeg 3 { segIn .active with hold := .held 1 1000 }
    (Arriving s (fetchOf 1) (configOf 1) ∧ IdleTimersFollow s) ∧ (fetchOf 1).ring ≠ 0 ∧
      (∀ m ∈ [0, 8], kindOf (request 0x0A 0 0 [m]) = some .release ∧ (request 0x0A 0 0 [m])[7] = 0 ∧
        argsOf .release (request 0x0A 0 0 [m]) = some (.release m)) ∧
      (∀ i, (s.slot i).state ≠ .live) ∧ (s.seg 3).hold.holder = some 1 :=
  ⟨⟨arriving_of_check _ _ (by decide) rfl rfl (by decide) (by decide) (by decide), follows_of_check _ (by decide)⟩, by decide⟩

/-- Segment 3 is HELD for slot 5's LIVE HOLD of segments 3 and 4, which a RELEASE of segment 3 ends. -/
theorem witness_ReleaseReturnsNamedSegments_liveHold :
    let hold := { requesting 1 .hold (.hold 0x18) with progress := some (.hold { own := 0x18, granted := 8 }) }
    let s := acting 1 { segIn .active with hold := .held 1 5 } hold []
    (Arriving s (fetchOf 1) (configOf 1) ∧ IdleTimersFollow s) ∧ LiveHold s 1 5 ∧ (s.slot 5).namedSet &&& 8 ≠ 0 ∧
      (s.slot 5).exchange = none ∧ (s.slot 5).cq = some 0 ∧ (∀ i, (s.slot i).state = .live → i = 5) ∧
      (s.slot 5).ownSet.getLsbD 4 = true ∧ (8 : SegSet) ≠ 0 :=
  ⟨acting_arrives 1 (.inr rfl) _ _ _ (by decide), ⟨by decide, by decide, by decide⟩, by decide⟩

/-- No exchange with tag 0311h; exactly one LIVE exchange with tag 0310h, ON_WIRE. -/
theorem witness_AbortWithoutWaitingLegs :
    (Arriving (holding 1) (fetchOf 1) (configOf 1) ∧ IdleTimersFollow (holding 1)) ∧ (fetchOf 1).ring ≠ 0 ∧
      (∀ b ∈ [0x10, 0x11], kindOf (request 0x08 0 0 [b, 3]) = some .abort ∧ (request 0x08 0 0 [b, 3])[7] = 0 ∧
        argsOf .abort (request 0x08 0 0 [b, 3]) = some (.abort (le16 b 3))) ∧
      (∀ i, ((holding 1).slot i).tag ≠ some 0x0311) ∧
      (((holding 1).slot 5).state = .live ∧ ((holding 1).slot 5).ring = some 1 ∧ ((holding 1).slot 5).kind = some .read ∧
        ((holding 1).slot 5).tag = some 0x0310) ∧ (∀ i, ((holding 1).slot i).state = .live → i = 5) ∧
      ((holding 1).slot 5).legs = [legOf .onWire none 2] :=
  ⟨(witness_HoldOfOneSegment 1).1, by decide⟩

/-- The one LIVE exchange with tag 0310h waits on segment 3. -/
theorem witness_AbortWithoutWaitingLegs_removed :
    let s := acting 1 (segIn .active) (exchanging (readOf (.single 3)) (legOf .waiting none 2)) [5]
    (Arriving s (fetchOf 1) (configOf 1) ∧ IdleTimersFollow s) ∧ LegsLegal (s.slot 5) ∧
      ((s.slot 5).state = .live ∧ (s.slot 5).ring = some 1 ∧ (s.slot 5).kind = some .read ∧ (s.slot 5).tag = some 0x0310) ∧
      (∀ i, (s.slot i).state = .live → i = 5) ∧ (s.slot 5).exchange = some (readOf (.single 3)) ∧ (s.slot 5).cq = some 0 ∧
      ∃ l ∈ (s.slot 5).legs, l.state = .waiting :=
  ⟨acting_arrives 1 (.inr rfl) _ _ _ (by decide), (acting_dispatch 1 (.inr rfl) _ .waiting).legs 5, by decide⟩

/-- The only slot in use carries the RING_DELETE of ring 7, which holds none. -/
theorem witness_RingDeletionCompletes :
    let s := (ready.setSlot 5 (requesting 0 .ringDelete (.ringDelete 7))).setRing 7 { workRing with state := .deleting }
    (s.ring 7).state = .deleting ∧ (∀ j, (s.slot j).state ≠ .free → (s.slot j).ring ≠ some 7) ∧ s.fetch = none ∧
      (s.slot 5).state = .live ∧ (s.slot 5).kind = some .ringDelete ∧ (s.slot 5).args = some (.ringDelete 7) ∧
      (7 : Byte).toNat = (7 : Ring).val ∧ (s.slot 5).cq = some 0 ∧ (s.slot 5).exchange = none ∧
      (∀ j, (s.slot j).state = .live → j = 5) ∧ ∀ j, j ≠ 5 → (s.slot j).args = none := by
  decide

/-- RING_DELETE of rings 0 and 8, of ring 7 which is UNCONFIGURED, and of ring 7 DELETING. -/
theorem witness_RingDeletionCompletes_refused :
    (Arriving (fetching ready 0) (fetchOf 0) (configOf 0) ∧ IdleTimersFollow (fetching ready 0)) ∧ (fetchOf 0).ring = 0 ∧
      (∀ b ∈ [0, 8, 7, 1], kindOf (request 0x21 0 0 [b]) = some .ringDelete ∧ (request 0x21 0 0 [b])[7] = 0 ∧
        argsOf .ringDelete (request 0x21 0 0 [b]) = some (.ringDelete b)) ∧
      ((fetching ready 0).ring 7).state = .unconfigured ∧
      (let s := (fetching ready 0).setRing 7 { workRing with state := .deleting }
       (Arriving s (fetchOf 0) (configOf 0) ∧ IdleTimersFollow s) ∧ (s.ring 7).state = .deleting) :=
  ⟨⟨arriving_admin, follows_admin⟩, by decide, by decide, by decide, ⟨arriving_of_check _ _ (by decide) rfl rfl (by decide) (by decide)
    (by decide), follows_of_check _ (by decide)⟩, by decide⟩

/-- RING_DELETE of ring 1: its exchange in slot 5 waits on segment 3, and with the grant in the same step its next record is being
fetched, so that the deletion finds a fetch to mark for discard (R116). -/
theorem witness_RingDeletionCompletes_accepted :
    let s := { acting 0 (segIn .active) (exchanging (readOf (.single 3)) (legOf .waiting none 2)) [5] with enable := true }
    (Arriving s (fetchOf 0) (configOf 0) ∧ IdleTimersFollow s) ∧ DispatchLegal s ∧ (s.ring 1).state = .active ∧
      (∀ j, (s.slot j).state = .live → (s.slot j).args = none) ∧ (s.slot 5).ring = some 1 ∧
      (s.slot 5).kind = some .read ∧ (s.slot 5).exchange = some (readOf (.single 3)) ∧ (s.slot 5).cq = some 0 ∧
      ((s.consumed (fetchOf 0) 16 true).fetch.map Fetch.ring) = some 1 ∧
      ((after (.fetchComplete ⟨request 0x21 0 0 [1], true⟩) s).fetch.map Fetch.discard) = some true :=
  ⟨acting_arrives 0 (.inl rfl) _ _ _ (by decide), acting_dispatch 0 (.inl rfl) _ .waiting, by decide⟩

/-- A LIVE HOLD of the deleted ring. -/
theorem witness_RingDeletionCompletes_hold :
    let hold := { requesting 1 .hold (.hold 0x18) with progress := some (.hold { own := 0x18, granted := 8 }) }
    let s := acting 0 { segIn .active with hold := .held 1 5 } hold []
    (Arriving s (fetchOf 0) (configOf 0) ∧ IdleTimersFollow s) ∧ LiveHold s 1 5 ∧ (s.slot 5).exchange = none ∧
      (s.slot 5).cq = some 0 ∧ (s.seg 3).hold.holder = some 1 :=
  ⟨acting_arrives 0 (.inl rfl) _ _ _ (by decide), ⟨by decide, by decide, by decide⟩, by decide⟩

/-- CQ_DELETE of completion rings 0, 4 and 2 (UNCONFIGURED), of ring 1 bound to request ring 1, named for notices, and free. -/
theorem witness_RingDeletionCompletes_completion :
    (∀ b ∈ [0, 4, 2, 1], kindOf (request 0x23 0 0 [b]) = some .cqDelete ∧ (request 0x23 0 0 [b])[7] = 0 ∧
      argsOf .cqDelete (request 0x23 0 0 [b]) = some (.cqDelete b)) ∧ ((fetching ready 0).cq 2).state = .unconfigured ∧
    ∀ c ∈ [(0 : Cq), 1], ∀ n ∈ [(0 : Cq), 1],
      let s := (((fetching ready 0).setCq 1 adminCq).setRing 1 { workRing with
          config := some { base := 0x2000, size := 16, weight := some 2, reserve := 2, cap := 8, cq := c } }).setSeg 3
        { segIn .off with config := { SegConfig.default with noticeCq := n } }
      (Arriving s (fetchOf 0) (configOf 0) ∧ IdleTimersFollow s) ∧ (s.cq 1).state ≠ .unconfigured ∧
        (s.ring 1).config.map RingConfig.cq = some c ∧ (s.seg 3).config.noticeCq = n := by
  refine ⟨by decide, by decide, fun c hc n hn => ⟨⟨arriving_of_check _ _ ?_ rfl rfl ?_ ?_ ?_, follows_of_check _ ?_⟩, ?_⟩⟩ <;>
    revert n <;> revert c <;> decide

/-! ### The completion writer and the host port -/

/-- Completion ring 0 with a DONE slot and a notice waiting, its producer index the last one. -/
def posting (p : List Posting) : State :=
  (ready.setSlot 5 { exchanging (readOf (.single 3)) (legOf .finished none 2) with state := .done }).setCq 0
    { adminCq with backlog := p, noticesWaiting := (noticesIn p), producer := 15, release := 15 }

theorem witness_RecordWriteRequestRotates :
    let s := posting [.slot 5]
    s.write = none ∧ (s.cq 0).config = some { base := 0x4000, size := 16, count := 1, delay := 0 } ∧
      (s.cq 0).state = .active ∧ (s.cq 0).backlog ≠ [] ∧ (s.cq 0).unreleased < 16 ∧
      ∀ d : Cq, (d.val + 4 - s.cqLast.val - 1) % 4 < ((0 : Cq).val + 4 - s.cqLast.val - 1) % 4 → (s.cq d).writable = false := by
  decide

/-- A record write that waits, for a slot or for a notice at the head. -/
def writing (p : Posting) : State := { posting [p] with write := some { cq := 0, addr := 0x40F0 } }

theorem witness_RecordWriteAdvancesRing : ∀ p ∈ [Posting.slot 5, .notice (.segmentDormant 3)],
    let s := writing p
    s.write = some { cq := 0, addr := 0x40F0 } ∧
      (s.cq 0).config = some { base := 0x4000, size := 16, count := 1, delay := 0 } ∧ (s.cq 0).state = .active ∧
      (s.cq 0).backlog = p :: [] ∧ (s.cq 0).unreleased < 16 ∧ (s.cq 0).producer < 16 ∧ (pcie true).busMaster = true ∧
      (∀ c : Cq, s.msgPending.get c = false ∧ (s.msgHeld.get c ≠ none → (pcie true).mask.getLsbD c.val = true)) ∧
      s.read = .idle ∧ (s.slot 5).state = .done := by
  decide

theorem witness_UnissuableWriteErrorsRing :
    let s := writing (.slot 5)
    s.write = some { cq := 0, addr := 0x40F0 } ∧ (s.cq 0).writable = true ∧ (pcie false).busMaster = false ∧
      (∀ c : Cq, s.msgPending.get c = false ∧ (s.msgHeld.get c ≠ none → (pcie false).mask.getLsbD c.val = true)) ∧
      s.read = .idle := by
  decide

/-- Ring 3's message waits, with two numbers enabled and number 1 its own; number 2 is held, and masked. -/
theorem witness_MessageIsIssuedHeldOrDropped_pending :
    let s := { ready with msgPending := #v[false, false, false, true], msgHeld := #v[none, none, some 2, none] }
    let p : PcieConfig := { busMaster := true, messages := true, enabled := 2, mask := 4 }
    let ready (d m : Cq) : Prop := s.msgHeld.get m = some d ∧ p.mask.getLsbD m.val = false
    let standsFor (d : Cq) : Prop := s.msgHeld.get 1 = some d ∨ s.msgPending.get d = true ∧ d.val % p.enabled = (1 : Cq).val
    (p.enabled = 1 ∨ p.enabled = 2 ∨ p.enabled = 4) ∧ s.read = .idle ∧ s.msgPending.get 3 = true ∧
      (∀ d : Cq, d < 3 → ¬ ((∃ m, ready d m) ∨ s.msgPending.get d = true)) ∧ (∀ m, ¬ ready 3 m) ∧
      (1 : Cq).val = (3 : Cq).val % p.enabled ∧ standsFor 3 ∧ ∀ d : Cq, d < 3 → ¬ standsFor d := by
  decide

/-- Number 0 is held for ring 2 and no longer masked, with two numbers enabled and ring 3's message waiting. -/
theorem witness_MessageIsIssuedHeldOrDropped_held :
    let s := { ready with msgPending := #v[false, false, false, true], msgHeld := #v[some 2, none, none, none] }
    let p : PcieConfig := { busMaster := true, messages := true, enabled := 2, mask := 2 }
    let ready (d m : Cq) : Prop := s.msgHeld.get m = some d ∧ p.mask.getLsbD m.val = false
    let standsFor (d : Cq) : Prop := s.msgHeld.get 0 = some d ∨ s.msgPending.get d = true ∧ d.val % p.enabled = (0 : Cq).val
    (p.enabled = 1 ∨ p.enabled = 2 ∨ p.enabled = 4) ∧ s.read = .idle ∧ ready 2 0 ∧ (∀ m : Cq, m < 0 → ¬ ready 2 m) ∧
      (∀ d : Cq, d < 2 → ¬ ((∃ m, ready d m) ∨ s.msgPending.get d = true)) ∧ standsFor 2 ∧ ∀ d : Cq, d < 2 → ¬ standsFor d := by
  decide

theorem witness_DelayExpirySignalsArmedRing :
    ((ready.setCq 0 { adminCq with delayTimer := .running 100, sinceMessage := 1 }).cq 0).delayTimer = .running 100 := by
  decide

/-! ### Timers -/

/-- Slot 5 with a running deadline, its leg waiting on segment 3 or ON_WIRE there. -/
def expiring (l : LegState) : State :=
  busy { exchanging (readOf (.single 3)) (legOf l none 2) with deadline := .running 20, deadlineTimer := .running 20000 } guarding

theorem witness_DeadlineExpiryFinishesWaitingLegs : ∀ l ∈ [LegState.waiting, .onWire],
    LegsLegal ((expiring l).slot 5) ∧ IdleTimersFollow (expiring l) ∧ ((expiring l).slot 5).state = .live ∧
      ((expiring l).slot 5).exchange = some (readOf (.single 3)) ∧ ((expiring l).slot 5).deadline = .running 20 ∧
      ((expiring l).slot 5).deadlineTimer = .running 20000 ∧ ((expiring l).slot 5).cq = some 0 := by
  intro l hl
  have hf : IdleTimersFollow (expiring l) := by
    refine follows_of_check _ ?_
    revert l
    decide
  have h : LegsLegal (exchanging (readOf (.single 3)) (legOf l none 2)) := legal_one_leg _ _ (by simp [readOf]) rfl
  exact ⟨⟨h.noExchange, h.distinct, h.pair, h.noPath, h.ended⟩, hf, rfl, rfl, rfl, rfl, rfl⟩

/-- Segment 3 held by ring 1; slot 5 a LIVE HOLD of ring 1 that names it, or of ring 2. -/
def heldBy (r : Ring) : State :=
  busy { requesting r .hold (.hold 0x18) with progress := some (.hold { own := 0x18, granted := 0x08 }) }
    { segIn .active with hold := .held 1 1000 }

theorem witness_HoldTimerExpiryEndsHold : ∀ r ∈ [(1 : Ring), 2],
    IdleTimersFollow (heldBy r) ∧ ((heldBy r).seg 3).hold = .held 1 1000 ∧ ((heldBy r).ring 1).config = some (configOf 1) ∧
      ((heldBy r).slot 5).state = .live ∧ ((heldBy r).slot 5).kind = some .hold ∧ ((heldBy r).slot 5).ring = some r ∧
      ((heldBy r).slot 5).exchange = none ∧ ((heldBy r).slot 5).namedSet.getLsbD 3 = true ∧
      ∀ i, ((heldBy r).slot i).state = .live → i = 5 := by
  intro r hr
  refine ⟨follows_of_check _ ?_, ?_⟩ <;> revert r <;> decide

/-- The LIVE HOLD of ring 1 that names segment 3, HELD, has it in its own set, or does not. -/
theorem witness_HoldTimerExpiryEndsHold_lost : ∀ own ∈ [(0x18 : SegSet), 0x10],
    let s := busy (liveHold own) { guarding with hold := .held 1 5 }
    IdleTimersFollow s ∧ (s.seg 3).hold = .held 1 5 ∧ (s.ring 1).config = some (configOf 1) ∧ HoldEnds s 3 .expired 5 ∧
      (s.slot 5).exchange = none ∧ (s.slot 5).cq = some 0 ∧ (s.cq 0).state = .active ∧ (s.cq 0).noticesWaiting = 0 ∧
      (s.slot 5).ownSet = own ∧ ∀ i, (s.slot i).state = .live → i = 5 := by
  intro own ho
  refine ⟨follows_of_check _ ?_, ?_, ?_, ⟨?_, ?_, ?_, fun _ => ?_⟩, ?_⟩ <;> revert own <;> decide

/-- Segment 3 DRAINING for slot 5's HOLD, which is granted SEG4 already. -/
theorem witness_HoldGrantHoldsSegment :
    let s := busy { requesting 1 .hold (.hold 0x18) with progress := some (.hold { own := 0x18, granted := 0x10 }) }
      { guarding with hold := .draining 1 5 }
    IdleTimersFollow s ∧ (s.seg 3).hold = .draining 1 5 ∧ (s.seg 3).frame = none ∧ (s.slot 5).state = .live ∧
      (s.slot 5).exchange = none ∧ (s.slot 5).args = some (.hold 0x18) ∧
      (s.slot 5).progress = some (.hold { own := 0x18, granted := 0x10 }) ∧ (s.slot 5).cq = some 0 ∧
      (0x10 : SegSet) ||| BitVec.twoPow 8 (3 : Seg).val = 0x18 :=
  ⟨follows_of_check _ (by decide), by decide⟩

/-- A segment whose idle timer runs. -/
def idling : Segment :=
  { segIn .active with config := { SegConfig.default with idleToDormant := 5 }, idleTimer := .running 5000 }

theorem witness_DormancyCommandStarts_idleTimer :
    IdleTimersFollow (withSeg idling) ∧ ((withSeg idling).seg 3).idleTimer ≠ .stopped :=
  ⟨follows_of_check _ (by decide), by decide⟩

theorem witness_DormancyCommandStarts_sleep :
    let s := withSeg { segIn .active with pendingOp := some { op := .sleep, slot := 5 } }
    IdleTimersFollow s ∧ (s.seg 3).lineState = .active ∧ (s.seg 3).phase = .idle ∧ (s.seg 3).frame = none ∧
      (s.seg 3).pendingOp = some { op := .sleep, slot := 5 } :=
  ⟨follows_of_check _ (by decide), by decide⟩

/-- The same with the SLEEP's request LIVE in slot 5. -/
theorem witness_DormancyCommandStarts_live :
    let s := busy { requesting 0 .segSleep (.segSleep 3) with progress := some .awaitingIdle }
      { segIn .active with pendingOp := some { op := .sleep, slot := 5 } }
    IdleTimersFollow s ∧ (s.seg 3).lineState = .active ∧ (s.seg 3).phase = .idle ∧ (s.seg 3).frame = none ∧
      (s.seg 3).pendingOp = some { op := .sleep, slot := 5 } ∧ (s.slot 5).state = .live :=
  ⟨follows_of_check _ (by decide), by decide⟩

/-- The wake pulse of a WAKE whose request is LIVE in slot 5. -/
theorem witness_WakesReachActive_pulseOfWake :
    let s := busy { requesting 0 .segWake (.segWake 3) with progress := some .pulsing }
      { segIn .dormant with wakePulse := some .wake, line := .wakePulse, pendingOp := some { op := .wake, slot := 5 } }
    IdleTimersFollow s ∧ (s.seg 3).lineState = .dormant ∧ (s.seg 3).wakePulse ≠ none ∧
      (s.seg 3).pendingOp = some { op := .wake, slot := 5 } ∧ (s.slot 5).state = .live :=
  ⟨follows_of_check _ (by decide), by decide⟩

theorem witness_WakesReachActive_pulse :
    let s := withSeg { segIn .dormant with wakePulse := some .onDemand, line := .wakePulse }
    IdleTimersFollow s ∧ (s.seg 3).lineState = .dormant ∧ (s.seg 3).wakePulse ≠ none :=
  ⟨follows_of_check _ (by decide), by decide⟩

/-- The shortest and the longest remote wake, and the lengths next to them. -/
theorem witness_WakesReachActive_remote :
    IdleTimersFollow (withSeg (segIn .dormant)) ∧ ((withSeg (segIn .dormant)).seg 3).lineState = .dormant ∧
      ((withSeg (segIn .dormant)).seg 3).wakePulse = none ∧ (∀ us ∈ [250, 4999], 250 ≤ us ∧ us < 5000) ∧
      ∀ us ∈ [249, 5000], ¬ (250 ≤ us ∧ us < 5000) :=
  ⟨follows_of_check _ (by decide), by decide⟩

/-- A WAKING segment whose settle timer runs, without and with a pending WAKE. -/
theorem witness_WakesReachActive_settle : ∀ op ∈ [none, some ({ op := .wake, slot := 5 } : PendingOp)],
    let s := busy (requesting 0 .segWake (.segWake 3)) { segIn .waking with settleTimer := .running 20000, pendingOp := op }
    IdleTimersFollow s ∧ (s.seg 3).lineState = .waking ∧ (s.seg 3).settleTimer = .running 20000 ∧ (s.seg 3).pendingOp = op ∧
      (s.seg 3).frame = none ∧ DispatchLegal s ∧ (s.slot 5).state = .live ∧ (s.slot 5).exchange = none ∧ (s.slot 5).cq = some 0 := by
  intro op hop
  refine ⟨follows_of_check _ ?_, ?_, ?_, ?_, ?_, dispatch_of_one 5 ?_ ?_ ?_ ?_ rfl
    (by decide : ∀ e, (State.reset.map.get e).kind = .pair → (State.reset.map.get e).segA ≠ (State.reset.map.get e).segB), ?_⟩
  case refine_8 =>
    show LegsLegal (requesting 0 .segWake (.segWake 3))
    constructor <;> simp [requesting, Slot.empty]
  all_goals
    revert op
    decide

/-- Segment 3 WAKING and held, slot 5 a LIVE HOLD that names it; or no HOLD LIVE. -/
theorem witness_WakesReachActive_foreign :
    (let s := busy (liveHold 0x18) { segIn .waking with settleTimer := .running 20000, hold := .held 1 5 }
     IdleTimersFollow s ∧ DispatchLegal s ∧ (s.seg 3).lineState = .waking ∧ (s.seg 3).settleTimer = .running 20000 ∧
      (s.seg 3).frame = none ∧ (s.seg 3).pendingOp = none ∧ HoldEnds s 3 .fault 5 ∧ (s.slot 5).exchange = none ∧
      (s.slot 5).cq = some 0) ∧
    let s := busy (requesting 0 .segWake (.segWake 3)) { segIn .waking with settleTimer := .running 20000 }
    IdleTimersFollow s ∧ s.queue 3 = [] ∧ (s.seg 3).hold = .none ∧ (s.seg 3).pendingOp = none ∧ ∀ i, ¬ HoldEnds s 3 .fault i :=
  ⟨⟨follows_of_check _ (by decide), dispatch_of_one 5 (by decide) (by decide) (by exact legal_liveHold _) (by decide) rfl (by decide),
    by decide, by decide, by decide, by decide, ⟨by decide, by decide, by decide, nofun⟩, by decide⟩,
    follows_of_check _ (by decide), by decide, by decide, by decide, fun _ => no_holdEnds (by decide) _ _ _⟩

/-- A STOP that waited for its frame, its segment now in GUARD. -/
def stopping : State :=
  busy (requesting 0 .segStop (.segStop 3)) { guarding with pendingOp := some { op := .stop, slot := 5 } }

theorem witness_StopActsAfterItsFrame :
    IdleTimersFollow stopping ∧ DispatchLegal stopping ∧ (stopping.seg 3).pendingOp = some { op := .stop, slot := 5 } ∧
      (stopping.seg 3).frame = none ∧ (stopping.seg 3).hold = .none ∧ stopping.queue 3 = [] ∧
      (stopping.slot 5).state = .live ∧ (stopping.slot 5).exchange = none ∧ (stopping.slot 5).kind = some .segStop ∧
      (stopping.slot 5).cq = some 0 ∧ ∀ j, ¬ HoldEnds stopping 3 .stopped j := by
  refine ⟨follows_of_check _ (by decide), dispatch_of_one 5 (by decide) (by decide) ?_ (by decide) rfl (by decide), by decide, by decide,
    by decide, by decide, by decide, by decide, by decide, by decide, fun _ => no_holdEnds (by decide) _ _ _⟩
  rw [show stopping.slot 5 = requesting 0 .segStop (.segStop 3) by decide]
  constructor <;> simp [requesting, Slot.empty]

/-- The same with segment 3 HELD by ring 1, and no HOLD LIVE. -/
theorem witness_StopActsAfterItsFrame_held :
    let s := stopping.setSeg 3 { guarding with pendingOp := some { op := .stop, slot := 5 }, hold := .held 1 5 }
    IdleTimersFollow s ∧ DispatchLegal s ∧ (s.seg 3).hold = .held 1 5 ∧ s.queue 3 = [] ∧
      (s.ring 1).config = some (configOf 1) ∧ ∀ j, ¬ HoldEnds s 3 .stopped j := by
  refine ⟨follows_of_check _ (by decide), dispatch_of_one 5 (by decide) (by decide) ?_ (by decide) rfl (by decide), by decide, by decide,
    by decide, fun _ => no_holdEnds (by decide) _ _ _⟩
  show LegsLegal (requesting 0 .segStop (.segStop 3))
  constructor <;> simp [requesting, Slot.empty]

/-- The same with slot 6 a LIVE HOLD of ring 1 that names segment 3, HELD by ring 1 or by ring 2 or by none. -/
theorem witness_StopActsAfterItsFrame_lost : ∀ h ∈ [Hold.held 1 5, .held 2 5, .none],
    let s := (stopping.setSlot 6 { liveHold 0x10 with arrival := some 0 }).setSeg 3
      { guarding with pendingOp := some { op := .stop, slot := 5 }, hold := h }
    IdleTimersFollow s ∧ DispatchLegal s ∧ (s.seg 3).hold = h ∧ HoldEnds s 3 .stopped 6 ∧ (s.slot 6).exchange = none ∧
      (s.slot 6).cq = some 0 ∧ (s.slot 5).kind = some .segStop ∧ (s.slot 5).state = .live ∧ (s.slot 5).cq = some 0 := by
  intro h hh
  refine ⟨follows_of_check _ ?_, dispatch_of_two ?_ ?_ ?_ ?_ ?_ rfl (by decide : ∀ e, (State.reset.map.get e).kind = .pair →
    (State.reset.map.get e).segA ≠ (State.reset.map.get e).segB), ?_, ⟨?_, ?_, ?_, nofun⟩, ?_⟩ <;> revert h <;> decide

/-- Slot 5's PAIR leg waits on its primary, segment 3; its secondary, segment 4, is OFF or ACTIVE: it may fail over there only
where segment 4 is ACTIVE (R52, R55). -/
theorem witness_Displaced :
    let x := exchanging (readOf (.pair 3 4)) (legOf .waiting (some .primary) 0)
    let s (l : LineState) : State := ((busy x guarding).setSeg 4 (segIn l)).setQueue 3 [5]
    (∀ l ∈ [LineState.off, .active], 5 ∈ (s l).queue 3 ∧ ((s l).slot 5).exchange = some (readOf (.pair 3 4)) ∧
      legOf .waiting (some .primary) 0 ∈ ((s l).slot 5).legs ∧ ((s l).slot 5).cq = some 0 ∧
      ((s l).slot 5).failoverUsed = false ∧ ((s l).slot 5).abortPending = false ∧ ((s l).slot 5).deadline ≠ .passed) ∧
      ((s .active).seg 4).lineState = .active ∧ ((s .off).seg 4).lineState = .off := by
  decide

/-! ### Frames -/

/-- Slot 5's leg waits on an ACTIVE segment in IDLE. -/
def picking (h : Hold) : State :=
  (busy (exchanging (readOf (.single 3)) (legOf .waiting none 2)) { segIn .active with hold := h }).setQueue 3 [5]

theorem witness_PickTakesFirstEligibleLeg :
    IdleTimersFollow (picking (.held 1 1000)) ∧ ((picking (.held 1 1000)).seg 3).lineState = .active ∧
      ((picking (.held 1 1000)).seg 3).phase = .idle ∧ ((picking (.held 1 1000)).seg 3).pendingOp = none ∧
      (picking (.held 1 1000)).queue 3 = [] ++ 5 :: [] ∧ ((picking (.held 1 1000)).seg 3).hold.holder = some 1 ∧
      ((picking (.held 1 1000)).slot 5).ring = some 1 ∧
      ((picking (.held 1 1000)).slot 5).exchange = some (readOf (.single 3)) :=
  ⟨follows_of_check _ (by decide), by decide⟩

/-- The first eligible leg stands behind another ring's. -/
theorem witness_PickTakesFirstEligibleLeg_behind :
    let s := ((picking (.held 1 1000)).setSlot 6
      { exchanging (readOf (.single 3)) (legOf .waiting none 2) with ring := some 2, arrival := some 0 }).setQueue 3 [6, 5]
    IdleTimersFollow s ∧ s.queue 3 = [6] ++ 5 :: [] ∧ (5 : SlotId) ∉ ([6] : List SlotId) ++ [] ∧
      (s.seg 3).hold.holder = some 1 ∧ (s.slot 6).ring ≠ some 1 ∧ (s.slot 5).ring = some 1 :=
  ⟨follows_of_check _ (by decide), by decide⟩

/-- What keeps a pick from being made: the line state, the phase, a pending STOP or SLEEP, another ring's hold. -/
theorem witness_PickTakesFirstEligibleLeg_none :
    ((withSeg (segIn .dormant)).seg 3).lineState ≠ .active ∧ ((withSeg guarding).seg 3).phase ≠ .idle ∧
      (∀ op ∈ [SegOp.stop, .sleep], ((withSeg { segIn .active with pendingOp := some { op := op, slot := 5 } }).seg 3).pendingOp =
        some { op := op, slot := 5 }) ∧
      ∀ j ∈ (picking (.held 2 1000)).queue 3, ((picking (.held 2 1000)).seg 3).hold.holder = some 2 ∧
        ((picking (.held 2 1000)).slot j).ring ≠ some 2 := by
  decide

/-- Each phase the part sends in, with a READ's frame and a confirmed WRITE's. -/
theorem witness_SendingPhasesFollow : ∀ f ∈ [readFrame, writeFrame], ∀ p ∈ [FramePhase.leadIn, .header, .gap, .responseOut],
    let s := withSeg (framing p (some 16) f)
    IdleTimersFollow s ∧ (s.seg 3).lineState = .active ∧ (s.seg 3).frame = some f ∧ (s.seg 3).phase = p ∧
      readFrame.direction = .dirIn ∧ writeFrame.direction = .dirOut ∧ writeFrame.confirmed = true := by
  intro f hf p hp
  refine ⟨follows_of_check _ ?_, ?_⟩ <;> revert p <;> revert f <;> decide

/-- The dormancy command's last phase and its RECOVER, of either origin, with no operation, a SLEEP or a STOP pending. -/
theorem witness_DormancyCommandEndsDormant :
    ∀ o ∈ [DormancyOrigin.idleTimer, .sleep], ∀ p ∈ [none, some ({ op := .sleep, slot := 5 } : PendingOp), some { op := .stop, slot := 5 }],
    ∀ x ∈ [framing .responseOut (some 20) (dormancyFrame o),
      { framing .recover none (dormancyFrame o) with run := .counting, pendingOutcome := some .readback }],
    let s := busy (requesting 0 .segSleep (.segSleep 3)) { x with pendingOp := p }
    IdleTimersFollow s ∧ (s.seg 3).lineState = .active ∧ (s.seg 3).phase = x.phase ∧ (s.seg 3).run = x.run ∧
      (s.seg 3).pendingOutcome = x.pendingOutcome ∧ (s.seg 3).frame = some (dormancyFrame o) ∧
      (dormancyFrame o).carrier = .dormancy o ∧ (dormancyFrame o).confirmed = false ∧ (s.seg 3).pendingOp = p ∧
      (s.slot 5).state = .live ∧ (s.slot 5).exchange = none ∧ (s.slot 5).cq = some 0 := by
  intro o ho p hp x hx
  refine ⟨follows_of_check _ ?_, ?_⟩ <;> revert x <;> revert p <;> revert o <;> decide

/-- A leg waits for the segment whose dormancy command ends, with wake_on_demand set. -/
theorem witness_DormancyCommandEndsDormant_wakes :
    let s := (busy (exchanging (readOf (.single 3)) (legOf .waiting none 2)) { framing .responseOut (some 20) (dormancyFrame .idleTimer)
      with config := { SegConfig.default with wakeOnDemand := true } }).setQueue 3 [5]
    IdleTimersFollow s ∧ (s.seg 3).config.wakeOnDemand = true ∧ (s.seg 3).wakePulse = none ∧ s.queue 3 ≠ [] :=
  ⟨follows_of_check _ (by decide), by decide⟩

/-- A frame that listens: the window open or over, a byte in reception or not, no byte received yet of the two expected. -/
theorem witness_ReceptionKeepsBytes : ∀ p ∈ [FramePhase.ackWait, .responseIn], ∀ bits ∈ [none, some 24], ∀ inside ∈ [true, false],
    let f := { readFrame with inReception := inside }
    let s := withSeg (framing p bits f)
    IdleTimersFollow s ∧ (s.seg 3).lineState = .active ∧ (s.seg 3).frame = some f ∧ (s.seg 3).phase = p ∧
      (s.seg 3).phaseBits = bits ∧ f.inReception = inside ∧ f.received.length + 1 < f.length + 1 := by
  intro p hp bits hb inside hi
  refine ⟨follows_of_check _ ?_, ?_⟩ <;> revert inside <;> revert bits <;> revert p <;> decide

/-- An OUT frame of slot 5 in ACK_WAIT with a byte in reception. -/
def answering : Segment := framing .ackWait (some 24) { writeFrame with inReception := true }

/-- The eight levels of a byte, taken least significant first, are that byte (R63 step 3). -/
theorem receivedByte_levelsOf (b : Byte) : receivedByte (levelsOf b) = b := by
  revert b
  decide

theorem byte_ne_succ (b : Byte) : b ≠ b + 1 := by
  revert b
  decide

/-- Each way a frame ends uncut. -/
theorem witness_EndsFrame :
    EndsFrame answering 3 { writeFrame with inReception := true } (.ackReceived 3 (levelsOf 0x96)) .ok [] ∧
    EndsFrame answering 3 { writeFrame with inReception := true } (.ackReceived 3 (levelsOf 0x69)) .refused [] ∧
    EndsFrame answering 3 { writeFrame with inReception := true } (.ackReceived 3 (levelsOf 0x97)) .badAck [] ∧
    EndsFrame (framing .ackWait (some 24) writeFrame) 3 writeFrame (.windowEnd ⟨3, 9⟩) .noResponse [] ∧
    (let f := { readFrame with inReception := true, received := [0x3C, 0x01] }
     EndsFrame (framing .responseIn (some 52) f) 3 f (.byteReceived 3 (levelsOf (frameCheck f f.received))) .ok [0x3C, 0x01] ∧
      EndsFrame (framing .responseIn (some 52) f) 3 f (.byteReceived 3 (levelsOf (frameCheck f f.received + 1))) .checkError []) ∧
    (let f := { readFrame with inReception := true, received := [0x3C] }
     EndsFrame (framing .responseIn none f) 3 f (.byteReceived 3 (levelsOf 0x01)) .partialResponse []) ∧
    EndsFrame (framing .responseIn (some 52) readFrame) 3 readFrame (.windowEnd ⟨3, 9⟩) .noResponse [] ∧
    (let f := { readFrame with received := [0x3C] }
     EndsFrame (framing .responseIn (some 52) f) 3 f (.windowEnd ⟨3, 9⟩) .partialResponse []) ∧
    (let f := { writeFrame with confirmed := false }
     EndsFrame (framing .responseOut (some 20) f) 3 f (.responseOutEnd 3) .ok []) ∧
    (let x : Segment := { framing .recover none readFrame with run := .counting, pendingOutcome := some .framing }
     EndsFrame x 3 readFrame (.recoverEnd 3) .framing []) ∧
    (let x : Segment := { framing .recover none readFrame with run := .counting, pendingOutcome := some .readback }
     EndsFrame x 3 readFrame (.recoverEnd 3) .readback []) :=
  ⟨.accepted _ rfl rfl (receivedByte_levelsOf _), .refused _ rfl rfl (receivedByte_levelsOf _),
    .badAck _ rfl rfl (by rw [receivedByte_levelsOf]; decide) (by rw [receivedByte_levelsOf]; decide),
    .noAck 9 (by decide) rfl rfl (by simp [framing]) rfl,
    ⟨.response _ rfl rfl rfl (receivedByte_levelsOf _).symm, .checkError _ rfl rfl rfl (by rw [receivedByte_levelsOf]; exact byte_ne_succ _)⟩,
    .lateByte _ rfl rfl (by decide) rfl, .silence 9 (by decide) rfl rfl (by simp [framing]) rfl,
    .short 9 (by decide) rfl rfl (by simp [framing]) (by simp), .sent rfl rfl, .framing rfl rfl rfl, .readback rfl rfl rfl⟩

/-- Slot 5's READ is on the wire of segment 3, its window open with nothing received. -/
def onWire (target : Target) (path : Option Path) (retries : Nat) : State :=
  busy (exchanging (readOf target) (legOf .onWire path retries)) (framing .responseIn (some 52) readFrame)

theorem witness_FrameEndFinishesSingleExchange :
    let s := onWire (.single 3) none 0
    IdleTimersFollow s ∧ (s.seg 3).lineState = .active ∧ (s.seg 3).frame = some readFrame ∧
      EndsFrame (s.seg 3) 3 readFrame (.windowEnd ⟨3, 9⟩) .noResponse [] ∧ readFrame.carrier = .exchange 5 ∧
      (s.slot 5).state = .live ∧ (s.slot 5).exchange = some (readOf (.single 3)) ∧
      (s.slot 5).legs = [legOf .onWire none 0] ∧ (s.slot 5).cq = some 0 ∧ (legOf .onWire none 0).retriesLeft = 0 :=
  ⟨follows_of_check _ (by decide), by decide, by decide, .silence 9 (by decide) (by decide) rfl (by decide) rfl, by decide⟩

/-- A PAIR's leg on its secondary, segment 3, with no retry left. -/
theorem witness_FrameEndFinishesSingleExchange_pair :
    let s := (onWire (.pair 4 3) (some .secondary) 0).setSlot 5
      { exchanging (readOf (.pair 4 3)) (legOf .onWire (some .secondary) 0) with failoverUsed := true }
    IdleTimersFollow s ∧ (s.seg 3).lineState = .active ∧ (s.seg 3).frame = some readFrame ∧
      EndsFrame (s.seg 3) 3 readFrame (.windowEnd ⟨3, 9⟩) .noResponse [] ∧ readFrame.carrier = .exchange 5 ∧
      (s.slot 5).state = .live ∧ (s.slot 5).exchange = some (readOf (.pair 4 3)) ∧ LegsLegal (s.slot 5) ∧
      legOf .onWire (some .secondary) 0 ∈ (s.slot 5).legs ∧ (s.slot 5).cq = some 0 ∧
      (legOf .onWire (some .secondary) 0).retriesLeft = 0 ∧ (legOf .onWire (some .secondary) 0).path ≠ some .primary := by
  refine ⟨follows_of_check _ (by decide), by decide, by decide, .silence 9 (by decide) (by decide) rfl (by decide) rfl, by decide, by decide,
    by decide, ?_, by decide⟩
  show LegsLegal { exchanging (readOf (.pair 4 3)) (legOf .onWire (some .secondary) 0) with failoverUsed := true }
  constructor <;> simp [exchanging, readOf, legOf]
  rintro x a b rfl ht
  obtain ⟨rfl, rfl⟩ : 4 = a ∧ 3 = b := by simpa using ht
  decide

/-- A FAN on segments 3 and 4, its leg on segment 3 ON_WIRE, the other one WAITING or FINISHED. -/
theorem witness_FrameEndFinishesSingleExchange_fanLeg : ∀ l ∈ [LegState.waiting, .finished],
    let s := (onWire (.fan 0x18) none 0).setSlot 5 { exchanging (readOf (.fan 0x18)) (legOf .onWire none 0) with
      legs := [legOf .onWire none 0, { legOf l none 0 with segment := 4 }] }
    IdleTimersFollow s ∧ (s.seg 3).lineState = .active ∧ (s.seg 3).frame = some readFrame ∧
      EndsFrame (s.seg 3) 3 readFrame (.windowEnd ⟨3, 9⟩) .noResponse [] ∧ readFrame.carrier = .exchange 5 ∧
      (s.slot 5).state = .live ∧ (s.slot 5).exchange = some (readOf (.fan 0x18)) ∧ LegsLegal (s.slot 5) ∧
      legOf .onWire none 0 ∈ (s.slot 5).legs ∧ (s.slot 5).cq = some 0 ∧ (legOf .onWire none 0).retriesLeft = 0 ∧
      (legOf .onWire none 0).path ≠ some .primary := by
  intro l hl
  refine ⟨follows_of_check _ ?_, ?_, ?_, .silence 9 (by decide) ?_ rfl ?_ rfl, by decide, ?_, ?_, ?_, ?_⟩
  case refine_8 =>
    show LegsLegal { exchanging (readOf (.fan 0x18)) (legOf .onWire none 0) with
      legs := [legOf .onWire none 0, { legOf l none 0 with segment := 4 }] }
    constructor <;> simp [exchanging, readOf, legOf]
    rintro x a b rfl
    simp
  all_goals
    revert l
    decide

/-- The legs of a finished FAN on segments 0 and 7, one OK and one not. -/
theorem witness_FrameEndFinishesSingleExchange_fan :
    let legs := [{ legOf .finished none 0 with segment := 0, outcome := some .ok },
      { legOf .finished none 0 with segment := 7, outcome := some .segmentOff }]
    (readOf (.fan 0x81)).target = .fan 0x81 ∧ (legs.Pairwise fun l k => l.segment ≠ k.segment) ∧
      (∀ l ∈ legs, l.outcome ≠ none) ∧ ({ Slot.empty with legs := legs }).failoverUsed = false ∧
      ({ Slot.empty with legs := legs }).alternatePath = false ∧ ∀ m, (readOf (.pair 3 4)).target ≠ .fan m := by
  refine ⟨rfl, by decide, by decide, rfl, rfl, fun m => ?_⟩
  simp [readOf]

theorem witness_FrameEndRetriesLeg :
    let s := onWire (.single 3) none 1
    IdleTimersFollow s ∧ DispatchLegal s ∧ (s.seg 3).lineState = .active ∧ (s.seg 3).frame = some readFrame ∧
      EndsFrame (s.seg 3) 3 readFrame (.windowEnd ⟨3, 9⟩) .noResponse [] ∧ readFrame.carrier = .exchange 5 ∧
      (s.slot 5).state = .live ∧ (s.slot 5).exchange = some (readOf (.single 3)) ∧
      legOf .onWire none 1 ∈ (s.slot 5).legs ∧ 0 < (legOf .onWire none 1).retriesLeft ∧ (s.slot 5).abortPending = false ∧
      (s.slot 5).deadline ≠ .passed := by
  refine ⟨follows_of_check _ (by decide), dispatch_of_one 5 (by decide) (by decide) ?_ (by decide) rfl (by decide), by decide, by decide,
    .silence 9 (by decide) (by decide) rfl (by decide) rfl, by decide⟩
  exact legal_one_leg (readOf (.single 3)) (legOf .onWire none 1) (by simp [readOf]) rfl

/-- A PAIR leg on its primary, segment 3, with the secondary, segment 4, OFF or ACTIVE. -/
def pairOnWire (l : LineState) : State := (onWire (.pair 3 4) (some .primary) 0).setSeg 4 (segIn l)

theorem witness_FrameEndFailsOver : ∀ l ∈ [LineState.off, .active],
    let s := pairOnWire l
    IdleTimersFollow s ∧ DispatchLegal s ∧ (s.seg 3).lineState = .active ∧ (s.seg 3).frame = some readFrame ∧
      EndsFrame (s.seg 3) 3 readFrame (.windowEnd ⟨3, 9⟩) .noResponse [] ∧ readFrame.carrier = .exchange 5 ∧
      (s.slot 5).state = .live ∧ (s.slot 5).exchange = some (readOf (.pair 3 4)) ∧
      (s.slot 5).legs = [legOf .onWire (some .primary) 0] ∧ (s.slot 5).abortPending = false ∧
      (s.slot 5).deadline ≠ .passed ∧ (s.slot 5).failoverUsed = false ∧ (s.seg 4).lineState = l := by
  intro l hl
  have h3 : (pairOnWire l).seg 3 = framing .responseIn (some 52) readFrame := rfl
  have h5 : (pairOnWire l).slot 5 = exchanging (readOf (.pair 3 4)) (legOf .onWire (some .primary) 0) := rfl
  refine ⟨follows_of_check _ ?_, dispatch_of_one 5 ?_ ?_ ?_ ?_ rfl
    (by decide : ∀ e, (State.reset.map.get e).kind = .pair → (State.reset.map.get e).segA ≠ (State.reset.map.get e).segB),
    rfl, rfl, .silence 9 (by decide) rfl rfl (by rw [h3]; simp [framing]) rfl, rfl,
    rfl, rfl, rfl, rfl, ?_, rfl, rfl⟩
  · revert l
    decide
  · revert l
    decide
  · revert l
    decide
  · rw [h5]
    constructor
    · simp [exchanging]
    · simp [exchanging]
    · intro x a b hx ht
      obtain rfl := Option.some.inj hx
      obtain ⟨rfl, rfl⟩ : 3 = a ∧ 4 = b := by simpa [readOf] using ht
      exact ⟨by decide, _, rfl, .inl ⟨rfl, rfl⟩⟩
    · intro x hx ht
      obtain rfl := Option.some.inj hx
      exact absurd rfl (ht 3 4)
    · simp [exchanging]
  · rw [h5]
    simp [exchanging]
  · rw [h5]
    simp [exchanging, Slot.empty]

/-- The first, the fourteenth and the last bit of the lead-in while it is driven, each with the level expected; both bits of the gap
with the line released; a byte in reception. -/
theorem witness_DetectionsEnterRecover :
    (∀ b ∈ [((0 : Nat), Level.dominant), (13, .dominant), (15, .recessive)],
      let s := withSeg { framing .leadIn (some 16) writeFrame with line := .sending leadInLevels }
      IdleTimersFollow s ∧ (s.seg 3).lineState = .active ∧ (s.seg 3).frame = some writeFrame ∧
        (s.seg 3).phase ∈ [.leadIn, .header, .responseOut] ∧ (s.seg 3).line = .sending leadInLevels ∧
        leadInLevels[b.1]? = some b.2) ∧
    (let s := withSeg (framing .gap (some 2) writeFrame)
     IdleTimersFollow s ∧ (s.seg 3).phase = .gap ∧ (s.seg 3).frame = some writeFrame ∧ (s.seg 3).line = .released) ∧
    IdleTimersFollow (withSeg answering) ∧ ((withSeg answering).seg 3).lineState = .active ∧
      ((withSeg answering).seg 3).frame = some { writeFrame with inReception := true } ∧
      ((withSeg answering).seg 3).phase = .ackWait := by
  refine ⟨fun b hb => ⟨follows_of_check _ (by decide), by decide, by decide, by decide, by decide, ?_⟩,
    ⟨follows_of_check _ (by decide), by decide⟩, follows_of_check _ (by decide), by decide⟩
  revert b
  decide

/-! ### The line watch -/

theorem witness_NoiseRunAndGuardChangeOneField :
    IdleTimersFollow (withSeg guarding) ∧ ((withSeg guarding).seg 3).lineState = .active ∧ ((withSeg guarding).seg 3).phase = .guard ∧
    IdleTimersFollow (withSeg idling) ∧ ((withSeg idling).seg 3).lineState = .active ∧ ((withSeg idling).seg 3).phase = .idle ∧
    IdleTimersFollow (withSeg { segIn .syncing with run := .interrupted }) ∧
      ((withSeg { segIn .syncing with run := .interrupted }).seg 3).run ≠ .notMeasured ∧
      ((withSeg { segIn .syncing with run := .interrupted }).seg 3).lineState = .syncing ∧
      ((withSeg { segIn .syncing with run := .interrupted }).seg 3).run = .interrupted :=
  ⟨follows_of_check _ (by decide), by decide, by decide, follows_of_check _ (by decide), by decide, by decide,
    follows_of_check _ (by decide), by decide⟩

/-- A segment for each fault: IDLE and GUARD, SYNCING, WAKING, the listening phases, DORMANT without a pulse. -/
theorem witness_LineFaultsEnterFaulted :
    ∀ x ∈ [idling, guarding, segIn .syncing, segIn .waking, answering, framing .responseIn (some 52) readFrame,
      framing .recover none readFrame, segIn .dormant],
    IdleTimersFollow (withSeg x) ∧ (withSeg x).seg 3 = x := by
  intro x hx
  refine ⟨follows_of_check _ ?_, ?_⟩
  · revert x
    decide
  · simp [withSeg]

/-- A fault with nothing to end or lose; one of a held segment that slot 5's LIVE HOLD names. -/
theorem witness_LineFaultsEnterFaulted_holds :
    (IdleTimersFollow (withSeg idling) ∧ ((withSeg idling).seg 3).frame = none ∧ (withSeg idling).queue 3 = [] ∧
      ((withSeg idling).seg 3).hold = .none ∧ ((withSeg idling).seg 3).pendingOp = none ∧
      ∀ i, ¬ HoldEnds (withSeg idling) 3 .fault i) ∧
    ∀ own ∈ [(0x18 : SegSet), 0x10], ∀ h ∈ [Hold.held 1 5, .draining 1 5, .none],
      let s := busy (liveHold own) { guarding with hold := h }
      IdleTimersFollow s ∧ DispatchLegal s ∧ (s.seg 3).hold = h ∧ HoldEnds s 3 .fault 5 ∧ (s.slot 5).exchange = none ∧
        (s.slot 5).cq = some 0 ∧ (s.slot 5).ring = some 1 ∧ (s.slot 5).ownSet = own ∧ (s.ring 1).config = some (configOf 1) ∧
        (s.cq 0).state = .active ∧ (s.cq 0).noticesWaiting = 0 := by
  refine ⟨⟨follows_of_check _ (by decide), by decide, by decide, by decide, by decide, fun _ => no_holdEnds (by decide) _ _ _⟩,
    fun own ho h hh => ⟨follows_of_check _ ?_, dispatch_of_one 5 ?_ ?_ ?_ ?_ rfl (by decide : ∀ e,
      (State.reset.map.get e).kind = .pair → (State.reset.map.get e).segA ≠ (State.reset.map.get e).segB), ?_,
      ⟨?_, ?_, ?_, nofun⟩, ?_⟩⟩
  case refine_4 => exact legal_liveHold _
  all_goals
    revert h own
    decide

/-- A window with a dominant level on the line as it ends: a STOP waiting, the segment DRAINING, or neither. -/
theorem witness_LineFaultsEnterFaulted_window : ∀ p ∈ [none, some ({ op := .stop, slot := 5 } : PendingOp)],
    ∀ h ∈ [Hold.none, .held 1 5, .draining 1 6],
    let s := busy (requesting 0 .segStop (.segStop 3))
      { framing .responseIn (some 52) readFrame with pendingOp := p, hold := h }
    IdleTimersFollow s ∧ (s.seg 3).lineState = .active ∧ (s.seg 3).phase = .responseIn ∧ (s.seg 3).frame = some readFrame ∧
      readFrame.inReception = false ∧ (s.seg 3).phaseBits ≠ none ∧ (s.seg 3).pendingOp = p ∧ (s.seg 3).hold = h := by
  intro p hp h hh
  refine ⟨follows_of_check _ ?_, ?_⟩ <;> revert h <;> revert p <;> decide

/-- Slot 5's frame is on the wire in RECOVER; and slot 5's START is pending in SYNCING. -/
theorem witness_LineFaultsEnterFaulted_ends :
    (let s := acting 1 (framing .recover none readFrame) (exchanging (readOf (.single 3)) (legOf .onWire none 2)) []
     IdleTimersFollow s ∧ DispatchLegal s ∧ (s.seg 3).frame = some readFrame ∧ readFrame.carrier = .exchange 5 ∧
      (s.slot 5).state = .live ∧ legOf .onWire none 2 ∈ (s.slot 5).legs ∧ (s.slot 5).cq = some 0) ∧
    (let s := acting 1 { segIn .syncing with pendingOp := some { op := .start, slot := 5 } } (requesting 0 .segStart (.segStart 3)) []
     IdleTimersFollow s ∧ (s.seg 3).pendingOp = some { op := .start, slot := 5 } ∧ (s.slot 5).state = .live ∧
      (s.slot 5).exchange = none ∧ (s.slot 5).kind ≠ some .hold ∧ (s.slot 5).cq = some 0) :=
  ⟨⟨(acting_arrives 1 (.inr rfl) _ _ _ (by decide)).2, acting_dispatch 1 (.inr rfl) _ .onWire, by decide⟩,
    (acting_arrives 1 (.inr rfl) _ _ _ (by decide)).2, by decide⟩

theorem witness_SyncCompleteEndsStart :
    let s := busy (requesting 0 .segStart (.segStart 3))
      { segIn .syncing with run := .counting, pendingOp := some { op := .start, slot := 5 } }
    IdleTimersFollow s ∧ (s.seg 3).lineState = .syncing ∧ (s.seg 3).run = .counting ∧
      (s.seg 3).pendingOp = some { op := .start, slot := 5 } ∧ (s.slot 5).state = .live ∧ (s.slot 5).exchange = none ∧
      (s.slot 5).cq = some 0 :=
  ⟨follows_of_check _ (by decide), by decide⟩

/-! ### Bytes and records -/

/-- The identifiers and lengths at the ends of their ranges. -/
theorem witness_HeaderBytesAndLevels :
    (∀ id ∈ [0, 127], ∀ n ∈ [0, 8], ({ readFrame with id := id, length := n } : Frame).id < 128 ∧
      ({ readFrame with id := id, length := n } : Frame).length ≤ 8) ∧
      ({ readFrame with id := 19, length := 4 } : Frame).direction = .dirIn ∧
      ({ writeFrame with id := 5, length := 2 } : Frame).direction = .dirOut := by
  decide

theorem witness_RecordsAreSixteenBytes :
    let r : Result := { plainResult .tooLate 8 zeroArea with attempts := 255 }
    let s := ready.setSlot 5 (doneWith (exchanging (readOf (.single 3)) (legOf .finished none 2)) r)
    (s.slot 5).result = some r ∧ (s.slot 5).tag = some 0x0310 ∧ (s.slot 5).ring = some 1 ∧ r.area.length = 8 ∧
      r.attempts < 256 ∧ r.length < 256 := by
  decide

end Sys2Proof.Tests
end

/-! ### Requests with arguments: the ordered checks, the hand-over and the answer (R9, R13, R144) -/

section
namespace Sys2Proof.Machine

theorem firstFailure_eq_none_iff (l : List (Bool × Status)) : firstFailure l = none ↔ ∀ c ∈ l, c.1 = true := by
  induction l with
  | nil => simp [firstFailure]
  | cons c rest ih =>
    obtain ⟨ok, status⟩ := c
    cases ok
    · simp [firstFailure]
    · simpa [firstFailure] using ih

/-- The status of a refusal is that of a check in the list that fails. -/
theorem mem_of_firstFailure_eq_some {l : List (Bool × Status)} {status : Status} (h : firstFailure l = some status) :
    (false, status) ∈ l := by
  induction l with
  | nil => cases h
  | cons c rest ih =>
    obtain ⟨ok, st⟩ := c
    cases ok
    · obtain rfl := Option.some.inj h
      exact List.mem_cons_self
    · exact List.mem_cons_of_mem _ (ih h)

/-- A record of a kind with arguments that passes checks 1 to 3 of R9 is handed to the block of its kind (R13). -/
theorem State.checkRecord_eq_takeOperation (s : State) (i : SlotId) {r : Ring} {record : Record} {k : Kind} {args : OpArgs}
    (hk : kindOf record = some k) (hr : k.allowedOn r = true) (hz : record[7] = 0) (ha : argsOf k record = some args) :
    s.checkRecord i r record = (s.setSlot i { s.slot i with args := some args }).takeOperation i r args := by
  simp [State.checkRecord, hk, hr, reservedZero, hz, ha]

/-- FETCH_COMPLETE of such a record: its block runs on the slot of the arrival with the arguments copied (R8, R13). -/
theorem Arriving.exec_eq_takeOperation {s : State} {f : Fetch} {cfg : RingConfig} (h : Arriving s f cfg) {record : Record}
    (granted : Bool) {k : Kind} {args : OpArgs} (hk : kindOf record = some k) (hr : k.allowedOn f.ring = true)
    (hz : record[7] = 0) (ha : argsOf k record = some args) :
    exec (.fetchComplete ⟨record, granted⟩) s =
      settled (((s.consumed f cfg.size granted).setSlot f.slot { arrivedSlot s f cfg record with args := some args }).takeOperation
        f.slot f.ring args) := by
  rw [exec_fetchComplete h, State.checkRecord_eq_takeOperation _ _ hk hr hz ha, State.arrived, State.slot_setSlot_self,
    State.setSlot_setSlot]

/-- The slot of an arrival, its arguments copied, answered in a state `u` whose timers follow. -/
theorem settled_answer_arrivedSlot {u : State} (hu : IdleTimersFollow u) (s : State) (f : Fetch) (cfg : RingConfig)
    (record : Record) (args : Option OpArgs) (status : Status) :
    settled ((u.setSlot f.slot { arrivedSlot s f cfg record with args := args }).answer f.slot status) =
      .next (u.answered f.slot (answerRing f cfg)
        (doneWith { arrivedSlot s f cfg record with args := args } (plainResult status 0 zeroArea))) := by
  rw [State.answer_eq (c := answerRing f cfg) status (by simp [arrivedSlot, Slot.empty]) (by simp [arrivedSlot])
    (by simp [arrivedSlot]), State.slot_setSlot_self, State.setSlot_answered, settled,
    State.refreshIdle_of_follow (hu.answered _ _ _)]

theorem answerRing_of_admin {f : Fetch} (h : f.ring = 0) (cfg : RingConfig) : answerRing f cfg = 0 := if_pos h

end Sys2Proof.Machine
end

/-! ### Replacing a node map entry -/

section
namespace Sys2Proof.Machine

theorem State.map_setEntry (s : State) (d e : EntryId) (x : MapEntry) :
    (s.setEntry d x).map.get e = if d = e then x else s.map.get e := by
  simp only [State.setEntry, Vector.get_eq_getElem, Vector.getElem_set, Fin.ext_iff]

theorem State.setSlot_setEntry (s : State) (i : SlotId) (y : Slot) (e : EntryId) (x : MapEntry) :
    (s.setSlot i y).setEntry e x = (s.setEntry e x).setSlot i y := rfl

theorem State.setEntry_answered (s : State) (i : SlotId) (c : Cq) (y : Slot) (e : EntryId) (x : MapEntry) :
    (s.setEntry e x).answered i c y = (s.answered i c y).setEntry e x := by
  by_cases h : (s.cq c).state = .active
  · rw [State.answered_pos h, State.answered_pos (s := s.setEntry e x) h]; rfl
  · rw [State.answered_neg h, State.answered_neg (s := s.setEntry e x) h]; rfl

theorem State.map_answered (s : State) (i : SlotId) (c : Cq) (y : Slot) : (s.answered i c y).map = s.map := by
  rw [State.answered_eq]

theorem IdleTimersFollow.setEntry {s : State} (h : IdleTimersFollow s) (e : EntryId) (x : MapEntry) :
    IdleTimersFollow (s.setEntry e x) := h

theorem entryOf_eq_iff {b : Byte} (h : b.toNat ≤ 31) (e : EntryId) : entryOf b = e ↔ e.val = b.toNat := by
  simp only [entryOf, Fin.ext_iff, Fin.val_ofNat]
  omega

end Sys2Proof.Machine
end

/-! ### MAP_WRITE (R27, R28) -/

section
namespace Sys2Proof.Machine

theorem MapKind.ofCode_eq (code : Byte) : MapKind.ofCode code =
    if code = 0 then some .single else if code = 1 then some .pair else if code = 2 then some .fan else none := by
  simp only [MapKind.ofCode, ← BitVec.toNat_inj]
  split <;> simp_all

/-- What the checks of R27 ask of a MAP_WRITE. -/
def MapWriteArgs.Legal (a : MapWriteArgs) : Prop :=
  a.entry.toNat ≤ 31 ∧ (a.valid = false ∨
    a.kind.toNat ≤ 2 ∧ a.first.toNat ≤ a.last.toNat ∧
      a.idBase.toNat + (a.last.toNat - a.first.toNat) ≤ Config.lastFrameId ∧ (a.kind.toNat ≤ 1 → a.segA.toNat ≤ 7) ∧
      (a.kind = 1 → a.segB.toNat ≤ 7 ∧ a.segB ≠ a.segA) ∧ (a.kind = 2 → a.fanMask ≠ 0))

/-- The three kind codes, and the codes that name no kind. -/
theorem MapKind.code_cases (code : Byte) :
    (code = 0 ∨ code = 1 ∨ code = 2) ∨ 2 < code.toNat ∧ MapKind.ofCode code = none := by
  by_cases h : 2 < code.toNat
  · refine .inr ⟨h, ?_⟩
    rw [MapKind.ofCode_eq, if_neg, if_neg, if_neg] <;> rintro rfl <;> exact absurd h (by decide)
  · left
    bv_omega

theorem mapWriteChecks_pass_iff (a : MapWriteArgs) : firstFailure (mapWriteChecks a) = none ↔ a.Legal := by
  rw [firstFailure_eq_none_iff, MapWriteArgs.Legal]
  rcases hv : a.valid with _ | _
  · simp [mapWriteChecks, hv]
  · rcases MapKind.code_cases a.kind with hk | ⟨hk, hn⟩
    · rcases hk with hk | hk | hk <;> simp [mapWriteChecks, hv, hk, MapKind.ofCode_eq]
    · simp [mapWriteChecks, hv, hn, Nat.not_le.2 hk]

/-- Every check of R27 refuses with the one status. -/
theorem status_of_mem_mapWriteChecks {a : MapWriteArgs} {c : Bool × Status} (h : c ∈ mapWriteChecks a) : c.2 = .badRequest := by
  rcases hv : a.valid with _ | _
  · simp only [mapWriteChecks, hv, if_true, List.mem_singleton] at h
    rw [h]
  · simp only [mapWriteChecks, hv, Bool.true_eq_false, if_false, List.mem_cons, List.not_mem_nil, or_false] at h
    rcases h with rfl | rfl | rfl | rfl | rfl | rfl | rfl | rfl <;> rfl

theorem State.takeMapWrite_of_not_legal (s : State) (i : SlotId) {a : MapWriteArgs} (h : ¬ a.Legal) :
    s.takeMapWrite i a = s.refuse i .badRequest := by
  rw [← mapWriteChecks_pass_iff, ← ne_eq, Option.ne_none_iff_exists'] at h
  obtain ⟨status, hs⟩ := h
  obtain rfl : status = .badRequest := status_of_mem_mapWriteChecks (mem_of_firstFailure_eq_some hs)
  rw [State.takeMapWrite, hs]

theorem State.takeMapWrite_of_legal (s : State) (i : SlotId) {a : MapWriteArgs} (h : a.Legal) :
    s.takeMapWrite i a = (s.setEntry (entryOf a.entry) a.stored).answer i (.outcome .ok) := by
  rw [State.takeMapWrite, (mapWriteChecks_pass_iff a).2 h]

theorem MapWriteArgs.stored_of_not_valid {a : MapWriteArgs} (h : a.valid = false) : a.stored = MapEntry.empty := by
  simp [MapWriteArgs.stored, h]

/-- The entry stored for a legal kind: the fields it uses, the others zero (R25, R28). -/
theorem MapWriteArgs.stored_of_valid {a : MapWriteArgs} (h : a.valid = true) (hk : a.kind.toNat ≤ 2) : a.stored = {
    valid := true, first := a.first, last := a.last
    kind := if a.kind = 0 then .single else if a.kind = 1 then .pair else .fan
    segA := if a.kind = 2 then 0 else Fin.ofNat 8 a.segA.toNat
    segB := if a.kind = 1 then Fin.ofNat 8 a.segB.toNat else 0
    fanMask := if a.kind = 2 then a.fanMask else 0
    idBase := a.idBase, readOk := a.readOk, writeOk := a.writeOk } := by
  rcases MapKind.code_cases a.kind with hc | ⟨hc, -⟩
  · rcases hc with hc | hc | hc <;> simp [MapWriteArgs.stored, h, hc, MapKind.ofCode_eq, segOf]
  · omega

section
variable {s : State} {f : Fetch} {cfg : RingConfig} {record : Record} {a : MapWriteArgs}

theorem Arriving.exec_mapWrite (h : Arriving s f cfg) (granted : Bool) (hr : f.ring = 0) (hk : kindOf record = some .mapWrite)
    (hz : record[7] = 0) (ha : argsOf .mapWrite record = some (.mapWrite a)) :
    exec (.fetchComplete ⟨record, granted⟩) s =
      settled (((s.consumed f cfg.size granted).setSlot f.slot
        { arrivedSlot s f cfg record with args := some (.mapWrite a) }).takeMapWrite f.slot a) :=
  h.exec_eq_takeOperation granted hk (by simp [hr, Kind.allowedOn]) hz ha

/-- A MAP_WRITE that a check of R27 refuses. -/
theorem Arriving.exec_mapWrite_refused (h : Arriving s f cfg) (hi : IdleTimersFollow s) (granted : Bool) (hr : f.ring = 0)
    (hk : kindOf record = some .mapWrite) (hz : record[7] = 0) (ha : argsOf .mapWrite record = some (.mapWrite a))
    (hl : ¬ a.Legal) :
    exec (.fetchComplete ⟨record, granted⟩) s = .next ((s.consumed f cfg.size granted).answered f.slot 0
      (doneWith (arrivedSlot s f cfg record) (plainResult .badRequest 0 zeroArea))) := by
  rw [h.exec_mapWrite granted hr hk hz ha, State.takeMapWrite_of_not_legal _ _ hl, Arriving.refuse hi, answerRing_of_admin hr]

/-- A MAP_WRITE that passes the checks of R27 replaces its entry beside the answer OK (R28). -/
theorem Arriving.exec_mapWrite_accepted (h : Arriving s f cfg) (hi : IdleTimersFollow s) (granted : Bool) (hr : f.ring = 0)
    (hk : kindOf record = some .mapWrite) (hz : record[7] = 0) (ha : argsOf .mapWrite record = some (.mapWrite a))
    (hl : a.Legal) :
    exec (.fetchComplete ⟨record, granted⟩) s = .next (((s.consumed f cfg.size granted).answered f.slot 0
      (doneWith { arrivedSlot s f cfg record with args := some (.mapWrite a) } (plainResult (.outcome .ok) 0 zeroArea))).setEntry
        (entryOf a.entry) a.stored) := by
  rw [h.exec_mapWrite granted hr hk hz ha, State.takeMapWrite_of_legal _ _ hl, State.setSlot_setEntry,
    settled_answer_arrivedSlot ((hi.consumed f cfg.size granted).setEntry _ _), State.setEntry_answered, answerRing_of_admin hr]

end

/-- Settles O27: the checks of R27 are `MapWriteArgs.Legal`; a refusal is the answer alone, an acceptance the answer and the
replaced entry. -/
theorem mapWriteReplacesEntry : Obligations.MapWriteReplacesEntry := by
  intro s f cfg record granted a h hi hr hk hz ha x valid passes
  refine ⟨fun hl => h.exec_mapWrite_refused hi granted hr hk hz ha hl, fun hl => ?_⟩
  refine ⟨_, h.exec_mapWrite_accepted hi granted hr hk hz ha hl, rfl, fun e => ?_⟩
  obtain ⟨hentry, hvalid⟩ := hl
  rw [State.map_setEntry, State.map_answered, State.map_consumed]
  by_cases he : e.val = a.entry.toNat
  · rw [if_pos ((entryOf_eq_iff hentry e).2 he), if_neg (not_not.2 he)]
    rcases hvalid with hv | ⟨hkind, -⟩
    · rw [if_pos hv, MapWriteArgs.stored_of_not_valid hv]
    · split
      · exact MapWriteArgs.stored_of_not_valid ‹_›
      · exact MapWriteArgs.stored_of_valid (Bool.eq_true_of_not_eq_false ‹_›) hkind
  · rw [if_neg fun h => he ((entryOf_eq_iff hentry e).1 h), if_pos he]

end Sys2Proof.Machine
end

/-! ### Register writes outside and during a reset (R159, R161) -/

section
namespace Sys2Proof.Machine

theorem State.ready_iff (s : State) : s.ready = true ↔ s.resetting = none := by
  simp [State.ready]

theorem exec_rqPost_of_ready {s : State} (h : s.resetting = none) (r : Ring) (v : Word) :
    exec (.rqPost r v) s = .next (s.postProducer r v) :=
  congrArg Host.Outcome.next (if_pos (s.ready_iff.2 h))

theorem exec_cqRelease_of_ready {s : State} (h : s.resetting = none) (c : Cq) (v : Word) :
    exec (.cqRelease c v) s = .next (s.releaseEntries c v) :=
  congrArg Host.Outcome.next (if_pos (s.ready_iff.2 h))

section
variable {s : State} {kind : ResetKind} (h : s.resetting = some kind)
include h

theorem State.not_ready_of_resetting : s.ready = false := by
  simp [State.ready, h]

theorem exec_rqPost_of_resetting (r : Ring) (v : Word) : exec (.rqPost r v) s = .next s :=
  congrArg Host.Outcome.next (if_neg (by simp [State.not_ready_of_resetting h]))

theorem State.writeWord_of_resetting (offset : Nat) (v : Word) : s.writeWord offset v = s :=
  if_pos (State.not_ready_of_resetting h)

/-- No write of any width is taken while a reset is in progress. -/
theorem exec_registerWrite_of_resetting (offset : Nat) (width : AccessWidth) (v : BitVec 64) :
    exec (.registerWrite offset width v) s = .next s := by
  change execRegisterWrite offset width v s = .next s
  cases width <;> simp only [execRegisterWrite, State.writeWord_of_resetting h]

end

end Sys2Proof.Machine
end

/-! ### RQ_POST (R123, R124) -/

section
namespace Sys2Proof.Machine

theorem RequestRing.configured_iff (q : RequestRing) : q.configured = true ↔ q.state ≠ .unconfigured := by
  simp [RequestRing.configured]

theorem RequestRing.size_of_config {q : RequestRing} {cfg : RingConfig} (h : q.config = some cfg) : q.size = cfg.size := by
  simp [RequestRing.size, h]

theorem State.postProducer_of_unconfigured {s : State} {r : Ring} (h : (s.ring r).state = .unconfigured) (v : Word) :
    s.postProducer r v = s :=
  if_neg fun ⟨hc, _⟩ => (RequestRing.configured_iff _).1 hc h

/-- A ring without a configuration has size 0, so that every value is at or above it. -/
theorem State.postProducer_of_config_none {s : State} {r : Ring} (h : (s.ring r).config = none) (v : Word) :
    s.postProducer r v = s :=
  if_neg fun ⟨_, hv⟩ => by simp [RequestRing.size, h] at hv

theorem State.postProducer_of_config {s : State} {r : Ring} {cfg : RingConfig} (hs : (s.ring r).state ≠ .unconfigured)
    (hc : (s.ring r).config = some cfg) (v : Word) :
    s.postProducer r v =
      if v.toNat % 65536 < cfg.size then s.setRing r { s.ring r with producer := v.toNat % 65536 } else s := by
  simp only [State.postProducer, (RequestRing.configured_iff _).2 hs, RequestRing.size_of_config hc, true_and, State.modRing_eq,
    indexOf]

theorem registerAt_rqPost (r : Ring) : registerAt (0x100 + 4 * r.val) = some (.rqPost r) := by
  revert r
  decide

theorem State.readRegister_rqPost {s : State} (h : s.resetting = none) (r : Ring) :
    s.readRegister (0x100 + 4 * r.val) =
      if (s.ring r).state = .unconfigured then 0 else BitVec.ofNat 32 (s.ring r).consumer := by
  simp only [State.readRegister, registerAt_rqPost, s.ready_iff.2 h, if_true]
  rfl

/-- Two indices below the size lie apart in ring order by the offset that takes the one to the other. -/
theorem ringDistance_of_add {size start k : Nat} (hs : start < size) (hk : k < size) :
    ((start + k) % size + size - start) % size = k := by
  rcases Nat.lt_or_ge (start + k) size with h | h
  · rw [Nat.mod_eq_of_lt h, show start + k + size - start = k + size by omega, Nat.add_mod_right, Nat.mod_eq_of_lt hk]
  · rw [Nat.mod_eq_sub_mod h, Nat.mod_eq_of_lt (show start + k - size < size by omega),
      show start + k - size + size - start = k by omega, Nat.mod_eq_of_lt hk]

/-- A producer index `k` ahead of the consumer index in ring order leaves `k` records pending (R124). -/
theorem RequestRing.pendingCount_of_ahead {q : RequestRing} {cfg : RingConfig} {k : Nat} (hc : q.config = some cfg)
    (hq : q.consumer < cfg.size) (hk : k < cfg.size) (hp : q.producer = (q.consumer + k) % cfg.size) : q.pendingCount = k := by
  rw [RequestRing.pendingCount, RequestRing.size_of_config hc, hp, ringDistance_of_add hq hk]

/-- Settles O17, with the cases of R123's table as the equations of `State.postProducer`. -/
theorem rqPostSetsProducerIndex : Obligations.RqPostSetsProducerIndex := by
  intro s r v h
  refine ⟨?_, State.readRegister_rqPost h r, ?_, ?_⟩
  · rw [exec_rqPost_of_ready h]
    split
    · rw [State.postProducer_of_unconfigured ‹_›]
    · rw [State.postProducer_of_config_none ‹_›]
    next cfg hc hs => rw [State.postProducer_of_config hs hc]
  · intro cfg k hs hc _ hq hk hv
    have hlt : v.toNat % 65536 < cfg.size := hv ▸ Nat.mod_lt _ (by omega)
    refine ⟨_, exec_rqPost_of_ready h r v, ?_⟩
    rw [State.postProducer_of_config hs hc, if_pos hlt, State.ring_setRing_self]
    exact RequestRing.pendingCount_of_ahead hc hq hk hv
  · exact ⟨exec_rqPost_of_resetting rfl r v, exec_registerWrite_of_resetting rfl⟩

end Sys2Proof.Machine
end

/-! ### CQ_RELEASE (R133, R134, R141) -/

section
namespace Sys2Proof.Machine

/-- A ring whose message is sent: disarmed, nothing counted, timer stopped (R141). -/
def CompletionRing.signalled (q : CompletionRing) : CompletionRing :=
  { q with armed := false, sinceMessage := 0, delayTimer := .stopped }

/-- A ring that takes a CQ_RELEASE of index `i` (R134). -/
def CompletionRing.releasedTo (q : CompletionRing) (i : Nat) : CompletionRing :=
  { q with release := i, unreleased := if i = q.producer then 0 else q.unreleased - q.released i }

theorem State.sendMessage_eq (s : State) (c : Cq) : s.sendMessage c =
    { s.setCq c (s.cq c).signalled with msgPending := s.msgPending.set c.val true c.isLt } := rfl

theorem State.sendMessage_setCq (s : State) (c : Cq) (q : CompletionRing) : (s.setCq c q).sendMessage c =
    { s.setCq c q.signalled with msgPending := s.msgPending.set c.val true c.isLt } := by
  rw [State.sendMessage_eq, State.cq_setCq_self, State.setCq_setCq, State.setCq_msgPending]

/-- The delay timer of an armed ring: a delay of 0 runs out at once and sends the message (R140). -/
theorem State.startDelay_setCq_of_armed (s : State) (c : Cq) {q : CompletionRing} (h : q.armed = true) :
    (s.setCq c q).startDelay c =
      if q.delay = 0 then (s.setCq c q).sendMessage c else s.setCq c { q with delayTimer := .running q.delay } := by
  simp only [State.startDelay, State.delayRunsOut, State.cq_setCq_self, State.modCq_eq, State.setCq_setCq, h, if_true]

/-- R141's table for a re-armed ring. -/
theorem State.rearm_setCq (s : State) (c : Cq) (q : CompletionRing) : (s.setCq c q).rearm c =
    if q.sinceMessage = 0 then s.setCq c { q with armed := true }
    else if q.count ≤ q.sinceMessage then (s.setCq c q).sendMessage c
    else if q.delay = 0 then (s.setCq c q).sendMessage c
    else s.setCq c { q with armed := true, delayTimer := .running q.delay } := by
  simp only [State.rearm, State.cq_setCq_self, State.modCq_eq, State.setCq_setCq, State.startDelay_setCq_of_armed]
  simp only [State.sendMessage_setCq]
  rfl

/-- The CQ_RELEASE indices that R134 ignores: all of a ring that is not ACTIVE, those outside the ring, and those other
than its producer index that would release as many entries as are unreleased, or more. -/
def CompletionRing.Ignores (q : CompletionRing) (i : Nat) : Prop :=
  q.state ≠ .active ∨ q.size ≤ i ∨ (i ≠ q.producer ∧ q.unreleased ≤ q.released i)

theorem State.releaseEntries_of_ignores {s : State} {c : Cq} {v : Word} (h : (s.cq c).Ignores (indexOf v)) :
    s.releaseEntries c v = s := by
  rcases h with hs | hi | ⟨hp, hu⟩
  · exact if_pos (Or.inl hs)
  · exact if_pos (Or.inr hi)
  · simp only [State.releaseEntries, hp, if_false, Nat.not_lt.2 hu, ite_self]

theorem State.releaseEntries_of_not_ignores {s : State} {c : Cq} {v : Word} (h : ¬ (s.cq c).Ignores (indexOf v)) :
    s.releaseEntries c v = (s.setCq c ((s.cq c).releasedTo (indexOf v))).rearm c := by
  obtain ⟨hs, hi, hr⟩ : (s.cq c).state = .active ∧ indexOf v < (s.cq c).size ∧
      (indexOf v ≠ (s.cq c).producer → (s.cq c).released (indexOf v) < (s.cq c).unreleased) := by
    simpa [CompletionRing.Ignores] using h
  rw [State.releaseEntries, if_neg (by simp [hs, hi])]
  by_cases hp : indexOf v = (s.cq c).producer
  · rw [if_pos hp, CompletionRing.releasedTo, if_pos hp]
  · rw [if_neg hp, if_pos (hr hp), CompletionRing.releasedTo, if_neg hp]

theorem CompletionRing.size_of_config {q : CompletionRing} {cfg : CqConfig} (h : q.config = some cfg) : q.size = cfg.size := by
  simp [CompletionRing.size, h]

theorem CompletionRing.count_of_config {q : CompletionRing} {cfg : CqConfig} (h : q.config = some cfg) : q.count = cfg.count := by
  simp [CompletionRing.count, h]

theorem CompletionRing.delay_of_config {q : CompletionRing} {cfg : CqConfig} (h : q.config = some cfg) : q.delay = cfg.delay := by
  simp [CompletionRing.delay, h]

/-- The entries from the release index on are the unreleased ones: none, or the whole ring, closes the circle (R134). -/
theorem CqLegal.release_eq_producer {q : CompletionRing} (h : CqLegal q) {cfg : CqConfig} (hc : q.config = some cfg)
    (hu : q.unreleased = cfg.size ∨ q.unreleased = 0) : q.release = q.producer := by
  obtain ⟨-, -, -, -, -, -, hr, -, hp⟩ := h.config cfg hc
  rw [← hp]
  rcases hu with hu | hu
  · rw [hu, Nat.add_mod_right, Nat.mod_eq_of_lt hr]
  · rw [hu, Nat.add_zero, Nat.mod_eq_of_lt hr]

/-- An ACTIVE ring with a head to write is held back by fullness alone (R133). -/
theorem CompletionRing.writable_iff {q : CompletionRing} {cfg : CqConfig} (hc : q.config = some cfg) (ha : q.state = .active)
    (hb : q.backlog ≠ []) : q.writable = true ↔ q.unreleased < cfg.size := by
  simp [CompletionRing.writable, CompletionRing.size_of_config hc, ha, hb]

/-- Settles O18: what R134 takes is `State.releaseEntries_of_not_ignores`, what re-arming does is `State.rearm_setCq`. -/
theorem cqReleaseFreesEntriesAndRearms : Obligations.CqReleaseFreesEntriesAndRearms := by
  refine ⟨fun s c v h hs => ?_, fun s c cfg h hc => ?_, fun s c v cfg h hc => ?_⟩
  · rw [exec_cqRelease_of_ready h, State.releaseEntries_of_ignores (Or.inl hs)]
  · exact ⟨(h c).release_eq_producer hc, CompletionRing.writable_iff hc⟩
  · intro q i freed released sent
    have hsize : q.size = cfg.size := CompletionRing.size_of_config hc
    have hfreed : q.released i = freed := by rw [CompletionRing.released, hsize]
    have hreleased : (s.cq c).releasedTo (indexOf v) = released :=
      show q.releasedTo i = released by rw [CompletionRing.releasedTo, hfreed]
    have hcount : released.count = cfg.count := CompletionRing.count_of_config hc
    have hdelay : released.delay = cfg.delay := CompletionRing.delay_of_config hc
    rw [exec_cqRelease_of_ready h, ← hsize, ← hfreed]
    split
    next hi => rw [State.releaseEntries_of_ignores hi]
    next hi =>
      rw [State.releaseEntries_of_not_ignores hi, hreleased, State.rearm_setCq, State.sendMessage_setCq, hcount, hdelay]
      rfl

end Sys2Proof.Machine
end

/-! ### SEGMENT_CONFIG (R80, R150) -/

section
namespace Sys2Proof.Machine

/-! #### The nine checks -/

theorem firstFailure_cons (ok : Bool) (status : Status) (rest : List (Bool × Status)) :
    firstFailure ((ok, status) :: rest) = if ok = false then some status else firstFailure rest := by
  cases ok <;> rfl

/-- The checks of R150 in their order, each by what fails it. -/
theorem State.firstFailure_segConfigChecks (s : State) (a : SegConfigArgs) : firstFailure (s.segConfigChecks a) =
    if 7 < a.seg.toNat then some .badRequest
    else if a.bitTicks.toNat < 200 ∨ 20833 < a.bitTicks.toNat then some .badRequest
    else if a.wbase.toNat < 4 ∨ 63 < a.wbase.toNat then some .badRequest
    else if a.wbyte.toNat < 10 ∨ 15 < a.wbyte.toNat then some .badRequest
    else if a.guard.toNat < 4 then some .badRequest
    else if a.wakeSettle = 0 then some .badRequest
    else if 1 < a.wakeOnDemand.toNat then some .badRequest
    else if 3 < a.noticeCq.toNat then some .badRequest
    else if (s.seg (segOf a.seg)).lineState ≠ .off then some .inUse
    else none := by
  have hsettle : a.wakeSettle.toNat < 1 ↔ a.wakeSettle = 0 := by bv_omega
  simp only [State.segConfigChecks, firstFailure_cons, Bool.and_eq_false_iff, decide_eq_false_iff_not, not_le, hsettle,
    firstFailure, ne_eq]

/-- The checks read one segment record of the state, which the arrival of the request leaves as it was. -/
theorem State.segConfigChecks_consumed (s : State) (f : Fetch) (n : Nat) (granted : Bool) (x : Slot) (a : SegConfigArgs) :
    ((s.consumed f n granted).setSlot f.slot x).segConfigChecks a = s.segConfigChecks a := by
  simp only [State.segConfigChecks, State.seg_setSlot, State.seg_consumed]

/-- The ninth check: a configuration is accepted for an OFF segment alone. -/
theorem State.off_of_segConfigChecks {s : State} {a : SegConfigArgs} (h : firstFailure (s.segConfigChecks a) = none) :
    (s.seg (segOf a.seg)).lineState = .off := by
  have hlast := (firstFailure_eq_none_iff _).1 h (decide ((s.seg (segOf a.seg)).lineState = .off), .inUse) (by
    simp [State.segConfigChecks])
  exact of_decide_eq_true hlast

/-! #### Idle timers beside a replaced segment record (R89) -/

theorem Segment.idleTimerFor_of_not_active {x : Segment} (h : x.lineState ≠ .active) (q : List SlotId) :
    x.idleTimerFor q = .stopped := by
  simp [Segment.idleTimerFor, Segment.idleRuns, h]

theorem IdleTimersFollow.setSeg {s : State} (h : IdleTimersFollow s) {g : Seg} {y : Segment}
    (hy : y.idleTimer = y.idleTimerFor (s.queue g)) : IdleTimersFollow (s.setSeg g y) := by
  rw [idleTimersFollow_iff] at h ⊢
  intro k
  rw [State.seg_setSeg, State.queue_setSeg]
  split
  next hk => rw [← hk, hy]
  next => exact h k

/-! #### The configured segment and the answer -/

/-- The segment record once a SEGMENT_CONFIG is accepted (R80). -/
def Segment.configuredWith (x : Segment) (a : SegConfigArgs) : Segment := { x with configured := true, config := a.config }

/-- The idle timer of an OFF segment is stopped whatever its configuration (R89). -/
theorem IdleTimersFollow.setSeg_configuredWith {s : State} (h : IdleTimersFollow s) {g : Seg} (hoff : (s.seg g).lineState = .off)
    (a : SegConfigArgs) : IdleTimersFollow (s.setSeg g ((s.seg g).configuredWith a)) := by
  have hne : (s.seg g).lineState ≠ .active := by simp [hoff]
  refine h.setSeg ?_
  calc (s.seg g).idleTimer
      = (s.seg g).idleTimerFor (s.queue g) := (idleTimersFollow_iff s).1 h g
    _ = .stopped := Segment.idleTimerFor_of_not_active hne _
    _ = ((s.seg g).configuredWith a).idleTimerFor (s.queue g) :=
      (Segment.idleTimerFor_of_not_active (x := (s.seg g).configuredWith a) hne _).symm

theorem State.takeSegConfig_of_fails {s : State} {a : SegConfigArgs} {status : Status}
    (h : firstFailure (s.segConfigChecks a) = some status) (i : SlotId) : s.takeSegConfig i a = s.refuse i status := by
  rw [State.takeSegConfig, h]

theorem State.takeSegConfig_of_passes {s : State} {a : SegConfigArgs} (h : firstFailure (s.segConfigChecks a) = none) (i : SlotId) :
    s.takeSegConfig i a =
      (s.setSeg (segOf a.seg) ((s.seg (segOf a.seg)).configuredWith a)).answer i (.outcome .ok) := by
  rw [State.takeSegConfig, h]
  rfl

theorem State.setSlot_setSeg (s : State) (i : SlotId) (x : Slot) (g : Seg) (y : Segment) :
    (s.setSlot i x).setSeg g y = (s.setSeg g y).setSlot i x := rfl

section
variable {s : State} {f : Fetch} {cfg : RingConfig} {record : Record} {a : SegConfigArgs}

theorem Arriving.exec_segConfig (h : Arriving s f cfg) (granted : Bool) (hr : f.ring = 0) (hk : kindOf record = some .segConfig)
    (hz : record[7] = 0) (ha : argsOf .segConfig record = some (.segConfig a)) :
    exec (.fetchComplete ⟨record, granted⟩) s =
      settled (((s.consumed f cfg.size granted).setSlot f.slot
        { arrivedSlot s f cfg record with args := some (.segConfig a) }).takeSegConfig f.slot a) :=
  h.exec_eq_takeOperation granted hk (by simp [hr, Kind.allowedOn]) hz ha

/-- A SEGMENT_CONFIG that a check of R150 refuses. -/
theorem settled_takeSegConfig_refused (hi : IdleTimersFollow s) (granted : Bool) {status : Status}
    (hs : firstFailure (s.segConfigChecks a) = some status) :
    settled (((s.consumed f cfg.size granted).setSlot f.slot
        { arrivedSlot s f cfg record with args := some (.segConfig a) }).takeSegConfig f.slot a) =
      .next ((s.consumed f cfg.size granted).answered f.slot (answerRing f cfg)
        (doneWith (arrivedSlot s f cfg record) (plainResult status 0 zeroArea))) := by
  rw [State.takeSegConfig_of_fails ((congrArg firstFailure (s.segConfigChecks_consumed f cfg.size granted _ a)).trans hs),
    Arriving.refuse hi]

/-- A SEGMENT_CONFIG that passes the checks of R150 configures its segment beside the answer OK (R80). -/
theorem settled_takeSegConfig_accepted (hi : IdleTimersFollow s) (granted : Bool) (hs : firstFailure (s.segConfigChecks a) = none) :
    settled (((s.consumed f cfg.size granted).setSlot f.slot
        { arrivedSlot s f cfg record with args := some (.segConfig a) }).takeSegConfig f.slot a) =
      .next (((s.consumed f cfg.size granted).answered f.slot (answerRing f cfg)
        (doneWith { arrivedSlot s f cfg record with args := some (.segConfig a) } (plainResult (.outcome .ok) 0 zeroArea))).setSeg
          (segOf a.seg) ((s.seg (segOf a.seg)).configuredWith a)) := by
  have hseg := State.seg_consumed s f cfg.size granted (segOf a.seg)
  have hoff := State.off_of_segConfigChecks hs
  have hfollow := (hi.consumed f cfg.size granted).setSeg_configuredWith (hseg ▸ hoff) a
  rw [State.takeSegConfig_of_passes ((congrArg firstFailure (s.segConfigChecks_consumed f cfg.size granted _ a)).trans hs),
    State.setSlot_setSeg, State.seg_setSlot, settled_answer_arrivedSlot hfollow, State.setSeg_answered, hseg]

end

/-- Settles O30: R150's order is `State.firstFailure_segConfigChecks`; a refusal is the answer alone, an acceptance the answer and
the configured segment. -/
theorem segmentConfigReplacesAllFields : Obligations.SegmentConfigReplacesAllFields := by
  intro s f cfg record granted a h hi hr hk hz ha x g refusal
  have hrefusal : firstFailure (s.segConfigChecks a) = refusal := s.firstFailure_segConfigChecks a
  rw [h.exec_segConfig granted hr hk hz ha, ← answerRing_of_admin hr cfg]
  clear_value refusal
  cases refusal with
  | some status => exact settled_takeSegConfig_refused hi granted hrefusal
  | none => exact settled_takeSegConfig_accepted hi granted hrefusal

end Sys2Proof.Machine
end

/-! ### What the work of a step may change: slots, queues, segment records and backlogs -/

section
namespace Sys2Proof.Machine

/-- How far a slot is from FREE on the way of R1's table. -/
def SlotState.rank : SlotState → Nat
  | .free => 0
  | .done => 1
  | .live => 2
  | .fetching => 3

/-- Record `y` is `x` but for what the blocks write into a slot while its state stays: who it belongs to, its arrival and its
exchange are kept (R2). -/
def Slot.Keeps (x y : Slot) : Prop :=
  y.state = x.state ∧ y.ring = x.ring ∧ y.arrival = x.arrival ∧ y.cq = x.cq ∧ y.kind = x.kind ∧ y.exchange = x.exchange

/-- Segment record `y` is `x` but that its hold may have ended, a DORMANT one may have started its wake pulse, and its counters
and idle timer may differ. -/
structure Segment.Eases (x y : Segment) : Prop where
  rest : y = { x with
    hold := y.hold, wakePulse := y.wakePulse, line := y.line, retries := y.retries, framesOk := y.framesOk
    framesFailed := y.framesFailed, lineEvents := y.lineEvents, idleTimer := y.idleTimer }
  hold : y.hold = x.hold ∨ y.hold = .none
  pulse : y.wakePulse = x.wakePulse ∧ y.line = x.line ∨
    x.lineState = .dormant ∧ x.wakePulse = none ∧ y.wakePulse ≠ none ∧ y.line = .wakePulse

/-- A change of legs and dispatch queues. A leg whose frame has ended, or is starting, is on a segment of `own`; where `legal` holds, the
op finds the leg as the dispatcher has it. -/
inductive LegOp (own : Seg → Prop) (legal : Prop) : State → State → Prop
  | checkDone (s : State) (i : SlotId) : LegOp own legal s (s.checkDone i)
  | leaveQueue (s : State) (i : SlotId) (g : Seg) (h : legal → i ∉ s.queue g) : LegOp own legal s (s.leaveQueue i g)
  | finishWaiting (s : State) (i : SlotId) (g : Seg) (o : LegOutcome) (h : legal → LegWaits s g i) :
      LegOp own legal s (s.finishWaiting i g o)
  | displace (s : State) (i : SlotId) (g b : Seg) (h : legal → LegWaits s g i)
      (hb : legal → ∃ x, (s.slot i).exchange = some x ∧ x.target = .pair g b) : LegOp own legal s ((s.leaveQueue i g).failover i g b)
  | finishLeg (s : State) (i : SlotId) (g : Seg) (o : LegOutcome) (hg : own g) (h : legal → LegOnWire s g i) :
      LegOp own legal s (s.finishLeg i g o)
  | failover (s : State) (i : SlotId) (g b : Seg) (hg : own g) (h : legal → LegOnWire s g i)
      (hb : legal → ∃ x, (s.slot i).exchange = some x ∧ x.target = .pair g b) : LegOp own legal s (s.failover i g b)
  | retry (s : State) (i : SlotId) (g : Seg) (hg : own g) (h : legal → LegOnWire s g i) : LegOp own legal s (s.retry i g)
  | pick (s : State) (i : SlotId) (g : Seg) (hg : own g) (h : legal → LegWaits s g i) :
      LegOp own legal s ((s.leaveQueue i g).modSlot i fun t => t.mapLeg g fun l => l.picked g)
  | join (s : State) (i : SlotId) (g : Seg) (h : ¬ legal) : LegOp own legal s (s.joinQueue i g)

/-- From `s` to `t` work has been done: slots changed and answered, notices posted, legs and queues changed; segment records eased,
those in `own` replaced by any with the same configuration. A slot that is answered is LIVE or one of `who`; `legal` stands for the
agreement of queues and legs at the start. -/
inductive Work (own : Seg → Prop) (who : SlotId → Prop) (legal : Prop) : State → State → Prop
  | refl (s : State) : Work own who legal s s
  | trans {s t u : State} : Work own who legal s t → Work own who legal t u → Work own who legal s u
  | slot (s : State) (i : SlotId) (x : Slot) (hk : (s.slot i).Keeps x) (hl : x.legs = (s.slot i).legs)
      (hf : x.failoverUsed = (s.slot i).failoverUsed) : Work own who legal s (s.setSlot i x)
  | ownSeg (s : State) (g : Seg) (x : Segment) (hg : own g)
      (hx : x.configured = (s.seg g).configured ∧ x.config = (s.seg g).config) : Work own who legal s (s.setSeg g x)
  | seg (s : State) (g : Seg) (x : Segment) (hx : (s.seg g).Eases x) : Work own who legal s (s.setSeg g x)
  | notice (s : State) (c : Cq) (n : Notice) : Work own who legal s (s.postNotice c n)
  | answerResult (s : State) (i : SlotId) (r : Result) (hi : who i ∨ (s.slot i).state = .live) :
      Work own who legal s (s.answerResult i r)
  | legOp {s t : State} (h : LegOp own legal s t) : Work own who legal s t

theorem Slot.Keeps.refl (x : Slot) : x.Keeps x := ⟨rfl, rfl, rfl, rfl, rfl, rfl⟩

theorem Segment.Eases.refl (x : Segment) : x.Eases x := ⟨rfl, .inl rfl, .inl ⟨rfl, rfl⟩⟩

theorem Segment.Eases.trans {x y z : Segment} (h : x.Eases y) (k : y.Eases z) : x.Eases z := by
  have hline : y.lineState = x.lineState := by rw [h.rest]
  refine ⟨by rw [k.rest, h.rest], ?_, ?_⟩
  · rcases k.hold with hk | hk
    · rw [hk]; exact h.hold
    · exact .inr hk
  · rcases k.pulse with ⟨hp, hl⟩ | ⟨hd, hn, hp, hl⟩
    · rw [hp, hl]; exact h.pulse
    · rcases h.pulse with ⟨hp', -⟩ | ⟨-, -, hp', -⟩
      · exact .inr ⟨hline ▸ hd, hp' ▸ hn, hp, hl⟩
      · exact absurd hn hp'

/-- What is reflexive, transitive and kept by a write of a slot, a queue or a wake, and by the end of an exchange, is kept by every leg
operation. -/
theorem LegOp.closed {R : State → State → Prop} (trans : ∀ s t u, R s t → R t u → R s u) (refl : ∀ s, R s s)
    (slot : ∀ s i x, (s.slot i).Keeps x → R s (s.setSlot i x)) (queue : ∀ s g l, R s (s.setQueue g l))
    (seg : ∀ s g x, (s.seg g).Eases x → R s (s.setSeg g x)) (done : ∀ s i, R s (s.checkDone i))
    {own : Seg → Prop} {legal : Prop} {s t : State} (h : LegOp own legal s t) : R s t := by
  have finishLeg (s : State) (i : SlotId) (g : Seg) (o : LegOutcome) : R s (s.finishLeg i g o) :=
    trans _ _ _ (slot s i _ (by exact ⟨rfl, rfl, rfl, rfl, rfl, rfl⟩)) (done _ i)
  have wake (s : State) (g : Seg) : R s (s.wakeOnDemand g) := by
    rw [State.wakeOnDemand_eq]
    split
    · rename_i h
      exact seg _ g _ ⟨rfl, .inl rfl, .inr ⟨h.1, h.2.2.1, by simp, rfl⟩⟩
    · exact refl _
  have join (s : State) (i : SlotId) (g : Seg) : R s (s.joinQueue i g) := trans _ _ _ (queue s g _) (wake _ g)
  have failover (s : State) (i : SlotId) (g b : Seg) : R s (s.failover i g b) :=
    trans _ _ _ (slot s i _ (by exact ⟨rfl, rfl, rfl, rfl, rfl, rfl⟩)) (join _ i b)
  cases h with
  | checkDone i => exact done s i
  | leaveQueue i g _ => exact queue s g _
  | finishWaiting i g o _ => exact trans _ _ _ (queue s g _) (finishLeg _ i g o)
  | displace i g b _ _ => exact trans _ _ _ (queue s g _) (failover _ i g b)
  | finishLeg i g o _ _ => exact finishLeg s i g o
  | failover i g b _ _ _ => exact failover s i g b
  | retry i g _ _ =>
    refine trans _ _ _ (trans _ _ _ (slot s i _ ?_) (seg _ g _ ?_)) (join _ i g)
    · exact ⟨rfl, rfl, rfl, rfl, rfl, rfl⟩
    · exact ⟨rfl, .inl rfl, .inl ⟨rfl, rfl⟩⟩
  | pick i g _ _ =>
    refine trans _ _ _ (queue s g _) (slot _ i _ ?_)
    exact ⟨rfl, rfl, rfl, rfl, rfl, rfl⟩
  | join i g _ => exact join s i g

theorem LegOp.mono {own own' : Seg → Prop} {legal legal' : Prop} (ho : ∀ g, own g → own' g) (hl : legal' → legal) {s t : State}
    (h : LegOp own legal s t) : LegOp own' legal' s t := by
  cases h with
  | checkDone i => exact .checkDone s i
  | leaveQueue i g h => exact .leaveQueue s i g (h ∘ hl)
  | finishWaiting i g o h => exact .finishWaiting s i g o (h ∘ hl)
  | displace i g b h hb => exact .displace s i g b (h ∘ hl) (hb ∘ hl)
  | finishLeg i g o hg h => exact .finishLeg s i g o (ho g hg) (h ∘ hl)
  | failover i g b hg h hb => exact .failover s i g b (ho g hg) (h ∘ hl) (hb ∘ hl)
  | retry i g hg h => exact .retry s i g (ho g hg) (h ∘ hl)
  | pick i g hg h => exact .pick s i g (ho g hg) (h ∘ hl)
  | join i g h => exact .join s i g (h ∘ hl)

namespace Work
variable {own : Seg → Prop} {who : SlotId → Prop} {legal : Prop}

theorem mono {own' : Seg → Prop} {who' : SlotId → Prop} {legal' : Prop} (ho : ∀ g, own g → own' g) (hw : ∀ i, who i → who' i)
    (hl : legal' → legal) {s t : State} (h : Work own who legal s t) : Work own' who' legal' s t := by
  induction h with
  | refl s => exact .refl s
  | trans _ _ h k => exact .trans h k
  | slot s i x hk hl hf => exact .slot s i x hk hl hf
  | ownSeg s g x hg hx => exact .ownSeg s g x (ho g hg) hx
  | seg s g x hx => exact .seg s g x hx
  | notice s c n => exact .notice s c n
  | answerResult s i r hi => exact .answerResult s i r (hi.imp_left (hw i))
  | legOp h => exact .legOp (h.mono ho hl)

theorem foldl {α : Type} {f : State → α → State} (h : ∀ s a, Work own who legal s (f s a)) (l : List α) (s : State) :
    Work own who legal s (l.foldl f s) := by
  induction l generalizing s with
  | nil => exact .refl s
  | cons a l ih => exact (h s a).trans (ih _)

theorem ite {s t u : State} {p : Prop} [Decidable p] (h : Work own who legal s t) (k : Work own who legal s u) :
    Work own who legal s (if p then t else u) := by
  split
  · exact h
  · exact k

/-- What is reflexive, transitive and kept by each single change is kept by work. -/
theorem closed {R : State → State → Prop} (trans : ∀ s t u, R s t → R t u → R s u) (refl : ∀ s, R s s)
    (slot : ∀ s i x, (s.slot i).Keeps x → R s (s.setSlot i x)) (queue : ∀ s g l, R s (s.setQueue g l))
    (ownSeg : ∀ s g x, own g → x.configured = (s.seg g).configured ∧ x.config = (s.seg g).config → R s (s.setSeg g x))
    (seg : ∀ s g x, (s.seg g).Eases x → R s (s.setSeg g x)) (notice : ∀ s c n, R s (s.postNotice c n))
    (answer : ∀ s i r, who i ∨ (s.slot i).state = .live → R s (s.answerResult i r)) (done : ∀ s i, R s (s.checkDone i))
    {s t : State} (h : Work own who legal s t) : R s t := by
  induction h with
  | refl s => exact refl s
  | trans _ _ h k => exact trans _ _ _ h k
  | slot s i x hk _ _ => exact slot s i x hk
  | ownSeg s g x hg hx => exact ownSeg s g x hg hx
  | seg s g x hx => exact seg s g x hx
  | notice s c n => exact notice s c n
  | answerResult s i r hi => exact answer s i r hi
  | legOp h => exact h.closed trans refl slot queue seg done

/-- A slot's own fields are written: legs and failover-used, state, ownership and exchange stay. -/
theorem minor (s : State) (i : SlotId) (x : Slot) (hk : (s.slot i).Keeps x) (hl : x.legs = (s.slot i).legs)
    (hf : x.failoverUsed = (s.slot i).failoverUsed) : Work own who legal s (s.setSlot i x) := .slot s i x hk hl hf

/-! #### Answers and holds -/

theorem answer (s : State) (i : SlotId) (status : Status) (hi : who i ∨ (s.slot i).state = .live) :
    Work own who legal s (s.answer i status) := .answerResult s i _ hi

theorem refuse (s : State) (i : SlotId) (status : Status) (hi : who i) : Work own who legal s (s.refuse i status) :=
  .trans (.minor s i _ (by exact ⟨rfl, rfl, rfl, rfl, rfl, rfl⟩) (by exact rfl) (by exact rfl)) (answer _ _ _ (.inl hi))

theorem setProgress (s : State) (i : SlotId) (p : Progress) : Work own who legal s (s.setProgress i p) :=
  .minor s i _ (by exact ⟨rfl, rfl, rfl, rfl, rfl, rfl⟩) (by exact rfl) (by exact rfl)

theorem recordProgress (s : State) (g : Seg) (op : SegOp) (p : Progress) : Work own who legal s (s.recordProgress g op p) := by
  unfold State.recordProgress
  split
  · exact ite (setProgress _ _ _) (.refl s)
  · exact .refl s

theorem clearHold (s : State) (g : Seg) : Work own who legal s (s.clearHold g) :=
  .seg s g _ ⟨rfl, .inr rfl, .inl ⟨rfl, rfl⟩⟩

theorem clearHoldsOf (s : State) (r : Ring) (gs : List Seg) : Work own who legal s (s.clearHoldsOf r gs) :=
  foldl (fun s g => ite (clearHold s g) (.refl s)) _ _

theorem slots_clearHoldsOf (s : State) (r : Ring) (gs : List Seg) : (s.clearHoldsOf r gs).slots = s.slots := by
  unfold State.clearHoldsOf
  induction gs generalizing s with
  | nil => rfl
  | cons g gs ih =>
    rw [List.foldl_cons, ih]
    split <;> rfl

theorem endHold (s : State) (status : Status) (i : SlotId) : Work own who legal s (s.endHold status i) := by
  unfold State.endHold
  dsimp only
  split
  · rename_i h
    split
    · refine (clearHoldsOf _ _ _).trans (answer _ _ _ (.inr ?_))
      unfold State.slot
      rw [slots_clearHoldsOf]
      exact h.1
    · exact answer _ _ _ (.inr h.1)
  · exact .refl s

theorem postHoldLost (s : State) (g : Seg) (why : HoldLoss) (r : Ring) : Work own who legal s (s.postHoldLost g why r) := by
  unfold State.postHoldLost
  split
  · exact .notice _ _ _
  · exact .refl s

theorem loseHold (s : State) (g : Seg) (why : HoldLoss) : Work own who legal s (s.loseHold g why) := by
  unfold State.loseHold
  refine .trans ?_ (foldl (fun s i => endHold s _ i) _ _)
  split
  · exact ite (clearHold _ _) ((clearHold _ _).trans (postHoldLost _ _ _ _))
  · exact clearHold _ _
  · exact .refl s

theorem postSegmentNotice (s : State) (g : Seg) (n : Notice) : Work own who legal s (s.postSegmentNotice g n) := .notice _ _ _

theorem joinHoldSets (s : State) (i : SlotId) (g : Seg) (o d : Bool) : Work own who legal s (s.joinHoldSets i g o d) :=
  .minor s i _ (by exact ⟨rfl, rfl, rfl, rfl, rfl, rfl⟩) (by exact rfl) (by exact rfl)

theorem checkHoldGranted (s : State) (i : SlotId) (hi : who i) : Work own who legal s (s.checkHoldGranted i) :=
  ite (answer _ _ _ (.inl hi)) (.refl s)

theorem wakeOnDemand (s : State) (g : Seg) : Work own who legal s (s.wakeOnDemand g) := by
  rw [State.wakeOnDemand_eq]
  split
  · rename_i h
    exact .seg s g _ ⟨rfl, .inl rfl, .inr ⟨h.1, h.2.2.1, by simp, rfl⟩⟩
  · exact .refl s

end Work

theorem State.segs_completeSlot (s : State) (i : SlotId) (r : Result) : (s.completeSlot i r).segs = s.segs := by
  unfold State.completeSlot State.postSlot
  split
  · split
    · rfl
    · split <;> rfl
  · rfl

/-! #### What work leaves -/

namespace Work
variable {own : Seg → Prop} {who : SlotId → Prop} {legal : Prop} {s t : State}

theorem onlyWork (h : Work own who legal s t) : OnlyWork s t :=
  h.closed (R := OnlyWork) (fun _ _ _ => .trans) .refl (fun s i x _ => .setSlot s i x) .setQueue
    (fun s g x _ hx => .setSeg s g x hx) (fun s g x hx => .setSeg s g x ⟨by rw [hx.rest], by rw [hx.rest]⟩) .postNotice
    (fun s i _ _ => .ite (.completeSlot s i _) (.refl s)) .checkDone

/-- A segment record that is not one of the own ones is eased. -/
theorem eases (h : Work own who legal s t) {g : Seg} (hg : ¬ own g) : (s.seg g).Eases (t.seg g) := by
  have keep {s t : State} (h : t.segs = s.segs) : (s.seg g).Eases (t.seg g) := by
    unfold State.seg
    rw [h]
    exact .refl _
  refine h.closed (R := fun s t => (s.seg g).Eases (t.seg g)) (fun _ _ _ => .trans) (fun _ => .refl _) (fun s i x _ => keep rfl)
    (fun s k l => keep rfl) (fun s k x hk _ => ?_) (fun s k x hx => ?_) (fun s c n => ?_) (fun s i r _ => ?_) (fun s i => ?_)
  · rw [State.seg_setSeg_of_ne _ _ _ _ fun e : k = g => hg (e ▸ hk)]
    exact .refl _
  · rw [State.seg_setSeg]
    split
    · rename_i e; exact e ▸ hx
    · exact .refl _
  · refine keep ?_
    rw [State.postNotice_eq]
    split_ifs <;> rfl
  · refine keep ?_
    unfold State.answerResult
    split
    · exact State.segs_completeSlot _ _ _
    · rfl
  · refine keep ?_
    unfold State.checkDone
    split
    · rfl
    · split
      · exact State.segs_completeSlot _ _ _
      · rfl

end Work

end Sys2Proof.Machine
end

/-! ### The agreement of queues and legs, kept by all work (R38 to R41) -/

section
namespace Sys2Proof.Machine

/-! #### Legs of a slot -/

/-- A slot has a leg on segment `g` in state `st`. -/
def Slot.HasLeg (t : Slot) (g : Seg) (st : LegState) : Prop := ∃ l ∈ t.legs, l.segment = g ∧ l.state = st

theorem legWaits_iff {s : State} {g : Seg} {i : SlotId} : LegWaits s g i ↔ (s.slot i).state = .live ∧ (s.slot i).HasLeg g .waiting :=
  Iff.rfl

theorem legOnWire_iff {s : State} {g : Seg} {i : SlotId} : LegOnWire s g i ↔ (s.slot i).state = .live ∧ (s.slot i).HasLeg g .onWire :=
  Iff.rfl

/-- No two legs of a slot are on one segment (R3). -/
theorem LegsLegal.unique {t : Slot} (h : LegsLegal t) {l m : Leg} (hl : l ∈ t.legs) (hm : m ∈ t.legs) (e : l.segment = m.segment) : l = m := by
  by_contra hne
  have : Std.Symm fun l m : Leg => l.segment ≠ m.segment := ⟨fun _ _ h => h.symm⟩
  exact h.distinct.forall hl hm hne e

theorem LegsLegal.hasLeg_state {t : Slot} (h : LegsLegal t) {g : Seg} {st st' : LegState} (hs : t.HasLeg g st) (hs' : t.HasLeg g st') :
    st = st' := by
  obtain ⟨l, hl, hg, rfl⟩ := hs
  obtain ⟨m, hm, hg', rfl⟩ := hs'
  rw [h.unique hl hm (hg.trans hg'.symm)]

theorem hasLeg_mapLeg_of_ne (t : Slot) {g k : Seg} (hk : g ≠ k) {f : Leg → Leg} (hf : ∀ l, (f l).segment = l.segment) (st : LegState) :
    (t.mapLeg g f).HasLeg k st ↔ t.HasLeg k st := by
  unfold Slot.HasLeg Slot.mapLeg
  constructor
  · rintro ⟨m, hm, hseg, hst⟩
    obtain ⟨l, hl, rfl⟩ := List.mem_map.1 hm
    by_cases hlg : l.segment = g
    · rw [if_pos hlg, hf] at hseg
      exact absurd (hlg.symm.trans hseg) hk
    · rw [if_neg hlg] at hseg hst
      exact ⟨l, hl, hseg, hst⟩
  · rintro ⟨l, hl, hseg, hst⟩
    refine ⟨l, List.mem_map.2 ⟨l, hl, if_neg ?_⟩, hseg, hst⟩
    rintro rfl
    exact hk hseg

theorem hasLeg_mapLeg_self (t : Slot) (g : Seg) {f : Leg → Leg} (hf : ∀ l, (f l).segment = l.segment) (st : LegState) :
    (t.mapLeg g f).HasLeg g st ↔ ∃ l ∈ t.legs, l.segment = g ∧ (f l).state = st := by
  unfold Slot.HasLeg Slot.mapLeg
  constructor
  · rintro ⟨m, hm, hseg, hst⟩
    obtain ⟨l, hl, rfl⟩ := List.mem_map.1 hm
    by_cases hlg : l.segment = g
    · rw [if_pos hlg] at hst
      exact ⟨l, hl, hlg, hst⟩
    · rw [if_neg hlg] at hseg
      exact absurd hseg hlg
  · rintro ⟨l, hl, hseg, hst⟩
    exact ⟨f l, List.mem_map.2 ⟨l, hl, if_pos hseg⟩, (hf l).trans hseg, hst⟩

/-- A leg of a LIVE slot may change in place, its segment and path kept. -/
theorem LegsLegal.mapLeg {t : Slot} (h : LegsLegal t) (g : Seg) {f : Leg → Leg} (hs : ∀ l, (f l).segment = l.segment)
    (hp : ∀ l, (f l).path = l.path) (hlive : t.state = .live) : LegsLegal (t.mapLeg g f) := by
  have hseg (l : Leg) : (if l.segment = g then f l else l).segment = l.segment := by
    split
    · exact hs l
    · rfl
  have hpath (l : Leg) : (if l.segment = g then f l else l).path = l.path := by
    split
    · exact hp l
    · rfl
  refine ⟨fun hx => ?_, ?_, fun x a b hx ht => ?_, fun x hx hn m hm => ?_, fun hn => absurd hlive hn⟩
  · exact (congrArg (List.map _) (h.noExchange hx)).trans rfl
  · refine List.pairwise_map.2 (h.distinct.imp ?_)
    intro l m hlm
    rw [hseg, hseg]
    exact hlm
  · obtain ⟨hab, l, hl, hside⟩ := h.pair x a b hx ht
    refine ⟨hab, _, (congrArg (List.map _) hl).trans rfl, ?_⟩
    rw [hpath, hseg]
    exact hside
  · obtain ⟨l, hl, rfl⟩ := List.mem_map.1 hm
    rw [hpath]
    exact h.noPath x hx hn l hl

/-! #### Queues in order -/

theorem State.ordersBefore_iff (s : State) (i j : SlotId) : s.ordersBefore i j = true ↔
    s.priorityOf j < s.priorityOf i ∨ s.priorityOf i = s.priorityOf j ∧ s.arrivalOf i < s.arrivalOf j := by
  simp [State.ordersBefore, State.arrivedBefore]

theorem State.ordersBefore_trans {s : State} {i j k : SlotId} (h : s.ordersBefore i j = true) (h' : s.ordersBefore j k = true) :
    s.ordersBefore i k = true := by
  rw [State.ordersBefore_iff] at *
  omega

/-- Slots of different arrivals have an order. -/
theorem State.ordersBefore_total {s : State} {i j : SlotId} (h : s.arrivalOf i ≠ s.arrivalOf j) :
    s.ordersBefore i j = true ∨ s.ordersBefore j i = true := by
  rw [State.ordersBefore_iff, State.ordersBefore_iff]
  omega

theorem pairwise_insertOrdered {α : Type} {r : α → α → Bool} (htrans : ∀ a b c, r a b = true → r b c = true → r a c = true) (x : α)
    {l : List α} (hl : l.Pairwise fun a b => r a b = true) (htotal : ∀ y ∈ l, r x y = true ∨ r y x = true) :
    (insertOrdered r x l).Pairwise fun a b => r a b = true := by
  induction l with
  | nil => exact List.pairwise_singleton _ _
  | cons y l ih =>
    obtain ⟨hy, hl'⟩ := List.pairwise_cons.1 hl
    unfold insertOrdered
    split
    · rename_i hxy
      exact List.pairwise_cons.2 ⟨fun z hz => (List.mem_cons.1 hz).elim (fun e => e ▸ hxy) fun hz => htrans _ _ _ hxy (hy z hz), hl⟩
    · rename_i hxy
      have hyx := (htotal y List.mem_cons_self).resolve_left hxy
      refine List.pairwise_cons.2 ⟨fun z hz => ?_, ih hl' fun z hz => htotal z (List.mem_cons_of_mem _ hz)⟩
      rcases (mem_insertOrdered r x z l).1 hz with rfl | hz
      · exact hyx
      · exact hy z hz

/-! #### One slot changes -/

/-- From `s` to `t` only slot `i` and its places in the queues have changed: it has left each queue where no leg of it waits, kept its
place, or joined anew. -/
structure SlotMoved (i : SlotId) (s t : State) : Prop where
  slots : ∀ j, j ≠ i → t.slot j = s.slot j
  lastArrival : t.lastArrival = s.lastArrival
  map : t.map = s.map
  queues : ∀ g, ¬ LegWaits t g i ∧ t.queue g = (s.queue g).filter (fun j => decide (j ≠ i)) ∨
    LegWaits t g i ∧ (i ∈ s.queue g ∧ t.queue g = s.queue g ∨
      t.queue g = insertOrdered t.ordersBefore i ((s.queue g).filter fun j => decide (j ≠ i)))
  key : (t.slot i).exchange = (s.slot i).exchange ∧ (t.slot i).arrival = (s.slot i).arrival ∨ ∀ g, i ∉ s.queue g

theorem SlotMoved.legWaits_of_ne {i : SlotId} {s t : State} (h : SlotMoved i s t) {j : SlotId} (hj : j ≠ i) (g : Seg) :
    LegWaits t g j ↔ LegWaits s g j := by
  unfold LegWaits
  rw [h.slots j hj]

theorem SlotMoved.ordersBefore {i : SlotId} {s t : State} (h : SlotMoved i s t) {j k : SlotId}
    (hj : j ≠ i ∨ (t.slot i).exchange = (s.slot i).exchange ∧ (t.slot i).arrival = (s.slot i).arrival)
    (hk : k ≠ i ∨ (t.slot i).exchange = (s.slot i).exchange ∧ (t.slot i).arrival = (s.slot i).arrival) :
    t.ordersBefore j k = s.ordersBefore j k := by
  have key {j : SlotId} (hj : j ≠ i ∨ (t.slot i).exchange = (s.slot i).exchange ∧ (t.slot i).arrival = (s.slot i).arrival) :
      t.priorityOf j = s.priorityOf j ∧ t.arrivalOf j = s.arrivalOf j := by
    unfold State.priorityOf State.arrivalOf
    by_cases e : j = i
    · obtain ⟨hx, ha⟩ := hj.resolve_left (not_not.2 e)
      rw [e, hx, ha]
      exact ⟨rfl, rfl⟩
    · rw [h.slots j e]
      exact ⟨rfl, rfl⟩
  unfold State.ordersBefore State.arrivedBefore
  rw [(key hj).1, (key hj).2, (key hk).1, (key hk).2]

/-- Queues and legs agree still once one slot has changed and taken its places. -/
theorem DispatchLegal.slotMoved {s t : State} (h : DispatchLegal s) {i : SlotId} (hm : SlotMoved i s t) (hlegs : LegsLegal (t.slot i))
    (harr : (t.slot i).state = .live → (∃ n, (t.slot i).arrival = some n ∧ n ≤ s.lastArrival) ∧
      ∀ j, j ≠ i → (s.slot j).state = .live → (s.slot j).arrival ≠ (t.slot i).arrival) : DispatchLegal t := by
  have harrived (j : SlotId) (hj : (t.slot j).state = .live) : ∃ n, (t.slot j).arrival = some n ∧ n ≤ t.lastArrival := by
    rw [hm.lastArrival]
    by_cases e : j = i
    · rw [e] at hj ⊢; exact (harr hj).1
    · rw [hm.slots j e] at hj ⊢; exact h.arrived j hj
  have horder (j k : SlotId) (hj : (t.slot j).state = .live) (hk : (t.slot k).state = .live)
      (e : (t.slot j).arrival = (t.slot k).arrival) : j = k := by
    by_cases hji : j = i <;> by_cases hki : k = i
    · rw [hji, hki]
    · subst hji
      rw [hm.slots k hki] at hk e
      exact absurd e.symm ((harr hj).2 k hki hk)
    · subst hki
      rw [hm.slots j hji] at hj e
      exact absurd e ((harr hk).2 j hji hj)
    · rw [hm.slots j hji] at hj e
      rw [hm.slots k hki] at hk e
      exact h.inOrder j k hj hk e
  have hfilter (g : Seg) (j : SlotId) : j ∈ (s.queue g).filter (fun j => decide (j ≠ i)) ↔ j ≠ i ∧ LegWaits t g j := by
    rw [List.mem_filter, decide_eq_true_eq, h.queued, and_comm]
    exact and_congr_right fun hj => (hm.legWaits_of_ne hj g).symm
  have hqueued (g : Seg) (j : SlotId) : j ∈ t.queue g ↔ LegWaits t g j := by
    rcases hm.queues g with ⟨hw, e⟩ | ⟨hw, ⟨hi, e⟩ | e⟩
    · rw [e, hfilter]
      exact ⟨fun h => h.2, fun h => ⟨fun hj => hw (hj ▸ h), h⟩⟩
    · rw [e, h.queued]
      by_cases hj : j = i
      · rw [hj]; exact ⟨fun _ => hw, fun _ => (h.queued g i).1 hi⟩
      · exact (hm.legWaits_of_ne hj g).symm
    · rw [e, mem_insertOrdered, hfilter]
      constructor
      · rintro (rfl | ⟨-, h⟩)
        · exact hw
        · exact h
      · intro h
        by_cases hj : j = i
        · exact .inl hj
        · exact .inr ⟨hj, h⟩
  have hrest (g : Seg) : ((s.queue g).filter fun j => decide (j ≠ i)).Pairwise fun j k => t.ordersBefore j k = true := by
    refine ((h.ordered g).filter _).imp_of_mem ?_
    intro j k hj hk hjk
    rw [hm.ordersBefore (.inl ((hfilter g j).1 hj).1) (.inl ((hfilter g k).1 hk).1)]
    exact hjk
  refine ⟨hqueued, fun g => ?_, fun j => ?_, harrived, horder, fun e => by rw [hm.map]; exact h.entries e⟩
  · rcases hm.queues g with ⟨hw, e⟩ | ⟨hw, ⟨hi, e⟩ | e⟩
    · rw [e]; exact hrest g
    · rw [e]
      have hkey := hm.key.resolve_right fun hn => hn g hi
      refine (h.ordered g).imp ?_
      intro j k hjk
      rw [hm.ordersBefore (.inr hkey) (.inr hkey)]
      exact hjk
    · rw [e]
      refine pairwise_insertOrdered (r := t.ordersBefore) (fun _ _ _ => State.ordersBefore_trans) i (hrest g) fun j hj => State.ordersBefore_total ?_
      obtain ⟨hji, hjw⟩ := (hfilter g j).1 hj
      obtain ⟨n, hn, -⟩ := harrived i hw.1
      obtain ⟨m, hm', -⟩ := harrived j hjw.1
      intro e
      rw [State.arrivalOf, State.arrivalOf, hn, hm', Option.getD_some, Option.getD_some] at e
      exact hji (horder j i hjw.1 hw.1 (by rw [hn, hm', e]))
  · by_cases e : j = i
    · rw [e]; exact hlegs
    · rw [hm.slots j e]; exact h.legs j

end Sys2Proof.Machine
end

/-! ### Every leg operation keeps queues and legs in agreement -/

section
namespace Sys2Proof.Machine

theorem State.slot_of_slots {s t : State} (h : t.slots = s.slots) (i : SlotId) : t.slot i = s.slot i := by
  unfold State.slot; rw [h]

theorem State.queue_of_queues {s t : State} (h : t.queues = s.queues) (g : Seg) : t.queue g = s.queue g := by
  unfold State.queue; rw [h]

theorem State.ordersBefore_of_slots {s t : State} (h : t.slots = s.slots) : t.ordersBefore = s.ordersBefore := by
  have hp (i : SlotId) : t.priorityOf i = s.priorityOf i := by rw [State.priorityOf, State.priorityOf, State.slot_of_slots h]
  have ha (i : SlotId) : t.arrivalOf i = s.arrivalOf i := by rw [State.arrivalOf, State.arrivalOf, State.slot_of_slots h]
  funext i j
  simp only [State.ordersBefore, State.arrivedBefore, hp, ha]

/-- Slots, queues, map and the count of arrivals decide whether queues and legs agree. -/
theorem DispatchLegal.of_eq {s t : State} (h : DispatchLegal s) (hs : t.slots = s.slots) (hq : t.queues = s.queues)
    (hm : t.map = s.map) (hl : t.lastArrival = s.lastArrival) : DispatchLegal t := by
  have hslot := State.slot_of_slots hs
  have hqueue := State.queue_of_queues hq
  refine ⟨fun g i => ?_, fun g => ?_, fun i => ?_, fun i => ?_, fun i j => ?_, fun e => ?_⟩
  · unfold LegWaits
    rw [hslot, hqueue]
    exact h.queued g i
  · rw [hqueue, State.ordersBefore_of_slots hs]
    exact h.ordered g
  · rw [hslot]; exact h.legs i
  · rw [hslot, hl]; exact h.arrived i
  · rw [hslot, hslot]; exact h.inOrder i j
  · rw [hm]; exact h.entries e

theorem DispatchLegal.setSeg {s : State} (h : DispatchLegal s) (g : Seg) (x : Segment) : DispatchLegal (s.setSeg g x) :=
  h.of_eq rfl rfl rfl rfl

theorem LegsLegal.congr {x y : Slot} (h : LegsLegal x) (hl : y.legs = x.legs) (hx : y.exchange = x.exchange)
    (hf : y.failoverUsed = x.failoverUsed) (hs : y.state ≠ .live → x.state ≠ .live ∨ ∀ l ∈ x.legs, l.state = .finished) :
    LegsLegal y where
  noExchange := by rw [hl, hx]; exact h.noExchange
  distinct := by rw [hl]; exact h.distinct
  pair := by rw [hl, hx, hf]; exact h.pair
  noPath := by rw [hl, hx]; exact h.noPath
  ended hn := by
    rw [hl]
    exact (hs hn).elim h.ended id

theorem LegsLegal.empty : LegsLegal Slot.empty where
  noExchange _ := rfl
  distinct := List.Pairwise.nil
  pair x a b hx := by cases hx
  noPath x hx := by cases hx
  ended _ l hl := by cases hl

/-- A slot that waits nowhere is in no queue, and leaving one changes nothing. -/
theorem DispatchLegal.queue_filter {s : State} (h : DispatchLegal s) {i : SlotId} {g : Seg} (hi : ¬ LegWaits s g i) :
    (s.queue g).filter (fun j => decide (j ≠ i)) = s.queue g :=
  List.filter_eq_self.2 fun _ hj => decide_eq_true fun e => hi ((h.queued g i).1 (e ▸ hj))

/-! #### Slots written, answered and freed -/

theorem DispatchLegal.minor {s : State} (h : DispatchLegal s) {i : SlotId} {x : Slot} (hk : (s.slot i).Keeps x)
    (hl : x.legs = (s.slot i).legs) (hf : x.failoverUsed = (s.slot i).failoverUsed) : DispatchLegal (s.setSlot i x) := by
  obtain ⟨hstate, -, harr, -, -, hx⟩ := hk
  have hw (g : Seg) : LegWaits (s.setSlot i x) g i ↔ LegWaits s g i := by
    unfold LegWaits
    rw [State.slot_setSlot_self, hstate, hl]
  refine h.slotMoved (i := i) ⟨fun j hj => State.slot_setSlot_of_ne _ _ _ _ hj.symm, rfl, rfl, fun g => ?_, .inl ?_⟩ ?_ ?_
  · by_cases hi : LegWaits s g i
    · exact .inr ⟨(hw g).2 hi, .inl ⟨(h.queued g i).2 hi, rfl⟩⟩
    · exact .inl ⟨fun hi' => hi ((hw g).1 hi'), (h.queue_filter hi).symm⟩
  · rw [State.slot_setSlot_self]; exact ⟨hx, harr⟩
  · rw [State.slot_setSlot_self]
    exact (h.legs i).congr hl hx hf fun hn => .inl (hstate ▸ hn)
  · rw [State.slot_setSlot_self, hstate, harr]
    intro hlive
    exact ⟨h.arrived i hlive, fun j hj hjl e => hj (h.inOrder j i hjl hlive e)⟩

/-- A slot whose legs have all finished may leave LIVE. -/
theorem DispatchLegal.retired {s : State} (h : DispatchLegal s) {i : SlotId} {x : Slot}
    (hi : (s.slot i).state = .live → ∀ l ∈ (s.slot i).legs, l.state = .finished) (hx : x.state ≠ .live) (hlegs : LegsLegal x) :
    DispatchLegal (s.setSlot i x) := by
  have hnot (g : Seg) : ¬ LegWaits s g i := by
    rintro ⟨hlive, l, hl, -, hw⟩
    rw [hi hlive l hl] at hw
    cases hw
  refine h.slotMoved (i := i) ⟨fun j hj => State.slot_setSlot_of_ne _ _ _ _ hj.symm, rfl, rfl, fun g => .inl ⟨?_, ?_⟩, .inr fun g => ?_⟩ ?_ ?_
  · intro hw
    exact hx ((State.slot_setSlot_self s i x) ▸ hw.1)
  · exact (h.queue_filter (hnot g)).symm
  · exact fun hm => hnot g ((h.queued g i).1 hm)
  · rw [State.slot_setSlot_self]; exact hlegs
  · rw [State.slot_setSlot_self]
    exact fun hl => absurd hl hx

theorem DispatchLegal.freeSlot {s : State} (h : DispatchLegal s) {i : SlotId}
    (hi : (s.slot i).state = .live → ∀ l ∈ (s.slot i).legs, l.state = .finished) : DispatchLegal (s.freeSlot i) :=
  h.retired hi (by exact nofun) .empty

theorem DispatchLegal.postSlot {s : State} (h : DispatchLegal s) {i : SlotId}
    (hi : (s.slot i).state = .live → ∀ l ∈ (s.slot i).legs, l.state = .finished) : DispatchLegal (s.postSlot i) := by
  unfold State.postSlot
  split
  · exact h.freeSlot hi
  · split
    · exact h.of_eq rfl rfl rfl rfl
    · exact h.freeSlot hi

theorem DispatchLegal.completeSlot {s : State} (h : DispatchLegal s) {i : SlotId} (r : Result)
    (hi : (s.slot i).state = .live → ∀ l ∈ (s.slot i).legs, l.state = .finished) : DispatchLegal (s.completeSlot i r) := by
  unfold State.completeSlot
  split
  · rename_i hs
    refine DispatchLegal.postSlot (h.retired hi (by exact nofun) ?_) fun hl => ?_
    · refine (h.legs i).congr rfl rfl rfl fun _ => ?_
      rcases hs with hs | hs
      · exact .inl (by rw [hs]; nofun)
      · exact .inr (hi hs)
    · rw [State.slot_setSlot_self] at hl
      cases hl
  · exact h

/-- A slot without an exchange has no legs, so its answer leaves the queues. -/
theorem DispatchLegal.answerResult {s : State} (h : DispatchLegal s) (i : SlotId) (r : Result) : DispatchLegal (s.answerResult i r) := by
  unfold State.answerResult
  split
  · rename_i hx
    refine h.completeSlot r fun _ l hl => ?_
    rw [(h.legs i).noExchange (Option.isNone_iff_eq_none.1 hx)] at hl
    cases hl
  · exact h

theorem DispatchLegal.checkDone {s : State} (h : DispatchLegal s) (i : SlotId) : DispatchLegal (s.checkDone i) := by
  unfold State.checkDone
  split
  · exact h
  · split
    · rename_i hd
      exact h.completeSlot _ fun _ l hl => of_decide_eq_true (List.all_eq_true.1 hd.2 l hl)
    · exact h

theorem DispatchLegal.postNotice {s : State} (h : DispatchLegal s) (c : Cq) (n : Notice) : DispatchLegal (s.postNotice c n) := by
  rw [State.postNotice_eq]
  split
  · exact h
  · split <;> exact h.of_eq rfl rfl rfl rfl

/-! #### Legs that end, start and wait -/

theorem State.slots_joinQueue (s : State) (i : SlotId) (g : Seg) : (s.joinQueue i g).slots = s.slots := by
  unfold State.joinQueue
  rw [State.wakeOnDemand_eq]
  split <;> rfl

theorem State.queues_joinQueue (s : State) (i : SlotId) (g : Seg) :
    (s.joinQueue i g).queues = (s.setQueue g (insertOrdered s.ordersBefore i (s.queue g))).queues := by
  unfold State.joinQueue
  rw [State.wakeOnDemand_eq]
  split <;> rfl

theorem State.map_joinQueue (s : State) (i : SlotId) (g : Seg) : (s.joinQueue i g).map = s.map := by
  unfold State.joinQueue
  rw [State.wakeOnDemand_eq]
  split <;> rfl

theorem State.lastArrival_joinQueue (s : State) (i : SlotId) (g : Seg) : (s.joinQueue i g).lastArrival = s.lastArrival := by
  unfold State.joinQueue
  rw [State.wakeOnDemand_eq]
  split <;> rfl

theorem State.queue_joinQueue (s : State) (i : SlotId) (g k : Seg) :
    (s.joinQueue i g).queue k = if g = k then insertOrdered s.ordersBefore i (s.queue g) else s.queue k := by
  rw [State.queue_of_queues (s.queues_joinQueue i g), State.queue_setQueue]

/-- A leg of a LIVE slot ends or starts: it waits no more, and has left its queue. -/
theorem DispatchLegal.legLeaves {s t : State} (h : DispatchLegal s) {i : SlotId} (g : Seg) {f : Leg → Leg}
    (hlive : (s.slot i).state = .live) (hs : ∀ l, (f l).segment = l.segment) (hp : ∀ l, (f l).path = l.path)
    (hf : ∀ l, (f l).state ≠ .waiting) (ht : t = (s.leaveQueue i g).setSlot i ((s.slot i).mapLeg g f)) : DispatchLegal t := by
  have hslot : t.slot i = (s.slot i).mapLeg g f := by rw [ht, State.slot_setSlot_self]
  have hw (k : Seg) : LegWaits t k i ↔ k ≠ g ∧ LegWaits s k i := by
    rw [legWaits_iff, legWaits_iff, hslot]
    by_cases hk : k = g
    · subst hk
      refine ⟨fun ⟨_, hh⟩ => ?_, fun hn => absurd rfl hn.1⟩
      obtain ⟨l, -, -, hst⟩ := (hasLeg_mapLeg_self _ _ hs _).1 hh
      exact absurd hst (hf l)
    · rw [hasLeg_mapLeg_of_ne _ (Ne.symm hk) hs]
      exact ⟨fun hh => ⟨hk, hh⟩, fun hh => hh.2⟩
  have hq (k : Seg) : t.queue k = if g = k then (s.queue g).filter (fun j => decide (j ≠ i)) else s.queue k := by
    rw [ht, State.leaveQueue_eq]
    exact State.queue_setQueue _ _ _ _
  refine h.slotMoved (i := i) ⟨fun j hj => ?_, by rw [ht]; rfl, by rw [ht]; rfl, fun k => ?_, .inl ?_⟩ ?_ fun _ => ?_
  · rw [ht, State.slot_setSlot_of_ne _ _ _ _ hj.symm]; rfl
  · rw [hq]
    by_cases hk : k = g
    · subst hk
      rw [if_pos rfl]
      exact .inl ⟨fun hi => ((hw k).1 hi).1 rfl, rfl⟩
    · rw [if_neg (Ne.symm hk)]
      by_cases hi : LegWaits s k i
      · exact .inr ⟨(hw k).2 ⟨hk, hi⟩, .inl ⟨(h.queued k i).2 hi, rfl⟩⟩
      · exact .inl ⟨fun hi' => hi ((hw k).1 hi').2, (h.queue_filter hi).symm⟩
  · rw [hslot]; exact ⟨rfl, rfl⟩
  · rw [hslot]; exact (h.legs i).mapLeg g hs hp hlive
  · rw [hslot]
    exact ⟨h.arrived i hlive, fun j hj hjl e => hj (h.inOrder j i hjl hlive e)⟩

/-- A queue that a slot is not in is as it was once the slot has left it. -/
theorem State.leaveQueue_of_notMem {s : State} {i : SlotId} {g : Seg} (h : i ∉ s.queue g) : s.leaveQueue i g = s := by
  have hf : (s.queue g).filter (fun j => decide (j ≠ i)) = s.queue g :=
    List.filter_eq_self.2 fun j hj => decide_eq_true fun e => h (e ▸ hj)
  rw [State.leaveQueue_eq, hf]
  unfold State.setQueue
  have hv : s.queues.set g.val (s.queue g) g.isLt = s.queues := by
    unfold State.queue
    rw [Vector.get_eq_getElem]
    exact Vector.set_getElem_self _
  rw [hv]

theorem LegOnWire.notMem {s : State} (h : DispatchLegal s) {g : Seg} {i : SlotId} (hw : LegOnWire s g i) : i ∉ s.queue g := by
  intro hi
  have := (h.legs i).hasLeg_state ((h.queued g i).1 hi).2 hw.2
  cases this

theorem DispatchLegal.finishLeg {s : State} (h : DispatchLegal s) {i : SlotId} {g : Seg} (hw : LegOnWire s g i) (o : LegOutcome) :
    DispatchLegal (s.finishLeg i g o) := by
  refine (h.legLeaves (i := i) g (f := fun l => l.finish o) hw.1 (fun _ => rfl) (fun _ => rfl) (fun _ => nofun) ?_).checkDone i
  rw [State.leaveQueue_of_notMem (hw.notMem h)]
  rfl

theorem DispatchLegal.finishWaiting {s : State} (h : DispatchLegal s) {i : SlotId} {g : Seg} (hw : LegWaits s g i) (o : LegOutcome) :
    DispatchLegal (s.finishWaiting i g o) :=
  (h.legLeaves (i := i) g (f := fun l => l.finish o) hw.1 (fun _ => rfl) (fun _ => rfl) (fun _ => nofun) rfl).checkDone i

theorem DispatchLegal.pick {s : State} (h : DispatchLegal s) {i : SlotId} {g : Seg} (hw : LegWaits s g i) :
    DispatchLegal ((s.leaveQueue i g).modSlot i fun t => t.mapLeg g fun l => l.picked g) :=
  h.legLeaves (i := i) g (f := fun l => l.picked g) hw.1 (fun _ => rfl) (fun _ => rfl) (fun _ => nofun) rfl

/-- A LIVE slot becomes `y`, with a leg WAITING on `b`, and joins that segment's queue; it is in the other queues it waits in, and has
left those it does not. -/
theorem DispatchLegal.legJoins {s u : State} (h : DispatchLegal s) {i : SlotId} {b : Seg} {y : Slot} (hlive : (s.slot i).state = .live)
    (hy : (s.slot i).Keeps y) (hlegs : LegsLegal y) (hb : y.HasLeg b .waiting)
    (hk : ∀ k, k ≠ b → y.HasLeg k .waiting → LegWaits s k i ∧ u.queue k = s.queue k)
    (hn : ∀ k, k = b ∨ ¬ y.HasLeg k .waiting → u.queue k = (s.queue k).filter fun j => decide (j ≠ i))
    (hslots : u.slots = (s.setSlot i y).slots) (hmap : u.map = s.map) (hlast : u.lastArrival = s.lastArrival) :
    DispatchLegal (u.joinQueue i b) := by
  obtain ⟨hstate, -, harr, -, -, hx⟩ := hy
  have hall (j : SlotId) : (u.joinQueue i b).slot j = (s.setSlot i y).slot j :=
    State.slot_of_slots ((State.slots_joinQueue u i b).trans hslots) j
  have hself : (u.joinQueue i b).slot i = y := (hall i).trans (State.slot_setSlot_self _ _ _)
  have hylive : y.state = .live := hstate.trans hlive
  have hw (k : Seg) : LegWaits (u.joinQueue i b) k i ↔ y.HasLeg k .waiting := by
    rw [legWaits_iff, hself]
    exact ⟨fun hh => hh.2, fun hh => ⟨hylive, hh⟩⟩
  refine h.slotMoved (i := i) ⟨fun j hj => (hall j).trans (State.slot_setSlot_of_ne _ _ _ _ hj.symm),
    (State.lastArrival_joinQueue u i b).trans hlast, (State.map_joinQueue u i b).trans hmap, fun k => ?_, .inl ?_⟩ ?_ fun _ => ?_
  · rw [hw, State.queue_joinQueue]
    by_cases hkb : k = b
    · subst hkb
      rw [if_pos rfl, hn k (.inl rfl), State.ordersBefore_of_slots (State.slots_joinQueue u i k)]
      exact .inr ⟨hb, .inr rfl⟩
    · rw [if_neg (Ne.symm hkb)]
      by_cases hyk : y.HasLeg k .waiting
      · obtain ⟨hsk, hq⟩ := hk k hkb hyk
        exact .inr ⟨hyk, .inl ⟨(h.queued k i).2 hsk, hq⟩⟩
      · exact .inl ⟨hyk, hn k (.inr hyk)⟩
  · rw [hself]; exact ⟨hx, harr⟩
  · rw [hself]; exact hlegs
  · rw [hself, harr]
    exact ⟨h.arrived i hlive, fun j hj hjl e => hj (h.inOrder j i hjl hlive e)⟩

/-- A leg ON_WIRE waits again in its queue (R50). -/
theorem DispatchLegal.retry {s : State} (h : DispatchLegal s) {i : SlotId} {g : Seg} (hw : LegOnWire s g i) :
    DispatchLegal (s.retry i g) := by
  have hother {k : Seg} (hk : k ≠ g) : ((s.slot i).mapLeg g fun l => { l with retriesLeft := l.retriesLeft - 1, state := .waiting }).HasLeg k
      .waiting ↔ LegWaits s k i := by
    rw [hasLeg_mapLeg_of_ne (s.slot i) (Ne.symm hk) (by exact fun _ => rfl), legWaits_iff]
    exact ⟨fun hh => ⟨hw.1, hh⟩, fun hh => hh.2⟩
  refine h.legJoins (y := (s.slot i).mapLeg g fun l => { l with retriesLeft := l.retriesLeft - 1, state := .waiting }) hw.1
    ⟨rfl, rfl, rfl, rfl, rfl, rfl⟩ ((h.legs i).mapLeg g (fun _ => rfl) (fun _ => rfl) hw.1) ?_ (fun k hk hy => ⟨(hother hk).1 hy, rfl⟩)
    (fun k hk => ?_) rfl rfl rfl
  · obtain ⟨l, hl, hg, -⟩ := hw.2
    exact (hasLeg_mapLeg_self _ _ (by exact fun _ => rfl) _).2 ⟨l, hl, hg, rfl⟩
  · refine (h.queue_filter ?_).symm
    by_cases hkg : k = g
    · rw [hkg, ← h.queued]
      exact hw.notMem h
    · exact fun hwk => hk.resolve_left hkg ((hother hkg).2 hwk)

/-- The one leg of a PAIR waits on the secondary (R52). -/
theorem DispatchLegal.failover {s : State} (h : DispatchLegal s) {i : SlotId} {g b : Seg} {x : Exchange}
    (hx : (s.slot i).exchange = some x) (ht : x.target = .pair g b) {st : LegState} (hlive : (s.slot i).state = .live)
    (hleg : (s.slot i).HasLeg g st) : DispatchLegal ((s.leaveQueue i g).failover i g b) := by
  obtain ⟨hgb, l, hl, -⟩ := (h.legs i).pair x g b hx ht
  have hseg : l.segment = g := by
    obtain ⟨m, hm, hg, -⟩ := hleg
    rw [hl, List.mem_singleton] at hm
    exact hm ▸ hg
  have hy : ((s.slot i).mapLeg g fun l => { l with segment := b, path := some .secondary, retriesLeft := (s.slot i).retryBudget, state := .waiting }).legs =
      [{ l with segment := b, path := some .secondary, retriesLeft := (s.slot i).retryBudget, state := .waiting }] := by
    simp [Slot.mapLeg, hl, hseg]
  have hwaits (k : Seg) (hk : LegWaits s k i) : k = g := by
    obtain ⟨-, m, hm, hmk, -⟩ := hk
    rw [hl, List.mem_singleton] at hm
    exact (hm ▸ hmk).symm.trans hseg
  refine h.legJoins (u := (s.leaveQueue i g).setSlot i _) (y := { (s.slot i).mapLeg g fun l =>
      { l with segment := b, path := some .secondary, retriesLeft := (s.slot i).retryBudget, state := .waiting } with failoverUsed := true })
    hlive ⟨rfl, rfl, rfl, rfl, rfl, rfl⟩ ⟨fun hn => ?_, ?_, fun x' a' b' hx' ht' => ?_, fun x' hx' hn => ?_, fun hn => absurd hlive hn⟩
    ?_ (fun k hk hh => ?_) (fun k _ => ?_) rfl rfl rfl
  · exact absurd (hx.symm.trans hn) nofun
  · rw [hy]; exact List.pairwise_singleton _ _
  · obtain rfl := Option.some.inj (hx.symm.trans hx')
    obtain ⟨rfl, rfl⟩ := Target.pair.inj (ht.symm.trans ht')
    exact ⟨hgb, _, hy, .inr ⟨rfl, rfl, rfl⟩⟩
  · obtain rfl := Option.some.inj (hx.symm.trans hx')
    exact absurd ht (hn g b)
  · exact ⟨_, by rw [hy]; exact List.mem_singleton_self _, rfl, rfl⟩
  · obtain ⟨m, hm, hmk, -⟩ := hh
    rw [hy, List.mem_singleton] at hm
    exact absurd (hm ▸ hmk).symm hk
  · rw [State.leaveQueue_eq]
    change ((s.setQueue g _).queue k) = _
    rw [State.queue_setQueue]
    split
    · rename_i e; rw [e]
    · rename_i e
      exact (h.queue_filter fun hk => e (hwaits k hk).symm).symm

theorem LegOp.dispatchLegal {own : Seg → Prop} {legal : Prop} {s t : State} (h : LegOp own legal s t) (hl : legal) (k : DispatchLegal s) :
    DispatchLegal t := by
  cases h with
  | checkDone i => exact k.checkDone i
  | leaveQueue i g h => rw [State.leaveQueue_of_notMem (h hl)]; exact k
  | finishWaiting i g o h => exact k.finishWaiting (h hl) o
  | displace i g b h hb =>
    obtain ⟨x, hx, ht⟩ := hb hl
    exact k.failover hx ht (h hl).1 (h hl).2
  | finishLeg i g o _ h => exact k.finishLeg (h hl) o
  | failover i g b _ h hb =>
    obtain ⟨x, hx, ht⟩ := hb hl
    have := k.failover hx ht (h hl).1 (h hl).2
    rwa [State.leaveQueue_of_notMem ((h hl).notMem k)] at this
  | retry i g _ h => exact k.retry (h hl)
  | pick i g _ h => exact k.pick (h hl)
  | join i g h => exact absurd hl h

/-- Work leaves queues and legs in agreement. -/
theorem Work.dispatch {own : Seg → Prop} {who : SlotId → Prop} {legal : Prop} {s t : State} (h : Work own who legal s t)
    (k : legal → DispatchLegal s) (hl : legal) : DispatchLegal t := by
  induction h with
  | refl s => exact k hl
  | trans _ _ h₁ h₂ => exact h₂ fun hl => h₁ k
  | slot s i x hk hlegs hf => exact (k hl).minor hk hlegs hf
  | ownSeg s g x _ _ => exact (k hl).setSeg g x
  | seg s g x _ => exact (k hl).setSeg g x
  | notice s c n => exact (k hl).postNotice c n
  | answerResult s i r _ => exact (k hl).answerResult i r
  | legOp h => exact h.dispatchLegal hl (k hl)

end Sys2Proof.Machine
end

/-! ### The dispatcher's and the engines' composite operations are work -/

section
namespace Sys2Proof.Machine

/-! #### What a leg operation leaves of the other legs -/

/-- An exchange with a leg that waits is not over. -/
theorem State.checkDone_of_hasLeg {s : State} {i : SlotId} {g : Seg} (h : (s.slot i).HasLeg g .waiting) : s.checkDone i = s := by
  obtain ⟨l, hl, -, hw⟩ := h
  have hn : ¬ (s.slot i).legsFinished = true := by
    intro hf
    have := of_decide_eq_true (List.all_eq_true.1 hf l hl)
    rw [hw] at this
    cases this
  unfold State.checkDone
  split
  · rfl
  · rw [if_neg fun h => hn h.2]

/-- A leg that finishes leaves the slot's other legs waiting. -/
theorem LegWaits.finishWaiting {s : State} {g k : Seg} {i : SlotId} (h : LegWaits s k i) (hk : g ≠ k) (o : LegOutcome) :
    LegWaits (s.finishWaiting i g o) k i := by
  have hslot : ((s.leaveQueue i g).modSlot i fun t => t.mapLeg g fun l => l.finish o).slot i =
      (s.slot i).mapLeg g fun l => l.finish o := State.slot_setSlot_self _ _ _
  have hleg : (((s.leaveQueue i g).modSlot i fun t => t.mapLeg g fun l => l.finish o).slot i).HasLeg k .waiting := by
    rw [hslot, hasLeg_mapLeg_of_ne _ hk (by exact fun _ => rfl)]
    exact h.2
  unfold State.finishWaiting State.finishLeg
  rw [State.checkDone_of_hasLeg hleg]
  exact ⟨(congrArg Slot.state hslot).trans h.1, hleg⟩

theorem State.slot_joinQueue (s : State) (i : SlotId) (g : Seg) (j : SlotId) : (s.joinQueue i g).slot j = s.slot j :=
  State.slot_of_slots (s.slots_joinQueue i g) j

theorem slot_postSlot_of_ne (s : State) {i j : SlotId} (h : i ≠ j) : (s.postSlot i).slot j = s.slot j := by
  unfold State.postSlot State.freeSlot
  split
  · exact State.slot_setSlot_of_ne _ _ _ _ h
  · split
    · rfl
    · exact State.slot_setSlot_of_ne _ _ _ _ h

theorem slot_completeSlot_of_ne (s : State) {i j : SlotId} (h : i ≠ j) (r : Result) : (s.completeSlot i r).slot j = s.slot j := by
  unfold State.completeSlot
  split
  · rw [slot_postSlot_of_ne _ h]
    exact State.slot_setSlot_of_ne _ _ _ _ h
  · rfl

theorem slot_answerResult_of_ne (s : State) {i j : SlotId} (h : i ≠ j) (r : Result) : (s.answerResult i r).slot j = s.slot j := by
  unfold State.answerResult
  split
  · exact slot_completeSlot_of_ne s h r
  · rfl

theorem slot_checkDone_of_ne (s : State) {i j : SlotId} (h : i ≠ j) : (s.checkDone i).slot j = s.slot j := by
  unfold State.checkDone
  split
  · rfl
  · split
    · exact slot_completeSlot_of_ne s h _
    · rfl

theorem slot_finishLeg_of_ne (s : State) {i j : SlotId} (h : i ≠ j) (g : Seg) (o : LegOutcome) : (s.finishLeg i g o).slot j = s.slot j := by
  unfold State.finishLeg
  rw [slot_checkDone_of_ne _ h]
  exact State.slot_setSlot_of_ne _ _ _ _ h

theorem slot_failover_of_ne (s : State) {i j : SlotId} (h : i ≠ j) (g b : Seg) : (s.failover i g b).slot j = s.slot j := by
  unfold State.failover
  rw [State.slot_joinQueue]
  exact State.slot_setSlot_of_ne _ _ _ _ h

theorem slot_displaceLeg_of_ne (s : State) {i j : SlotId} (h : i ≠ j) (g : Seg) (cause : LegOutcome) :
    (s.displaceLeg g cause i).slot j = s.slot j := by
  unfold State.displaceLeg
  split
  · split
    · exact slot_failover_of_ne (s.leaveQueue i g) h g _
    · exact slot_finishLeg_of_ne (s.leaveQueue i g) h g cause
  · rfl

/-! #### Failover -/

/-- What a choice of a secondary takes (R52). -/
theorem State.failoverTo_eq_some {s : State} {i : SlotId} {l : Leg} {o : LegOutcome} {b : Seg} (h : s.failoverTo i l o = some b) :
    ∃ x a, (s.slot i).exchange = some x ∧ x.target = .pair a b ∧ l.path = some .primary ∧ (s.slot i).failoverUsed = false ∧
      (s.slot i).abortPending = false ∧ (s.slot i).deadline ≠ .passed ∧ o.permitsFailover = true ∧
      (s.seg b).lineState.usable = true := by
  unfold State.failoverTo at h
  dsimp only at h
  split at h
  · rename_i hx
    split at h
    · rename_i hc
      obtain rfl := Option.some.inj h
      exact ⟨_, _, hx, rfl, hc⟩
    · cases h
  · cases h

theorem Slot.legOn_eq_some {t : Slot} {g : Seg} {l : Leg} (h : t.legOn g = some l) : l ∈ t.legs ∧ l.segment = g :=
  by
  have hg := List.find?_some h
  exact ⟨List.mem_of_find?_eq_some h, of_decide_eq_true hg⟩

theorem State.failoverTo_of_decision {s : State} {i : SlotId} {l : Leg} {o : LegOutcome} {b : Seg}
    (h : s.legDecision i l o = .failover b) : s.failoverTo i l o = some b := by
  unfold State.legDecision at h
  dsimp only at h
  split at h
  · split at h <;> cases h
  · split at h
    · cases h
    · split at h
      · cases h
      · split at h
        · cases h
        · split at h
          · obtain rfl := LegDecision.failover.inj h
            assumption
          · cases h

/-- The leg of a PAIR that fails over is on the primary. -/
theorem DispatchLegal.failover_target {s : State} (h : DispatchLegal s) {i : SlotId} {g b : Seg} {l : Leg} {o : LegOutcome}
    (hl : (s.slot i).legOn g = some l) (hb : s.failoverTo i l o = some b) : ∃ x, (s.slot i).exchange = some x ∧ x.target = .pair g b := by
  obtain ⟨x, a, hx, ht, hp, -⟩ := State.failoverTo_eq_some hb
  obtain ⟨-, m, hm, hside⟩ := (h.legs i).pair x a b hx ht
  obtain ⟨hmem, hg⟩ := Slot.legOn_eq_some hl
  rw [hm, List.mem_singleton] at hmem
  subst hmem
  rcases hside with ⟨-, ha⟩ | ⟨hp', -⟩
  · exact ⟨x, hx, by rw [ht, ← hg, ha]⟩
  · rw [hp] at hp'; cases hp'

/-- A slot with a leg on a segment is found with one there. -/
theorem Slot.HasLeg.legOn_ne_none {t : Slot} {g : Seg} {st : LegState} (h : t.HasLeg g st) : t.legOn g ≠ none := by
  obtain ⟨l, hl, hg, -⟩ := h
  intro hn
  exact List.find?_eq_none.1 hn l hl (decide_eq_true hg)

/-- The leg found ON_WIRE is that of a LIVE slot (R38, R81). -/
theorem DispatchLegal.legOnWire {s : State} (h : DispatchLegal s) {i : SlotId} {g : Seg} {l : Leg} (hl : (s.slot i).legOn g = some l)
    (hw : l.state = .onWire) : LegOnWire s g i := by
  obtain ⟨hmem, hg⟩ := Slot.legOn_eq_some hl
  refine ⟨by_contra fun hn => ?_, l, hmem, hg, hw⟩
  rw [(h.legs i).ended hn l hmem] at hw
  cases hw

/-- A slot write that keeps state and legs keeps a leg ON_WIRE. -/
theorem LegOnWire.minor {s : State} {g : Seg} {i : SlotId} (h : LegOnWire s g i) {x : Slot} (hs : x.state = (s.slot i).state)
    (hl : x.legs = (s.slot i).legs) : LegOnWire (s.setSlot i x) g i := by
  unfold LegOnWire
  rw [State.slot_setSlot_self, hs, hl]
  exact h

namespace Work
variable {own : Seg → Prop} {who : SlotId → Prop} {legal : Prop}

/-- Work goes on from where queues and legs agree still. -/
theorem andThen {s t u : State} (h : Work own who legal s t) (hd : legal → DispatchLegal s)
    (k : (legal → DispatchLegal t) → Work own who legal t u) : Work own who legal s u := h.trans (k (h.dispatch hd))

theorem foldl_dispatch {α : Type} {f : State → α → State} (h : ∀ s a, (legal → DispatchLegal s) → Work own who legal s (f s a))
    (l : List α) (s : State) (hd : legal → DispatchLegal s) : Work own who legal s (l.foldl f s) := by
  induction l generalizing s with
  | nil => exact .refl s
  | cons a l ih => exact (h s a hd).andThen hd fun hd => ih _ hd

/-! #### Legs -/

theorem finishWaitingLegs (s : State) (i : SlotId) (o : LegOutcome) (hd : legal → DispatchLegal s) :
    Work own who legal s (s.finishWaitingLegs i o) := by
  have hfold (gs : List Seg) (s : State) (h : legal → gs.Nodup ∧ ∀ g ∈ gs, LegWaits s g i) :
      Work own who legal s (gs.foldl (fun s g => s.finishWaiting i g o) s) := by
    induction gs generalizing s with
    | nil => exact .refl s
    | cons g gs ih =>
      refine .trans (.legOp (.finishWaiting s i g o fun hl => (h hl).2 g List.mem_cons_self)) (ih _ fun hl => ?_)
      obtain ⟨hn, hw⟩ := h hl
      obtain ⟨hg, hn⟩ := List.nodup_cons.1 hn
      exact ⟨hn, fun k hk => (hw k (List.mem_cons_of_mem _ hk)).finishWaiting (fun e : g = k => hg (e ▸ hk)) o⟩
  refine .trans (hfold _ s fun hl => ⟨?_, fun g hg => ?_⟩) (.legOp (.checkDone _ i))
  · exact List.pairwise_map.2 (((hd hl).legs i).distinct.filter _)
  · obtain ⟨l, hl', rfl⟩ := List.mem_map.1 hg
    obtain ⟨hmem, hst⟩ := List.mem_filter.1 hl'
    have hw : l.state = .waiting := of_decide_eq_true hst
    refine ⟨by_contra fun hn => ?_, l, hmem, rfl, hw⟩
    rw [((hd hl).legs i).ended hn l hmem] at hw
    cases hw

theorem displaceLeg (s : State) (g : Seg) (cause : LegOutcome) (i : SlotId) (hd : legal → DispatchLegal s)
    (h : legal → LegWaits s g i) : Work own who legal s (s.displaceLeg g cause i) := by
  unfold State.displaceLeg
  split
  · rename_i l hl
    split
    · rename_i b hb
      exact .legOp (.displace s i g b h fun hl' => (hd hl').failover_target hl hb)
    · exact .legOp (.finishWaiting s i g cause h)
  · rename_i hn
    exact .legOp (.leaveQueue s i g fun hl => absurd hn (Slot.HasLeg.legOn_ne_none (h hl).2))

theorem displaceQueue (s : State) (g : Seg) (cause : LegOutcome) (hd : legal → DispatchLegal s) :
    Work own who legal s (s.displaceQueue g cause) := by
  have hfold (is : List SlotId) (s : State) (hd : legal → DispatchLegal s) (h : legal → is.Nodup ∧ ∀ i ∈ is, LegWaits s g i) :
      Work own who legal s (is.foldl (fun s i => s.displaceLeg g cause i) s) := by
    induction is generalizing s with
    | nil => exact .refl s
    | cons i is ih =>
      refine (displaceLeg s g cause i hd fun hl => (h hl).2 i List.mem_cons_self).andThen hd fun hd' => ih _ hd' fun hl => ?_
      obtain ⟨hn, hw⟩ := h hl
      obtain ⟨hi, hn⟩ := List.nodup_cons.1 hn
      refine ⟨hn, fun j hj => ?_⟩
      have hij : i ≠ j := fun e => hi (e ▸ hj)
      unfold LegWaits
      rw [slot_displaceLeg_of_ne s hij]
      exact hw j (List.mem_cons_of_mem _ hj)
  refine hfold _ s hd fun hl => ⟨((hd hl).ordered g).imp ?_, fun i hi => ((hd hl).queued g i).1 hi⟩
  rintro i j hij rfl
  rw [State.ordersBefore_iff] at hij
  omega

section
variable {g : Seg} (hg : own g)
include hg

theorem finishOk (s : State) (i : SlotId) (bytes : List Byte) (h : legal → LegOnWire s g i) :
    Work own who legal s (s.finishOk i g bytes) := by
  unfold State.finishOk
  rw [State.modSlot_eq]
  have hpay (x : Slot) (hk : (s.slot i).Keeps x) (hl : x.legs = (s.slot i).legs) (hf : x.failoverUsed = (s.slot i).failoverUsed) :
      Work own who legal s ((s.setSlot i x).finishLeg i g .ok) :=
    (minor s i x hk hl hf).trans (.legOp (.finishLeg _ i g _ hg fun hl' => (h hl').minor hk.1 hl))
  refine hpay _ ?_ ?_ ?_
  · split <;> exact ⟨rfl, rfl, rfl, rfl, rfl, rfl⟩
  · split <;> rfl
  · split <;> rfl

theorem applyDecision (s : State) (i : SlotId) (bytes : List Byte) (d : LegDecision) (h : legal → LegOnWire s g i)
    (hb : legal → ∀ b, d = .failover b → ∃ x, (s.slot i).exchange = some x ∧ x.target = .pair g b) :
    Work own who legal s (s.applyDecision i g bytes d) := by
  cases d with
  | finishLate =>
    have hlate : Work own who legal s (s.setSlot i { s.slot i with late := true }) :=
      minor s i _ ⟨rfl, rfl, rfl, rfl, rfl, rfl⟩ rfl rfl
    exact hlate.trans (finishOk hg _ i bytes fun hl => (h hl).minor rfl rfl)
  | finishOk => exact finishOk hg s i bytes h
  | finish o => exact .legOp (.finishLeg s i g o hg h)
  | retry => exact .legOp (.retry s i g hg h)
  | failover b => exact .legOp (.failover s i g b hg h fun hl => hb hl b rfl)

theorem legFrameEnded (s : State) (i : SlotId) (o : LegOutcome) (bytes : List Byte) (hd : legal → DispatchLegal s) :
    Work own who legal s (s.legFrameEnded i g o bytes) := by
  unfold State.legFrameEnded
  split
  · rename_i l hl
    split
    · rename_i hw
      have hended : Work own who legal s (s.setSlot i { s.slot i with lastEnded := some g }) :=
        minor s i _ ⟨rfl, rfl, rfl, rfl, rfl, rfl⟩ rfl rfl
      refine hended.trans (applyDecision hg _ i bytes _ (fun hl' => ((hd hl').legOnWire hl hw).minor rfl rfl) fun hl' b hb => ?_)
      refine (hended.dispatch hd hl').failover_target (l := l) (o := o) ?_ (State.failoverTo_of_decision hb)
      rw [State.slot_setSlot_self]
      exact hl
    · exact .refl s
  · exact .refl s

theorem modOwn (s : State) (f : Segment → Segment) (h : ∀ x, (f x).configured = x.configured ∧ (f x).config = x.config) :
    Work own who legal s (s.modSeg g f) := .ownSeg _ _ _ hg (h _)

theorem startFrame (s : State) (f : Frame) : Work own who legal s (s.startFrame g f) := .ownSeg _ _ _ hg (by exact ⟨rfl, rfl⟩)

theorem enterPhase (s : State) (p : FramePhase) (bits : Nat) (line : LineDrive) : Work own who legal s (s.enterPhase g p bits line) :=
  .ownSeg _ _ _ hg (by exact ⟨rfl, rfl⟩)

theorem setFrame (s : State) (f : Frame) : Work own who legal s (s.setFrame g f) := .ownSeg _ _ _ hg (by exact ⟨rfl, rfl⟩)

theorem grantHold (s : State) (r : Ring) : Work own who legal s (s.grantHold g r) := .ownSeg _ _ _ hg (by exact ⟨rfl, rfl⟩)

theorem endPendingOp (s : State) (status : Status) : Work own who legal s (s.endPendingOp g status) := by
  unfold State.endPendingOp
  split
  · exact .refl s
  · refine (modOwn hg s (fun x => { x with pendingOp := none }) fun _ => ⟨rfl, rfl⟩).trans ?_
    dsimp only
    split
    · exact answer _ _ _ (.inr ‹_›)
    · exact .refl _

theorem endOp (s : State) (op : SegOp) (status : Status) : Work own who legal s (s.endOp g op status) := by
  unfold State.endOp
  split
  · exact ite (endPendingOp hg _ _) (.refl s)
  · exact .refl s

theorem enterDormant (s : State) (o : DormancyOrigin) : Work own who legal s (s.enterDormant g o) := by
  have h : Work own who legal s (s.modSeg g fun x => { x with lineState := .dormant, phase := .idle, phaseBits := none }) :=
    .ownSeg _ _ _ hg (by exact ⟨rfl, rfl⟩)
  unfold State.enterDormant
  cases o with
  | idleTimer => exact ((h.trans (.notice _ _ _)).trans (endOp hg _ _ _)).trans (wakeOnDemand _ _)
  | sleep => exact (h.trans (endOp hg _ _ _)).trans (wakeOnDemand _ _)

theorem dormancyEnded (s : State) (d : DormancyOrigin) (o : LegOutcome) : Work own who legal s (s.dormancyEnded g d o) := by
  unfold State.dormancyEnded
  refine ite (.refl s) (ite (enterDormant hg _ _) ?_)
  cases d with
  | idleTimer => exact .refl s
  | sleep => exact endOp hg _ _ _

theorem endFrame (s : State) (o : LegOutcome) (bytes : List Byte) (hd : legal → DispatchLegal s) :
    Work own who legal s (s.endFrame g o bytes) := by
  unfold State.endFrame
  split
  · exact .refl s
  · rename_i f _
    have h : Work own who legal s (s.modSeg g fun x => (x.countFrame o).enterGuard) :=
      .ownSeg _ _ _ hg (Segment.countFrame_config _ _)
    refine h.andThen hd fun hd => ?_
    cases hf : f.carrier with
    | exchange i => exact legFrameEnded hg _ i o bytes hd
    | dormancy d => exact dormancyEnded hg _ d o

theorem cutFrame (s : State) (cause : LegOutcome) (hd : legal → DispatchLegal s) : Work own who legal s (s.cutFrame g cause) := by
  unfold State.cutFrame
  split
  · exact .refl s
  · rename_i f _
    have h : Work own who legal s (s.modSeg g fun x =>
        { x.countFrame cause with frame := none, pendingOutcome := none, line := .released }) :=
      .ownSeg _ _ _ hg (Segment.countFrame_config _ _)
    refine h.andThen hd fun hd => ?_
    cases hf : f.carrier with
    | exchange i => exact legFrameEnded hg _ i cause [] hd
    | dormancy d => exact .refl _

theorem enterFaulted (s : State) (why : FaultReason) (hd : legal → DispatchLegal s) : Work own who legal s (s.enterFaulted g why) := by
  have hquiet (s : State) : Work own who legal s (s.modSeg g fun x => { x.quiet with lineState := .faulted why }) :=
    .ownSeg _ _ _ hg (by exact Segment.quiet_config _ _)
  unfold State.enterFaulted
  refine (((cutFrame hg s .segmentFault hd).trans (hquiet _)).trans (postSegmentNotice _ g (.segmentFaulted g why))).andThen hd
    fun hd => ?_
  exact ((displaceQueue _ g _ hd).trans (loseHold _ _ _)).trans (endPendingOp hg _ _)

theorem stopSegment (s : State) (hd : legal → DispatchLegal s) : Work own who legal s (s.stopSegment g) := by
  have hquiet : Work own who legal s (s.modSeg g Segment.quiet) := .ownSeg _ _ _ hg (by exact ⟨rfl, rfl⟩)
  unfold State.stopSegment
  refine hquiet.andThen hd fun hd => ?_
  exact ((displaceQueue _ g _ hd).trans (loseHold _ _ _)).trans (.ownSeg _ _ _ hg (by exact Segment.quiet_config _ _))

theorem resetSegment (s : State) (hd : legal → DispatchLegal s) : Work own who legal s (s.resetSegment g) := by
  have hquiet (s : State) : Work own who legal s (s.modSeg g Segment.quiet) := .ownSeg _ _ _ hg (by exact ⟨rfl, rfl⟩)
  unfold State.resetSegment
  refine ((cutFrame hg s .segmentReset hd).trans (hquiet _)).andThen hd fun hd => ?_
  exact (((displaceQueue _ g _ hd).trans (loseHold _ _ _)).trans (endPendingOp hg _ _)).trans
    (.ownSeg _ _ _ hg (by exact Segment.quiet_config _ _))

theorem grantDrained (s : State) (hw : ∀ r i, (s.seg g).hold = .draining r i → who i) :
    Work own who legal s (s.grantDrained g) := by
  unfold State.grantDrained
  split
  · rename_i r i hd
    exact ((grantHold hg _ _).trans (joinHoldSets _ _ _ _ _)).trans (checkHoldGranted _ _ (hw r i hd))
  · exact .refl s
  · exact .refl s

theorem actStop (s : State) (hd : legal → DispatchLegal s) : Work own who legal s (s.actStop g) :=
  (stopSegment hg s hd).trans (endOp hg _ _ _)

theorem foreignMaster (s : State) (hd : legal → DispatchLegal s) : Work own who legal s (s.foreignMaster g) :=
  andThen (.ownSeg _ _ _ hg (by exact ⟨rfl, rfl⟩)) hd fun hd => enterFaulted hg _ _ hd

theorem enterWaking (s : State) : Work own who legal s (s.enterWaking g) := .ownSeg _ _ _ hg (by exact ⟨rfl, rfl⟩)

theorem settleSegment (s : State) : Work own who legal s (s.settleSegment g) :=
  .trans (.ownSeg _ _ _ hg (by exact ⟨rfl, rfl⟩)) (endOp hg _ _ _)

theorem pickLeg (s : State) (i : SlotId) (h : legal → LegWaits s g i) : Work own who legal s (s.pickLeg g i) := by
  unfold State.pickLeg
  split
  · exact .trans (.legOp (.pick s i g hg h)) (startFrame hg _ _)
  · exact .refl s

end

theorem enterMeasured (s : State) (c : CarriedLevel) (hg : own c.seg) (hd : legal → DispatchLegal s) :
    Work own who legal s (s.enterMeasured c) := ite (.refl s) (foreignMaster hg _ hd)

theorem enterGuardMeasured (s : State) (c : CarriedLevel) (hg : own c.seg) (hw : ∀ i, who i) (hd : legal → DispatchLegal s) :
    Work own who legal s (s.enterGuardMeasured c) := by
  refine ite (.refl s) ?_
  have hgrant : Work own who legal s (if s.grantDue c.seg then s.grantDrained c.seg else s) :=
    ite (grantDrained hg s fun _ i _ => hw i) (.refl s)
  refine hgrant.andThen hd fun hd => ?_
  exact ite (actStop hg _ hd) (enterMeasured _ _ hg hd)

end Work

end Sys2Proof.Machine
end

/-! ### Commands and steps -/

section
namespace Sys2Proof.Machine

/-- Settles O1. -/
theorem stepRunsFrontCommand : Obligations.StepRunsFrontCommand := by
  refine ⟨fun c rest s => rfl, fun s h => ?_⟩
  rw [step, h]

/-- A predicate that the queue of commands plays no part in, and that every command keeps, is kept by every step. -/
theorem step_keeps {P : State → Prop} (hp : ∀ s l, P s → P { s with pending := l })
    (he : ∀ c s t, P s → exec c s = .next t → P t) {s t : State} (hs : P s) (h : step s = .next t) : P t := by
  unfold step at h
  split at h
  · exact Host.Outcome.next.inj h ▸ hs
  · exact he _ _ _ (hp _ _ hs) h

/-- The commands of the dispatcher, the segment engines and the line watch: each does its work and brings the idle timers up to
date, or leaves the state as it is. -/
def isWork : Instr → Bool
  | .deadlineExpiry _ | .holdTimerExpiry _ | .holdGrant _ | .idleTimerExpiry _ | .sleepCommandStart _ | .wakePulseEnd _
  | .settleTimerExpiry _ | .pick _ | .leadInEnd _ | .headerSent _ | .gapEnd _ | .responseOutEnd _ | .byteReceived _ _
  | .ackReceived _ _ | .windowEnd _ | .stopAct _ | .guardEnd _ | .readbackDifference _ | .framingDetected _ | .recoverEnd _
  | .recoverNoIdle _ | .noise _ | .foreignMaster _ | .stuckLine _ | .syncComplete _ | .syncNoIdle _ | .remoteWake _ _
  | .dormantStuck _ | .startCheck _ _ | .recessiveRunRestart _ _ => true
  | _ => false

/-- The segment whose record a command of an engine or the line watch replaces. -/
def ownSegment : Instr → Option Seg
  | .holdGrant g | .idleTimerExpiry g | .sleepCommandStart g | .wakePulseEnd g | .pick g | .leadInEnd g | .headerSent g | .gapEnd g
  | .responseOutEnd g | .byteReceived g _ | .ackReceived g _ | .stopAct g | .guardEnd g | .framingDetected g | .recoverEnd g
  | .recoverNoIdle g | .noise g | .foreignMaster g | .stuckLine g | .syncComplete g | .syncNoIdle g | .remoteWake g _
  | .dormantStuck g | .startCheck g _ | .recessiveRunRestart g _ => some g
  | .settleTimerExpiry l | .windowEnd l => some l.seg
  | .readbackDifference x => some x.seg
  | _ => none

/-- A command's outcome: nothing changed, or work done and the idle timers brought up to date. -/
def Works (own : Seg → Prop) (legal : Prop) (s : State) (o : Host.Outcome State Fault Refusal) : Prop :=
  o = .next s ∨ ∃ u, Work own (fun _ => True) legal s u ∧ o = settled u

section
variable {own : Seg → Prop} {legal : Prop}

theorem Works.idle (s : State) : Works own legal s (.next s) := .inl rfl

theorem Works.settled {s u : State} (h : Work own (fun _ => True) legal s u) : Works own legal s (settled u) := .inr ⟨u, h, rfl⟩

theorem Works.ite {s : State} {p : Prop} [Decidable p] {o₁ o₂ : Host.Outcome State Fault Refusal} (h : Works own legal s o₁)
    (k : Works own legal s o₂) : Works own legal s (if p then o₁ else o₂) := by
  split
  · exact h
  · exact k

/-- A segment's record may be replaced by one of the same configuration. -/
theorem Work.setOwn {who : SlotId → Prop} {g : Seg} (hg : own g) (s : State) (x : Segment)
    (h : x.configured = (s.seg g).configured ∧ x.config = (s.seg g).config) : Work own who legal s (s.setSeg g x) := .ownSeg s g x hg h

end

open Work in
theorem exec_works {c : Instr} (hc : isWork c = true) {own : Seg → Prop} (hown : ∀ g, ownSegment c = some g → own g) {legal : Prop}
    (s : State) (hd : legal → DispatchLegal s) : Works own legal s (exec c s) := by
  cases c <;> try exact absurd hc Bool.false_ne_true
  case deadlineExpiry i =>
    have hpassed : Work own (fun _ => True) legal s
        (s.modSlot i fun t => { t with deadline := .passed, deadlineTimer := .stopped }) :=
      minor s i _ (by exact ⟨rfl, rfl, rfl, rfl, rfl, rfl⟩) (by exact rfl) (by exact rfl)
    exact .ite (.settled (hpassed.andThen hd fun hd => finishWaitingLegs _ i .expired hd)) (.idle s)
  case holdTimerExpiry g =>
    simp only [exec, execHoldTimerExpiry]
    split
    · exact .settled (loseHold _ _ _)
    · exact .idle s
    · exact .idle s
  case holdGrant g =>
    have hg := hown _ rfl
    exact .ite (.settled (grantDrained hg s fun _ _ _ => trivial)) (.idle s)
  case idleTimerExpiry g =>
    have hg := hown _ rfl
    simp only [exec, execIdleTimerExpiry]
    split
    · exact .ite (.settled (startFrame hg _ _)) (.idle s)
    · exact .idle s
  case sleepCommandStart g =>
    have hg := hown _ rfl
    exact .ite (.settled ((recordProgress _ _ _ _).trans (startFrame hg _ _))) (.idle s)
  case wakePulseEnd g =>
    have hg := hown _ rfl
    refine .ite (.settled (((recordProgress s g .wake .settling).trans ?_).trans (enterWaking hg _))) (.idle s)
    exact setOwn hg _ _ (by exact ⟨rfl, rfl⟩)
  case settleTimerExpiry l =>
    have hg := hown _ rfl
    exact .ite (.settled ((settleSegment hg s).andThen hd fun hd => enterMeasured _ l hg hd)) (.idle s)
  case pick g =>
    have hg := hown _ rfl
    simp only [exec, execPick]
    refine .ite ?_ (.idle s)
    split
    · rename_i i hi
      exact .settled (pickLeg hg s i fun hl => ((hd hl).queued g i).1 (List.mem_of_find?_eq_some hi))
    · exact .idle s
  case leadInEnd g =>
    have hg := hown _ rfl
    simp only [exec, execLeadInEnd]
    split
    · exact .settled (enterPhase hg _ _ _ _)
    · exact .idle s
  case headerSent g =>
    have hg := hown _ rfl
    simp only [exec, execHeaderSent]
    split
    · refine .settled ?_
      split <;> exact enterPhase hg _ _ _ _
    · exact .idle s
  case gapEnd g =>
    have hg := hown _ rfl
    simp only [exec, execGapEnd]
    split
    · exact .settled (enterPhase hg _ _ _ _)
    · exact .idle s
  case responseOutEnd g =>
    have hg := hown _ rfl
    simp only [exec, execResponseOutEnd]
    split
    · exact .settled (ite (enterPhase hg _ _ _ _) (endFrame hg _ _ _ hd))
    · exact .idle s
  case byteReceived g b =>
    have hg := hown _ rfl
    simp only [exec, execByteReceived]
    split
    · exact .ite (.settled (ite (endFrame hg _ _ _ hd) (ite (endFrame hg _ _ _ hd) (setFrame hg _ _)))) (.idle s)
    · exact .idle s
  case ackReceived g b =>
    have hg := hown _ rfl
    simp only [exec, execAckReceived]
    split
    · exact .ite (.settled (endFrame hg _ _ _ hd)) (.idle s)
    · exact .idle s
  case windowEnd l =>
    have hg := hown _ rfl
    simp only [exec, execWindowEnd]
    split
    · refine .ite (.idle s) (.settled (ite (setOwn hg _ _ (by exact ⟨rfl, rfl⟩)) ?_))
      exact (endFrame hg s _ [] hd).andThen hd fun hd => enterGuardMeasured _ l hg (fun _ => trivial) hd
    · exact .idle s
  case stopAct g =>
    have hg := hown _ rfl
    exact .ite (.settled (actStop hg s hd)) (.idle s)
  case guardEnd g =>
    have hg := hown _ rfl
    exact .ite (.settled (setOwn hg _ _ (by exact ⟨rfl, rfl⟩))) (.idle s)
  case readbackDifference x =>
    have hg := hown _ rfl
    simp only [exec, execReadbackDifference]
    split
    · exact .ite (.idle s) (.settled (setOwn hg _ _ (by exact ⟨rfl, rfl⟩)))
    · exact .idle s
  case framingDetected g =>
    have hg := hown _ rfl
    simp only [exec, execFramingDetected]
    split
    · exact .ite (.settled (setOwn hg _ _ (by exact ⟨rfl, rfl⟩))) (.idle s)
    · exact .idle s
  case recoverEnd g =>
    have hg := hown _ rfl
    simp only [exec, execRecoverEnd]
    split
    · exact .ite (.settled (endFrame hg _ _ _ hd)) (.idle s)
    · exact .idle s
  case recoverNoIdle g =>
    have hg := hown _ rfl
    exact .ite (.settled (enterFaulted hg _ _ hd)) (.idle s)
  case noise g =>
    have hg := hown _ rfl
    exact .ite (.settled (setOwn hg _ _ (by exact ⟨rfl, rfl⟩))) (.idle s)
  case foreignMaster g =>
    have hg := hown _ rfl
    exact .ite (.settled (foreignMaster hg _ hd)) (.idle s)
  case stuckLine g =>
    have hg := hown _ rfl
    exact .ite (.settled (enterFaulted hg _ _ hd)) (.idle s)
  case syncComplete g =>
    have hg := hown _ rfl
    exact .ite (.settled (.trans (setOwn hg _ _ (by exact ⟨rfl, rfl⟩)) (endOp hg _ _ _))) (.idle s)
  case syncNoIdle g =>
    have hg := hown _ rfl
    exact .ite (.settled (enterFaulted hg _ _ hd)) (.idle s)
  case remoteWake g us =>
    have hg := hown _ rfl
    exact .ite (.settled ((enterWaking hg _).trans (postSegmentNotice _ _ _))) (.idle s)
  case dormantStuck g =>
    have hg := hown _ rfl
    exact .ite (.settled (enterFaulted hg _ _ hd)) (.idle s)
  case startCheck g l =>
    have hg := hown _ rfl
    simp only [exec, execStartCheck]
    split
    · exact .ite (.settled (setFrame hg _ _)) (.idle s)
    · exact .idle s
  case recessiveRunRestart g l =>
    have hg := hown _ rfl
    exact .ite (.idle s) (.settled (setOwn hg _ _ (by exact ⟨rfl, rfl⟩)))

/-- What a command of the dispatcher, an engine or the line watch answers. -/
theorem exec_work_cases {c : Instr} (hc : isWork c = true) {legal : Prop} {s t : State} (h : exec c s = .next t)
    (hd : legal → DispatchLegal s) :
    t = s ∨ ∃ u, Work (fun g => ownSegment c = some g) (fun _ => True) legal s u ∧ t = u.refreshIdle := by
  rcases exec_works hc (fun _ => id) s hd with h' | ⟨u, hu, h'⟩
  · exact .inl (Host.Outcome.next.inj (h.symm.trans h'))
  · exact .inr ⟨u, hu, Host.Outcome.next.inj (h.symm.trans h')⟩

theorem exec_work_onlyWork {c : Instr} (hc : isWork c = true) {s t : State} (h : exec c s = .next t) : OnlyWork s t := by
  rcases exec_work_cases (legal := False) hc h False.elim with rfl | ⟨u, hu, rfl⟩
  · exact .refl _
  · exact hu.onlyWork.trans (.refreshIdle u)

end Sys2Proof.Machine
end

/-! ### Acceptance: what the acceptance of a record may change -/

section
namespace Sys2Proof.Machine

/-- What the checks of RING_CREATE leave of its configuration (R121, R145). -/
def RingRoom (s : State) (r : Ring) (cfg : RingConfig) : Prop :=
  r ≠ 0 ∧ (s.ring r).state = .unconfigured ∧ RingConfigLegal r cfg ∧ s.reserveSum + cfg.reserve + s.sharedInUse ≤ 64

/-- What the checks of CQ_CREATE leave of its configuration (R131, R148). -/
def CqRoom (s : State) (c : Cq) (cfg : CqConfig) : Prop :=
  c ≠ 0 ∧ (s.cq c).state = .unconfigured ∧ aligned64 cfg.base = true ∧ cfg.size ∈ completionSizes ∧ 1 ≤ cfg.count ∧ cfg.count ≤ 255 ∧
    cfg.delay ≤ 65535

/-- Slot `i` has arrived after every LIVE slot: its arrival is its own. -/
def FreshArrival (s : State) (i : SlotId) : Prop :=
  (∃ n, (s.slot i).arrival = some n ∧ n ≤ s.lastArrival) ∧
    ∀ j, j ≠ i → (s.slot j).state = .live → (s.slot j).arrival ≠ (s.slot i).arrival

/-- From `s` to `t` a record of ring `r` has been accepted for slot `i`: the slot may have become LIVE, work has been done, and a
ring 0 request may have replaced one record of the part's configuration. -/
inductive Acceptance (own : Seg → Prop) (legal : Prop) (r : Ring) (i : SlotId) : State → State → Prop
  | work {s t : State} : Work own (· = i) legal s t → Acceptance own legal r i s t
  | trans {s t u : State} : Acceptance own legal r i s t → Acceptance own legal r i t u → Acceptance own legal r i s u
  | live (s : State) (x : Slot) (h : (s.slot i).state = .fetching) (hx : x.state = .live) (hr : x.ring = (s.slot i).ring)
      (hl : legal → FreshArrival s i ∧ x.arrival = (s.slot i).arrival ∧ x.exchange = (s.slot i).exchange ∧
        x.legs = (s.slot i).legs ∧ x.failoverUsed = (s.slot i).failoverUsed) : Acceptance own legal r i s (s.setSlot i x)
  | createRing (s : State) (q : Ring) (cfg : RingConfig) (hr : r = 0) (h : RingRoom s q cfg) :
      Acceptance own legal r i s (s.setRing q (RequestRing.created cfg))
  | deleting (s : State) (q : Ring) (hr : r = 0) (h : q ≠ 0 ∧ (s.ring q).state ≠ .unconfigured) :
      Acceptance own legal r i s ((s.modRing q fun x => { x with state := .deleting }).markDiscard q)
  | deleted (s : State) (q : Ring) (hr : r = 0) (h : q ≠ 0 ∧ s.holdsNoSlot q = true) :
      Acceptance own legal r i s (s.setRing q RequestRing.empty)
  | createCq (s : State) (c : Cq) (cfg : CqConfig) (h : CqRoom s c cfg) :
      Acceptance own legal r i s (s.setCq c (CompletionRing.created cfg))
  | deleteCq (s : State) (c : Cq) (h : c ≠ 0) : Acceptance own legal r i s (s.deleteCq c)
  | config (s : State) (g : Seg) (c : SegConfig) :
      Acceptance own legal r i s (s.setSeg g { s.seg g with configured := true, config := c })
  | map (s : State) (e : EntryId) (x : MapEntry) (h : x.kind = .pair → x.segA ≠ x.segB) : Acceptance own legal r i s (s.setEntry e x)
  | limits (s : State) (l : Vector Half 4) (h : Half) : Acceptance own legal r i s { s with lifetimes := l, holdLimit := h }

/-! #### What acceptance leaves of the queues -/

/-- A FETCHING slot that becomes LIVE with no leg waiting joins no queue. -/
theorem DispatchLegal.live {s : State} (h : DispatchLegal s) {i : SlotId} {x : Slot} (hf : FreshArrival s i)
    (hs : (s.slot i).state ≠ .live) (hx : x.state = .live) (ha : x.arrival = (s.slot i).arrival) (he : x.exchange = (s.slot i).exchange)
    (hl : x.legs = (s.slot i).legs) (hu : x.failoverUsed = (s.slot i).failoverUsed) : DispatchLegal (s.setSlot i x) := by
  have hnot (g : Seg) : ¬ LegWaits s g i := fun hw => hs hw.1
  refine h.slotMoved (i := i) ⟨fun j hj => State.slot_setSlot_of_ne _ _ _ _ hj.symm, rfl, rfl, fun g => .inl ⟨?_, ?_⟩, .inr fun g => ?_⟩ ?_ ?_
  · rintro ⟨-, l, hl', -, hw⟩
    rw [State.slot_setSlot_self, hl] at hl'
    rw [(h.legs i).ended hs l hl'] at hw
    cases hw
  · exact (h.queue_filter (hnot g)).symm
  · exact fun hm => hnot g ((h.queued g i).1 hm)
  · rw [State.slot_setSlot_self]
    exact (h.legs i).congr hl he hu fun hn => absurd hx hn
  · rw [State.slot_setSlot_self, ha]
    exact fun _ => hf

theorem DispatchLegal.freeSlotFrom {s : State} (h : DispatchLegal s) {st : SlotState} (hst : st ≠ .live) (i : SlotId) :
    DispatchLegal (s.freeSlotFrom st i) := by
  unfold State.freeSlotFrom
  split
  · rename_i hs
    exact h.freeSlot fun hl => absurd (hs.symm.trans hl) hst
  · exact h

theorem State.discardPostings_slot (s : State) (i : SlotId) (l : List Posting) :
    s.discardPostings (.slot i :: l) = (s.freeSlotFrom .done i).discardPostings l := rfl

theorem State.discardPostings_notice (s : State) (n : Notice) (l : List Posting) :
    s.discardPostings (.notice n :: l) = s.discardPostings l := rfl

theorem DispatchLegal.discardPostings {s : State} (h : DispatchLegal s) (l : List Posting) : DispatchLegal (s.discardPostings l) := by
  induction l generalizing s with
  | nil => exact h
  | cons p l ih =>
    cases p with
    | slot i => exact ih (h.freeSlotFrom (by decide) i)
    | notice n => exact ih h

theorem State.withdrawWrite_eq (s : State) (c : Cq) : s.withdrawWrite c = { s with write := (s.withdrawWrite c).write } := by
  unfold State.withdrawWrite
  split
  · split <;> rfl
  · rfl

theorem State.markDiscard_eq (s : State) (r : Ring) : s.markDiscard r = { s with fetch := (s.markDiscard r).fetch } := by
  unfold State.markDiscard
  split
  · split <;> rfl
  · rfl

theorem DispatchLegal.deleteCq {s : State} (h : DispatchLegal s) (c : Cq) : DispatchLegal (s.deleteCq c) := by
  unfold State.deleteCq
  rw [State.withdrawWrite_eq]
  have hset : DispatchLegal (s.setCq c CompletionRing.empty) := h.of_eq rfl rfl rfl rfl
  exact (hset.discardPostings (s.cq c).backlog).of_eq rfl rfl rfl rfl

theorem DispatchLegal.setEntry {s : State} (h : DispatchLegal s) {e : EntryId} {x : MapEntry} (hx : x.kind = .pair → x.segA ≠ x.segB) :
    DispatchLegal (s.setEntry e x) := by
  refine ⟨h.queued, h.ordered, h.legs, h.arrived, h.inOrder, fun d => ?_⟩
  unfold State.setEntry
  rw [Vector.get_eq_getElem, Vector.getElem_set]
  split
  · exact hx
  · exact h.entries d

/-- The acceptance of a control or admin request leaves queues and legs in agreement. -/
theorem Acceptance.dispatch {own : Seg → Prop} {legal : Prop} {r : Ring} {i : SlotId} {s t : State}
    (h : Acceptance own legal r i s t) (k : legal → DispatchLegal s) (hl : legal) : DispatchLegal t := by
  induction h with
  | work h => exact h.dispatch k hl
  | trans _ _ h₁ h₂ => exact h₂ fun hl => h₁ k
  | live s x h hx hr hkept =>
    obtain ⟨hf, ha, he, hlegs, hu⟩ := hkept hl
    exact (k hl).live hf (by rw [h]; nofun) hx ha he hlegs hu
  | deleting s q _ _ =>
    rw [State.markDiscard_eq]
    exact (k hl).of_eq rfl rfl rfl rfl
  | deleteCq s c _ => exact (k hl).deleteCq c
  | map s e x hx => exact (k hl).setEntry hx
  | createRing | deleted | createCq | config | limits => exact (k hl).of_eq rfl rfl rfl rfl

namespace Acceptance
variable {own : Seg → Prop} {legal : Prop} {r : Ring} {i : SlotId}

theorem ite {s t u : State} {p : Prop} [Decidable p] (h : Acceptance own legal r i s t) (k : Acceptance own legal r i s u) :
    Acceptance own legal r i s (if p then t else u) := by
  split
  · exact h
  · exact k

theorem answer (s : State) (status : Status) : Acceptance own legal r i s (s.answer i status) := .work (.answer _ _ _ (.inl rfl))

theorem refuse (s : State) (status : Status) : Acceptance own legal r i s (s.refuse i status) := .work (.refuse _ _ _ rfl)

/-- The slot becomes LIVE with its operation's first progress. -/
theorem setLive (s : State) (h : (s.slot i).state = .fetching) (hf : legal → FreshArrival s i) :
    Acceptance own legal r i s (s.setLive i) :=
  .live s _ h (by exact rfl) (by exact rfl) fun hl => ⟨hf hl, by exact ⟨rfl, rfl, rfl, rfl⟩⟩

/-! #### Control requests -/

theorem takeAbort (s : State) (q : Ring) (tag : Half) (hd : legal → DispatchLegal s) :
    Acceptance own legal r i s (s.takeAbort i q tag) := by
  unfold State.takeAbort
  split
  · rename_i j _
    have hpending : Work own (· = i) legal s (s.setSlot j { s.slot j with abortPending := true }) :=
      .minor s j _ ⟨rfl, rfl, rfl, rfl, rfl, rfl⟩ rfl rfl
    exact .work ((hpending.andThen hd fun hd => .finishWaitingLegs _ j .aborted hd).trans (.answer _ _ _ (.inl rfl)))
  · exact ite (answer _ _) (answer _ _)

theorem takeRelease (s : State) (q : Ring) (named : SegSet) : Acceptance own legal r i s (s.takeRelease i q named) := by
  unfold State.takeRelease
  exact ite (refuse _ _) (.work (((Work.clearHoldsOf _ _ _).trans
    (Work.foldl (fun s j => .endHold s _ j) _ _)).trans (.answer _ _ _ (.inl rfl))))

theorem holdSegment (s : State) (q : Ring) (g : Seg) (hg : own g) : Work own (· = i) legal s (s.holdSegment i q g) := by
  unfold State.holdSegment
  split
  · exact .joinHoldSets _ _ _ _ _
  · exact .refl s
  · exact .ite (.trans (.ownSeg _ _ _ hg (by exact ⟨rfl, rfl⟩)) (.joinHoldSets _ _ _ _ _))
      ((Work.grantHold hg _ _).trans (.joinHoldSets _ _ _ _ _))

theorem takeHold (s : State) (q : Ring) (named : SegSet) (hg : ∀ g, g ∈ setMembers named → own g)
    (h : (s.slot i).state = .fetching) (hf : legal → FreshArrival s i) : Acceptance own legal r i s (s.takeHold i q named) := by
  have hfold (gs : List Seg) (hg : ∀ g, g ∈ gs → own g) (s : State) :
      Work own (· = i) legal s (gs.foldl (fun s g => s.holdSegment i q g) s) := by
    induction gs generalizing s with
    | nil => exact .refl s
    | cons g gs ih =>
      exact (holdSegment s q g (hg g List.mem_cons_self)).trans (ih (fun k hk => hg k (List.mem_cons_of_mem _ hk)) _)
  unfold State.takeHold
  split
  · exact refuse _ _
  · have hlive : Acceptance own legal r i s
        (s.modSlot i fun t => { t with state := .live, progress := some (.hold { own := 0, granted := 0 }) }) :=
      .live s _ h (by exact rfl) (by exact rfl) fun hl => ⟨hf hl, by exact ⟨rfl, rfl, rfl, rfl⟩⟩
    exact hlive.trans (.work ((hfold _ hg _).trans (.checkHoldGranted _ _ rfl)))

/-! #### Rings -/

theorem RingRoom.of_checks {s : State} {a : RingCreateArgs} (h : firstFailure (s.ringCreateChecks a) = none) :
    RingRoom s (ringOf a.ring) a.config := by
  have hc := (firstFailure_eq_none_iff _).1 h
  simp only [State.ringCreateChecks, List.mem_cons, List.not_mem_nil, or_false, forall_eq_or_imp, forall_eq, Bool.and_eq_true,
    decide_eq_true_eq, Config.slotCount] at hc
  obtain ⟨⟨h1, h7⟩, hbase, hsize, hw, hres, ⟨⟨hcap1, hcap64⟩, hrc⟩, hcq, hunc, hact, hroom⟩ := hc
  have hne : ringOf a.ring ≠ 0 := by
    simp only [ringOf, ne_eq, Fin.ext_iff, Fin.val_ofNat]
    show ¬ a.ring.toNat % 8 = 0
    omega
  refine ⟨hne, hunc, ⟨hbase, List.contains_iff_mem.1 hsize, fun h => absurd h hne, fun _ => ⟨_, rfl, hw⟩, ⟨hres, hrc⟩, hcap1, hcap64⟩, of_decide_eq_true hroom⟩

theorem takeRingCreate (s : State) (a : RingCreateArgs) (hr : r = 0) : Acceptance own legal r i s (s.takeRingCreate i a) := by
  unfold State.takeRingCreate
  split
  · exact refuse _ _
  · exact .trans (.createRing s _ _ hr (RingRoom.of_checks ‹_›)) (answer _ _)

theorem flushSlot (s : State) (j : SlotId) (hd : legal → DispatchLegal s) : Work own (· = i) legal s (s.flushSlot j) := by
  have hflush : Work own (· = i) legal s ((s.modSlot j fun t => { t with abortPending := true }).finishWaitingLegs j .flushed) := by
    have hpending : Work own (· = i) legal s (s.setSlot j { s.slot j with abortPending := true }) :=
      .minor s j _ ⟨rfl, rfl, rfl, rfl, rfl, rfl⟩ rfl rfl
    exact hpending.andThen hd fun hd => .finishWaitingLegs _ j .flushed hd
  unfold State.flushSlot
  split
  · exact hflush
  · exact hflush
  · exact .endHold _ _ _
  · exact .refl s

theorem flushRing (s : State) (q : Ring) (hd : legal → DispatchLegal s) : Work own (· = i) legal s (s.flushRing q) :=
  Work.foldl_dispatch (fun s j hd => flushSlot s j hd) _ s hd

theorem ringOf_ne_zero {b : Byte} (h1 : 1 ≤ b.toNat) (h7 : b.toNat ≤ 7) : ringOf b ≠ 0 := by
  simp only [ringOf, ne_eq, Fin.ext_iff, Fin.val_ofNat]
  show ¬ b.toNat % 8 = 0
  omega

theorem cqOf_ne_zero {b : Byte} (h1 : 1 ≤ b.toNat) (h3 : b.toNat ≤ 3) : cqOf b ≠ 0 := by
  simp only [cqOf, ne_eq, Fin.ext_iff, Fin.val_ofNat]
  show ¬ b.toNat % 4 = 0
  omega

theorem live_of_deletionOf {s : State} {q : Ring} {j : SlotId} (h : s.deletionOf q = some j) : (s.slot j).state = .live := by
  have hj := List.find?_some h
  revert hj
  split
  · simp only [Bool.and_eq_true, decide_eq_true_eq, and_imp]
    exact fun hs _ _ => hs
  · simp

theorem completeDeletion (s : State) (q : Ring) (hr : r = 0) (h : q ≠ 0 ∧ s.holdsNoSlot q = true) :
    Acceptance own legal r i s (s.completeDeletion q) := by
  refine .trans (.deleted s q hr h) ?_
  simp only [State.completeDeletion]
  split
  · rename_i j hj
    exact .work (.answer _ _ _ (.inr (live_of_deletionOf hj)))
  · exact .work (.refl _)

theorem takeRingDelete (s : State) (b : Byte) (hr : r = 0) (h : (s.slot i).state = .fetching) (hf : legal → FreshArrival s i)
    (hd : legal → DispatchLegal s) : Acceptance own legal r i s (s.takeRingDelete i b) := by
  unfold State.takeRingDelete
  split
  · exact refuse _ _
  · rename_i hc
    have hc := (firstFailure_eq_none_iff _).1 hc
    simp only [State.ringDeleteChecks, List.mem_cons, List.not_mem_nil, or_false, forall_eq_or_imp, forall_eq, Bool.and_eq_true,
      decide_eq_true_eq] at hc
    obtain ⟨⟨h1, h7⟩, hs, -⟩ := hc
    have hne := ringOf_ne_zero h1 h7
    have hdel := (setLive (own := own) (r := r) s h hf).trans (.deleting (s.setLive i) (ringOf b) hr ⟨hne, hs⟩)
    have hflush := (hdel.trans (.work (flushRing _ (ringOf b) (hdel.dispatch hd)))).trans
      (.work (.clearHoldsOf _ (ringOf b) (List.finRange 8)))
    refine hflush.trans ?_
    dsimp only
    split
    · exact completeDeletion _ _ hr ⟨hne, ‹_›⟩
    · exact .work (.setProgress _ _ _)

theorem takeCqCreate (s : State) (a : CqCreateArgs) : Acceptance own legal r i s (s.takeCqCreate i a) := by
  unfold State.takeCqCreate
  split
  · exact refuse _ _
  · rename_i hc
    refine .trans (.createCq s _ _ ?_) (answer _ _)
    have hc := (firstFailure_eq_none_iff _).1 hc
    simp only [State.cqCreateChecks, List.mem_cons, List.not_mem_nil, or_false, forall_eq_or_imp, forall_eq, Bool.and_eq_true,
      decide_eq_true_eq] at hc
    obtain ⟨⟨h1, h3⟩, hbase, hsize, hcount, hs⟩ := hc
    exact ⟨cqOf_ne_zero h1 h3, hs, hbase, List.contains_iff_mem.1 hsize, hcount, Nat.le_of_lt_succ a.count.isLt, Nat.le_of_lt_succ a.delay.isLt⟩

theorem takeCqDelete (s : State) (b : Byte) : Acceptance own legal r i s (s.takeCqDelete i b) := by
  unfold State.takeCqDelete
  split
  · exact refuse _ _
  · rename_i hc
    have hc := (firstFailure_eq_none_iff _).1 hc
    simp only [State.cqDeleteChecks, List.mem_cons, forall_eq_or_imp, Bool.and_eq_true, decide_eq_true_eq] at hc
    exact .trans (.deleteCq s _ (cqOf_ne_zero hc.1.1 hc.1.2)) (answer _ _)

/-! #### Segments, map and limits -/

theorem takeSegConfig (s : State) (a : SegConfigArgs) : Acceptance own legal r i s (s.takeSegConfig i a) := by
  unfold State.takeSegConfig
  split
  · exact refuse _ _
  · exact .trans (.config s _ _) (answer _ _)

theorem takeSegQuery (s : State) (a : SegQueryArgs) : Acceptance own legal r i s (s.takeSegQuery i a) := by
  have clears (x : Segment) (n : Byte) : x.Eases (x.clearCounter n) := by
    unfold Segment.clearCounter
    split <;> exact ⟨rfl, .inl rfl, .inl ⟨rfl, rfl⟩⟩
  unfold State.takeSegQuery
  split
  · exact refuse _ _
  · exact .work (.trans (.ite (.seg _ _ _ ((clears _ _).trans (clears _ _))) (.refl s)) (.answerResult _ _ _ (.inl rfl)))

theorem takeMapWrite (s : State) (a : MapWriteArgs) : Acceptance own legal r i s (s.takeMapWrite i a) := by
  by_cases hl : a.Legal
  · rw [State.takeMapWrite_of_legal _ _ hl]
    refine .trans (.map s _ _ ?_) (answer _ _)
    rcases hv : a.valid with _ | _
    · rw [MapWriteArgs.stored_of_not_valid hv]
      simp [MapEntry.empty]
    · obtain ⟨-, hl⟩ := hl
      obtain ⟨hk, -, -, ha, hb, -⟩ := hl.resolve_left (by simp [hv])
      rw [MapWriteArgs.stored_of_valid hv hk]
      dsimp only
      intro hp
      have h1 : a.kind = 1 := by
        by_contra h1
        split at hp
        · cases hp
        · simp at hp
      obtain ⟨hb7, hab⟩ := hb h1
      have ha7 := ha (by simp [h1])
      rw [if_neg (by simp [h1]), if_pos h1]
      simp only [ne_eq, Fin.ext_iff, Fin.val_ofNat]
      have : a.segB.toNat ≠ a.segA.toNat := fun h => hab (BitVec.eq_of_toNat_eq h)
      omega
  · rw [State.takeMapWrite_of_not_legal _ _ hl]
    exact refuse _ _

theorem takeMapRead (s : State) (e h : Byte) : Acceptance own legal r i s (s.takeMapRead i e h) :=
  ite (.work (.answerResult _ _ _ (.inl rfl))) (refuse _ _)

theorem takeSetLimits (s : State) (a : SetLimitsArgs) : Acceptance own legal r i s (s.takeSetLimits i a) :=
  ite (refuse _ _) (.trans (.limits s _ _) (answer _ _))

section
variable (s : State) (h : (s.slot i).state = .fetching) (hf : legal → FreshArrival s i) {g : Seg} (hg : own g)
include h hf hg

theorem setPending (op : SegOp) : Acceptance own legal r i s (s.setPending i g op) :=
  ((setLive s h hf).trans (.work (.setProgress _ _ _))).trans (.work (.ownSeg _ _ _ hg (by exact ⟨rfl, rfl⟩)))

theorem startSegment : Acceptance own legal r i s (s.startSegment i g) :=
  ite (.trans (setPending s h hf hg .start) (.work (.ownSeg _ _ _ hg (by exact ⟨rfl, rfl⟩)))) (refuse _ _)

theorem stopRequest (hd : legal → DispatchLegal s) : Acceptance own legal r i s (s.stopRequest i g) := by
  have hstop : Acceptance own legal r i s ((s.stopSegment g).answer i (.outcome .ok)) :=
    .trans (.work (.stopSegment hg s hd)) (answer _ _)
  unfold State.stopRequest
  refine ite (refuse _ _) ?_
  split
  · exact answer _ _
  · exact .trans (.work (.ownSeg _ _ _ hg (by exact ⟨rfl, rfl⟩))) (answer _ _)
  · exact ite (setPending s h hf hg _) hstop
  all_goals exact hstop

theorem sleepRequest : Acceptance own legal r i s (s.sleepRequest i g) := by
  unfold State.sleepRequest
  refine ite (refuse _ _) ?_
  split
  case h_5 => exact ite (refuse _ _) (ite (refuse _ _) (answer _ _))
  case h_6 => exact ite (refuse _ _) (ite (setPending s h hf hg _) (refuse _ _))
  all_goals exact refuse _ _

theorem wakeRequest : Acceptance own legal r i s (s.wakeRequest i g) := by
  unfold State.wakeRequest
  refine ite (refuse _ _) ?_
  split
  · exact answer _ _
  · have hp := setPending (r := r) s h hf hg .wake
    exact ite hp (hp.trans (.work (.ownSeg _ _ _ hg (by exact ⟨rfl, rfl⟩))))
  all_goals exact refuse _ _

end

theorem withSegment (s : State) (b : Byte) (f : Seg → State) (h : Acceptance own legal r i s (f (segOf b))) :
    Acceptance own legal r i s (s.withSegment i b f) := ite h (refuse _ _)

/-! #### Exchanges, and the whole -/

theorem launch (s : State) (k : Kind) (record : Record) (id : Nat) (route : Route) (h : (s.slot i).state = .fetching) :
    Acceptance own False r i s (s.launch i k record id route) :=
  .trans (.live s _ h (by exact rfl) (by exact rfl) False.elim)
    (.work (.trans (.foldl (fun s g => .legOp (.join s i g not_false)) _ _) (.legOp (.checkDone _ _))))

/-- A READ or WRITE is refused, or launched over the route that its entry gives. -/
theorem acceptExchange_cases (s : State) (k : Kind) (record : Record) : (∃ status, s.acceptExchange i k record = s.refuse i status) ∨
    ∃ e route, s.pathChoice e (retryBudgetOf record) = .ok route ∧ s.matchingEntry (nodeOf record) = some e ∧
      s.acceptExchange i k record = s.launch i k record (e.frameId (nodeOf record)) route := by
  unfold State.acceptExchange
  split
  · exact .inl ⟨_, rfl⟩
  · split
    · exact .inl ⟨_, rfl⟩
    · rename_i e he
      split
      · exact .inl ⟨_, rfl⟩
      · split
        · exact .inl ⟨_, rfl⟩
        · rename_i route hr
          exact .inr ⟨e, route, hr, he, rfl⟩

theorem acceptExchange (s : State) (k : Kind) (record : Record) (h : (s.slot i).state = .fetching) :
    Acceptance own False r i s (s.acceptExchange i k record) := by
  rcases acceptExchange_cases (i := i) s k record with ⟨status, e⟩ | ⟨entry, route, -, -, e⟩ <;> rw [e]
  · exact refuse s status
  · exact launch s k record _ _ h

/-- A request kind that only ring 0 serves (R9, check 2). -/
def isAdmin : OpArgs → Bool
  | .abort _ | .hold _ | .release _ => false
  | _ => true

/-- The segments whose records a request replaces. -/
def runsOn : OpArgs → Seg → Prop
  | .hold named, g => g ∈ setMembers named
  | .segStart b, g | .segStop b, g | .segReset b, g | .segSleep b, g | .segWake b, g => g = segOf b
  | _, _ => False

theorem takeOperation (s : State) (q : Ring) (args : OpArgs) (hr : isAdmin args = true → r = 0) (hown : ∀ g, runsOn args g → own g)
    (h : (s.slot i).state = .fetching) (hf : legal → FreshArrival s i) (hd : legal → DispatchLegal s) :
    Acceptance own legal r i s (s.takeOperation i q args) := by
  cases args with
  | abort tag => exact takeAbort s q tag hd
  | hold named => exact takeHold s q named hown h hf
  | release named => exact takeRelease s q named
  | ringCreate a => exact takeRingCreate s a (hr rfl)
  | ringDelete b => exact takeRingDelete s b (hr rfl) h hf hd
  | cqCreate a => exact takeCqCreate s a
  | cqDelete b => exact takeCqDelete s b
  | segConfig a => exact takeSegConfig s a
  | segStart b => exact withSegment s b _ (startSegment s h hf (hown (segOf b) rfl))
  | segStop b => exact withSegment s b _ (stopRequest s h hf (hown (segOf b) rfl) hd)
  | segReset b =>
    have hreset : Acceptance own legal r i s (s.resetSegment (segOf b)) := .work (.resetSegment (hown (segOf b) rfl) s hd)
    exact withSegment s b (fun g => (s.resetSegment g).answer i (.outcome .ok)) (hreset.trans (answer _ _))
  | segSleep b => exact withSegment s b _ (sleepRequest s h hf (hown (segOf b) rfl))
  | segWake b => exact withSegment s b _ (wakeRequest s h hf (hown (segOf b) rfl))
  | segQuery a => exact takeSegQuery s a
  | mapWrite a => exact takeMapWrite s a
  | mapRead e b => exact takeMapRead s e b
  | setLimits a => exact takeSetLimits s a

/-- The arguments of a record are those of its kind. -/
theorem isAdmin_argsOf {k : Kind} {record : Record} {args : OpArgs} {q : Ring} (h : argsOf k record = some args)
    (hq : k.allowedOn q = true) (ha : isAdmin args = true) : q = 0 := by
  cases k <;> simp only [argsOf, Option.some.injEq, reduceCtorEq] at h <;> subst h <;> simp_all [isAdmin, Kind.allowedOn]

/-- A record is refused, taken as an exchange, or as the operation that its arguments name. -/
theorem checkRecord_cases (s : State) (record : Record) : (∃ status, s.checkRecord i r record = s.refuse i status) ∨
    (∃ k, s.checkRecord i r record = s.acceptExchange i k record) ∨
    ∃ k args, k.allowedOn r = true ∧ argsOf k record = some args ∧
      s.checkRecord i r record = (s.setSlot i { s.slot i with args := some args }).takeOperation i r args := by
  unfold State.checkRecord
  split
  · exact .inl ⟨_, rfl⟩
  · rename_i k _
    split
    · exact .inl ⟨_, rfl⟩
    · rename_i hk
      split
      · exact .inl ⟨_, rfl⟩
      · split
        · exact .inr (.inl ⟨k, rfl⟩)
        · rename_i args ha
          exact .inr (.inr ⟨k, args, by simpa using hk, ha, rfl⟩)

theorem checkRecord (s : State) (record : Record) (h : (s.slot i).state = .fetching) :
    Acceptance (fun _ => True) False r i s (s.checkRecord i r record) := by
  rcases checkRecord_cases (i := i) (r := r) s record with ⟨status, e⟩ | ⟨k, e⟩ | ⟨k, args, hk, ha, e⟩ <;> rw [e]
  · exact refuse s status
  · exact acceptExchange s k record h
  · have hargs : Work (fun _ => True) (· = i) False s (s.setSlot i { s.slot i with args := some args }) :=
      .minor s i _ ⟨rfl, rfl, rfl, rfl, rfl, rfl⟩ rfl rfl
    refine .trans (.work hargs) (takeOperation _ r args (isAdmin_argsOf ha hk) (fun _ _ => trivial) ?_ False.elim False.elim)
    rw [State.slot_setSlot_self]
    exact h

end Acceptance

end Sys2Proof.Machine
end

/-! ### Idle timers, the link and the slots' way to FREE (R1, R89, R164) -/

section
namespace Sys2Proof.Machine

/-! #### Slots wind down -/

/-- From `s` to `t` every slot has stayed or gone further towards FREE, and one that is not FREE keeps its ring (R1). -/
def Winds (s t : State) : Prop :=
  ∀ j, (t.slot j).state.rank ≤ (s.slot j).state.rank ∧ ((t.slot j).state ≠ .free → (t.slot j).ring = (s.slot j).ring)

theorem SlotState.rank_eq_zero {x : SlotState} : x.rank = 0 ↔ x = .free := by
  cases x <;> simp [SlotState.rank]

theorem Winds.refl (s : State) : Winds s s := fun _ => ⟨le_rfl, fun _ => rfl⟩

theorem Winds.of_slots {s t : State} (h : t.slots = s.slots) : Winds s t := by
  intro j
  have hj : t.slot j = s.slot j := by unfold State.slot; rw [h]
  rw [hj]
  exact ⟨le_rfl, fun _ => rfl⟩

theorem Winds.trans {s t u : State} (h : Winds s t) (k : Winds t u) : Winds s u := by
  intro j
  refine ⟨(k j).1.trans (h j).1, fun hu => ?_⟩
  have ht : (t.slot j).state ≠ .free := fun hf => hu (SlotState.rank_eq_zero.1 (by
    have := (k j).1
    rw [hf] at this
    exact Nat.le_zero.1 this))
  rw [(k j).2 hu, (h j).2 ht]

theorem Winds.setSlot {s : State} {i : SlotId} {x : Slot} (h : x.state.rank ≤ (s.slot i).state.rank)
    (hr : x.state ≠ .free → x.ring = (s.slot i).ring) : Winds s (s.setSlot i x) := by
  intro j
  rw [State.slot_setSlot]
  split
  · rename_i e; subst e; exact ⟨h, hr⟩
  · exact ⟨le_rfl, fun _ => rfl⟩

theorem Winds.freeSlot (s : State) (i : SlotId) : Winds s (s.freeSlot i) := .setSlot (Nat.zero_le _) (fun h => absurd rfl h)

theorem Winds.freeSlotFrom (s : State) (st : SlotState) (i : SlotId) : Winds s (s.freeSlotFrom st i) := by
  unfold State.freeSlotFrom
  split
  · exact .freeSlot s i
  · exact .refl s

theorem Winds.postNotice (s : State) (c : Cq) (n : Notice) : Winds s (s.postNotice c n) := by
  refine .of_slots ?_
  rw [State.postNotice_eq]
  split_ifs <;> rfl

theorem Winds.postSlot (s : State) (i : SlotId) : Winds s (s.postSlot i) := by
  unfold State.postSlot
  split
  · exact .freeSlot _ _
  · split
    · exact .of_slots rfl
    · exact .freeSlot _ _

theorem Winds.completeSlot (s : State) (i : SlotId) (r : Result) : Winds s (s.completeSlot i r) := by
  unfold State.completeSlot
  split
  · rename_i h
    have hdone : Winds s (s.modSlot i fun t => { t with state := .done, deadlineTimer := .stopped, result := some r }) := by
      refine .setSlot ?_ fun _ => rfl
      rcases h with h | h <;> simp [h, SlotState.rank]
    exact hdone.trans (.postSlot _ _)
  · exact .refl s

theorem Winds.checkDone (s : State) (i : SlotId) : Winds s (s.checkDone i) := by
  unfold State.checkDone
  split
  · exact .refl s
  · split
    · exact .completeSlot _ _ _
    · exact .refl s

theorem Winds.answerResult (s : State) (i : SlotId) (r : Result) : Winds s (s.answerResult i r) := by
  unfold State.answerResult
  split
  · exact .completeSlot _ _ _
  · exact .refl s

theorem Winds.discardPostings (s : State) (l : List Posting) : Winds s (s.discardPostings l) := by
  induction l generalizing s with
  | nil => exact .refl s
  | cons p l ih =>
    cases p with
    | slot i => exact (Winds.freeSlotFrom s .done i).trans (ih _)
    | notice n => exact ih s

theorem Work.winds {own : Seg → Prop} {who : SlotId → Prop} {legal : Prop} {s t : State} (h : Work own who legal s t) : Winds s t :=
  h.closed (R := Winds) (fun _ _ _ => .trans) .refl (fun s i x hk => .setSlot (by rw [hk.1]) fun _ => hk.2.1)
    (fun _ _ _ => .of_slots rfl) (fun _ _ _ _ _ => .of_slots rfl) (fun _ _ _ _ => .of_slots rfl) .postNotice
    (fun s i r _ => .answerResult s i r) .checkDone

theorem Winds.deleteCq (s : State) (c : Cq) : Winds s (s.deleteCq c) := by
  unfold State.deleteCq
  have hset : Winds s (s.setCq c CompletionRing.empty) := .of_slots rfl
  refine (hset.trans (.discardPostings _ (s.cq c).backlog)).trans (.of_slots ?_)
  rw [State.withdrawWrite_eq]

theorem Acceptance.winds {own : Seg → Prop} {legal : Prop} {r : Ring} {i : SlotId} {s t : State}
    (h : Acceptance own legal r i s t) : Winds s t := by
  induction h with
  | work h => exact h.winds
  | trans _ _ h k => exact h.trans k
  | live s x h hx hr _ => exact .setSlot (by rw [h, hx]; decide) fun _ => hr
  | deleting s q _ _ =>
    refine .of_slots ?_
    rw [State.markDiscard_eq]
    rfl
  | deleteCq s c _ => exact .deleteCq s c
  | createRing | deleted | createCq | config | map | limits => exact .of_slots rfl

/-! #### A FETCHING slot is left alone by the work of others -/

theorem slot_checkDone_of_not_live (s : State) {i j : SlotId} (h : (s.slot j).state ≠ .live) : (s.checkDone i).slot j = s.slot j := by
  unfold State.checkDone
  split
  · rfl
  · split
    · rename_i hl
      exact slot_completeSlot_of_ne s (by rintro rfl; exact h hl.1) _
    · rfl

theorem slot_postNotice (s : State) (c : Cq) (n : Notice) (j : SlotId) : (s.postNotice c n).slot j = s.slot j := by
  rw [State.postNotice_eq]
  split_ifs <;> rfl

theorem slot_freeSlotFrom_of_ne (s : State) {st : SlotState} (i : SlotId) {j : SlotId} (h : (s.slot j).state ≠ st) :
    (s.freeSlotFrom st i).slot j = s.slot j := by
  unfold State.freeSlotFrom State.freeSlot
  split
  · rename_i hd
    exact State.slot_setSlot_of_ne _ _ _ _ fun e => h (e ▸ hd)
  · rfl

theorem slot_discardPostings_of_ne_done (s : State) (l : List Posting) {j : SlotId} (h : (s.slot j).state ≠ .done) :
    (s.discardPostings l).slot j = s.slot j := by
  induction l generalizing s with
  | nil => rfl
  | cons p l ih =>
    cases p with
    | slot i =>
      have hi := slot_freeSlotFrom_of_ne s i h
      rw [State.discardPostings_slot, ih _ (hi ▸ h), hi]
    | notice n => exact ih s h

theorem Work.fetching_kept {own : Seg → Prop} {who : SlotId → Prop} {legal : Prop} {s t : State} (h : Work own who legal s t)
    {j : SlotId} (hw : ¬ who j) (hj : (s.slot j).state = .fetching) : (t.slot j).state = .fetching := by
  refine h.closed (R := fun s t => (s.slot j).state = .fetching → (t.slot j).state = .fetching) (fun _ _ _ h k => k ∘ h) (fun _ => id)
    (fun s i x hk hj => ?_) (fun _ _ _ => id) (fun _ _ _ _ _ => id) (fun _ _ _ _ => id) (fun s c n hj => ?_) (fun s i r hi hj => ?_)
    (fun s i hj => ?_) hj
  · rw [State.slot_setSlot]
    split
    · rename_i e; subst e; rw [hk.1, hj]
    · exact hj
  · rw [slot_postNotice, hj]
  · rw [slot_answerResult_of_ne, hj]
    rintro rfl
    rcases hi with hi | hi
    · exact hw hi
    · simp [hi] at hj
  · rw [slot_checkDone_of_not_live _ (by simp [hj]), hj]

theorem Acceptance.fetching_kept {own : Seg → Prop} {legal : Prop} {r : Ring} {i : SlotId} {s t : State}
    (h : Acceptance own legal r i s t) {j : SlotId} (hw : j ≠ i) (hj : (s.slot j).state = .fetching) :
    (t.slot j).state = .fetching := by
  induction h with
  | work h => exact h.fetching_kept hw hj
  | trans _ _ h k => exact k (h hj)
  | live s x _ _ _ _ => rw [State.slot_setSlot_of_ne _ _ _ _ hw.symm, hj]
  | deleting s q _ _ => rw [State.markDiscard_eq]; exact hj
  | deleteCq s c _ =>
    rw [State.deleteCq, State.withdrawWrite_eq]
    exact (congrArg Slot.state (slot_discardPostings_of_ne_done (s.setCq c _) _ (by simp [hj]))).trans hj
  | createRing | deleted | createCq | config | map | limits => exact hj

/-! #### The arrival of a record -/

theorem State.accept_cases (s : State) (i : SlotId) (record : Record) : s.accept i record = s ∨
    ∃ r, (s.slot i).state = .fetching ∧ (s.slot i).ring = some r ∧
      Acceptance (fun _ => True) False r i (s.arrive i r record) (s.accept i record) := by
  unfold State.accept
  split
  · rename_i r hs hr
    refine .inr ⟨r, hs, hr, ?_⟩
    refine .checkRecord _ record ?_
    exact (congrArg Slot.state (State.slot_setSlot_self _ _ _)).trans hs
  · exact .inl rfl

theorem State.slot_arrive_of_ne (s : State) {i j : SlotId} (h : i ≠ j) (r : Ring) (record : Record) :
    (s.arrive i r record).slot j = s.slot j := State.slot_setSlot_of_ne _ _ _ _ h

theorem State.slot_arrive_self (s : State) (i : SlotId) (r : Ring) (record : Record) : (s.arrive i r record).slot i =
    { s.slot i with
      arrival := some (s.lastArrival + 1), tag := some (tagOf record), kind := kindOf record, cq := some (s.arrivalCq r) } :=
  State.slot_setSlot_self _ _ _

theorem Winds.arrive (s : State) (i : SlotId) (r : Ring) (record : Record) : Winds s (s.arrive i r record) := by
  intro j
  by_cases h : i = j
  · subst h
    rw [State.slot_arrive_self]
    exact ⟨le_rfl, fun _ => rfl⟩
  · rw [State.slot_arrive_of_ne s h]
    exact ⟨le_rfl, fun _ => rfl⟩

theorem Winds.accept (s : State) (i : SlotId) (record : Record) : Winds s (s.accept i record) := by
  rcases s.accept_cases i record with h | ⟨r, -, -, h⟩
  · rw [h]; exact .refl s
  · exact (Winds.arrive s i r record).trans h.winds

theorem State.fetching_kept_accept (s : State) {i j : SlotId} (h : j ≠ i) (record : Record) (hj : (s.slot j).state = .fetching) :
    ((s.accept i record).slot j).state = .fetching := by
  rcases s.accept_cases i record with ha | ⟨r, -, -, ha⟩
  · rw [ha, hj]
  · refine ha.fetching_kept h ?_
    rw [State.slot_arrive_of_ne s h.symm, hj]

/-- The part with the fetch in flight over. -/
def State.fetchEnded (s : State) : State := { s with fetch := none, read := .idle }

/-- What FETCH_COMPLETE answers: nothing, with no read outstanding; the record dropped; or the record consumed and, where its slot
was reserved for it, accepted; a grant may come in between (R127). -/
theorem exec_fetchComplete_cases {s t : State} {data : ReadData} (h : exec (.fetchComplete data) s = .next t) :
    t = s ∨ ∃ f, s.fetch = some f ∧
      (s.dropsRecord f = true ∧ t = (s.fetchEnded.freeSlotFrom .fetching f.slot).grantIf data.granted ∨
        s.dropsRecord f = false ∧ ∃ u, u = (s.fetchEnded.modRing f.ring RequestRing.consume).grantIf data.granted ∧
          ((s.slot f.slot).state = .fetching ∧ t = (u.accept f.slot data.record).refreshIdle ∨ t = u.refreshIdle)) := by
  simp only [exec, execFetchComplete] at h
  split at h
  · rename_i f _ hf
    refine .inr ⟨f, hf, ?_⟩
    split at h
    · rename_i hd
      exact .inl ⟨hd, (Host.Outcome.next.inj h).symm⟩
    · rename_i hd
      refine .inr ⟨by simpa using hd, _, rfl, ?_⟩
      split at h
      · exact .inl ⟨‹_›, (Host.Outcome.next.inj h).symm⟩
      · exact .inr (Host.Outcome.next.inj h).symm
  · exact .inl (Host.Outcome.next.inj h).symm

/-! #### The table of R1 -/

theorem mem_slotMoves_of_rank {x y : SlotState} (h : y.rank ≤ x.rank) : y ∈ slotMoves x := by
  revert h
  cases x <;> cases y <;> decide

/-- From `s` to `t` every slot has moved along the table of R1. -/
def MovesAlong (s t : State) : Prop := ∀ j, (t.slot j).state ∈ slotMoves (s.slot j).state

theorem Winds.movesAlong {s t : State} (h : Winds s t) : MovesAlong s t := fun j => mem_slotMoves_of_rank (h j).1

theorem MovesAlong.of_free {s t : State} (h : ∀ j, t.slot j = Slot.empty) : MovesAlong s t := by
  intro j
  rw [h j]
  exact mem_slotMoves_of_rank (Nat.zero_le _)

/-- A grant moves a FREE slot to FETCHING, and may follow the freeing of a FETCHING slot. -/
theorem MovesAlong.grantIf {s t : State} (h : ∀ j, (t.slot j).state.rank ≤ (s.slot j).state.rank)
    (hf : ∀ j, (t.slot j).state = .free → (s.slot j).state = .free ∨ (s.slot j).state = .fetching) (granted : Bool) :
    MovesAlong s (t.grantIf granted) := by
  intro j
  rcases t.slot_grantIf granted j with hj | ⟨hfree, r, hj⟩
  · rw [hj]; exact mem_slotMoves_of_rank (h j)
  · rw [hj]
    rcases hf j hfree with hs | hs <;> rw [hs] <;> simp [slotMoves]

theorem MovesAlong.fetchComplete {s t : State} {data : ReadData} (h : exec (.fetchComplete data) s = .next t) : MovesAlong s t := by
  rcases exec_fetchComplete_cases h with rfl | ⟨f, -, ⟨-, rfl⟩ | ⟨-, u, hu, h⟩⟩
  · exact (Winds.refl _).movesAlong
  · have hw : Winds s (s.fetchEnded.freeSlotFrom .fetching f.slot) :=
      (Winds.of_slots (t := s.fetchEnded) rfl).trans (.freeSlotFrom _ _ _)
    refine .grantIf (fun j => (hw j).1) (fun j hj => ?_) _
    unfold State.freeSlotFrom at hj
    split at hj
    · rename_i hs
      by_cases hij : f.slot = j
      · exact .inr (hij ▸ hs)
      · exact .inl (by rwa [State.freeSlot, State.slot_setSlot_of_ne _ _ _ _ hij] at hj)
    · exact .inl hj
  · have hgrant : ∀ j, u.slot j = s.slot j ∨ (s.slot j).state = .free ∧
        ∃ r, u.slot j = { Slot.empty with state := .fetching, ring := some r } := by
      rw [hu]
      exact State.slot_grantIf _ data.granted
    have hu' : MovesAlong s u := by
      intro j
      rcases hgrant j with hj | ⟨hs, r, hj⟩
      · rw [hj]; exact mem_slotMoves_of_rank le_rfl
      · rw [hj, hs]; simp [slotMoves]
    rcases h with ⟨hs, rfl⟩ | rfl
    · intro j
      have hacc := Winds.accept u f.slot data.record j
      rcases hgrant j with hj | ⟨hfree, r, hj⟩
      · rw [hj] at hacc
        exact mem_slotMoves_of_rank hacc.1
      · have hne : j ≠ f.slot := by rintro rfl; simp [hs] at hfree
        have hkept := u.fetching_kept_accept hne data.record (by rw [hj])
        rw [show ((u.accept f.slot data.record).refreshIdle.slot j).state = .fetching from hkept, hfree]
        simp [slotMoves]
    · exact hu'

end Sys2Proof.Machine
end

/-! ### The commands of the host port, the ring unit and the completion writer -/

section
namespace Sys2Proof.Machine

/-- `t` is the part after a reset that began in `s`: every block at its reset values, a segment's configuration and the map kept or
cleared (R164). -/
structure WasReset (s t : State) : Prop where
  slots : ∀ i, t.slot i = Slot.empty
  queues : ∀ g, t.queue g = []
  segs : ∀ g, t.seg g = Segment.cold ∨ t.seg g = (s.seg g).functionReset
  map : ∀ e, t.map.get e = s.map.get e ∨ t.map.get e = MapEntry.empty
  rings : ∀ r, t.ring r = RequestRing.empty
  cqs : ∀ c, t.cq c = CompletionRing.empty
  idle : t.rotPtr = 1 ∧ t.grantCount = 0 ∧ t.fetch = none ∧ t.write = none
  kept : t.pending = s.pending ∧ s.link <+: t.link

/-- From `s` to `t` the segments, their queues, the map and the count of arrivals are as they were. -/
structure LinesKept (s t : State) : Prop where
  queues : t.queues = s.queues
  segs : t.segs = s.segs
  map : t.map = s.map
  lastArrival : t.lastArrival = s.lastArrival

theorem LinesKept.refl (s : State) : LinesKept s s := ⟨rfl, rfl, rfl, rfl⟩

theorem LinesKept.trans {s t u : State} (h : LinesKept s t) (k : LinesKept t u) : LinesKept s u :=
  ⟨k.queues.trans h.queues, k.segs.trans h.segs, k.map.trans h.map, k.lastArrival.trans h.lastArrival⟩

theorem LinesKept.seg {s t : State} (h : LinesKept s t) (g : Seg) : t.seg g = s.seg g := by
  unfold State.seg; rw [h.segs]

theorem LinesKept.queue {s t : State} (h : LinesKept s t) (g : Seg) : t.queue g = s.queue g := by
  unfold State.queue; rw [h.queues]

/-! #### Resets -/

theorem State.slot_reset (i : SlotId) : State.reset.slot i = Slot.empty := by
  simp [State.slot, State.reset, Vector.get_eq_getElem]

theorem State.queue_reset (g : Seg) : State.reset.queue g = [] := by
  simp [State.queue, State.reset, Vector.get_eq_getElem]

theorem State.seg_reset (g : Seg) : State.reset.seg g = Segment.cold := by
  simp [State.seg, State.reset, Vector.get_eq_getElem]

theorem State.ring_reset (r : Ring) : State.reset.ring r = RequestRing.empty := by
  simp [State.ring, State.reset, Vector.get_eq_getElem]

theorem State.cq_reset (c : Cq) : State.reset.cq c = CompletionRing.empty := by
  simp [State.cq, State.reset, Vector.get_eq_getElem]

theorem State.map_reset (e : EntryId) : State.reset.map.get e = MapEntry.empty := by
  simp [State.reset, Vector.get_eq_getElem]

theorem State.seg_beginFunctionReset (s : State) (g : Seg) : s.beginFunctionReset.seg g = (s.seg g).functionReset := by
  simp [State.beginFunctionReset, Vector.get_eq_getElem]

theorem WasReset.cold (s : State) (k : Option ResetKind) :
    WasReset s { State.reset with resetting := k, link := s.link, pending := s.pending } :=
  ⟨State.slot_reset, State.queue_reset, fun g => .inl (State.seg_reset g), fun e => .inr (State.map_reset e), State.ring_reset,
    State.cq_reset, ⟨rfl, rfl, rfl, rfl⟩, rfl, List.prefix_rfl⟩

theorem WasReset.function (s : State) : WasReset s s.beginFunctionReset :=
  ⟨State.slot_reset, State.queue_reset, fun g => .inr (s.seg_beginFunctionReset g), fun _ => .inl rfl, State.ring_reset,
    State.cq_reset, ⟨rfl, rfl, rfl, rfl⟩, rfl, List.prefix_rfl⟩

/-- A function reset is taken, or one is in progress already. -/
theorem State.startFunctionReset_cases (s : State) : s.startFunctionReset = s ∨
    s.startFunctionReset = s.beginFunctionReset ∧ s.startFunctionReset.ready = false := by
  unfold State.startFunctionReset
  split
  · exact .inr ⟨rfl, rfl⟩
  · exact .inl rfl

/-! #### What the host port, the ring unit and the completion writer may change -/

/-- From `s` to `t` the host port, the ring unit or the completion writer has acted: segments and queues are as they were, the slots
have wound down, the queue of commands is kept and nothing issued on the link is recalled. -/
structure HostSide (s t : State) : Prop extends LinesKept s t where
  winds : Winds s t
  pending : t.pending = s.pending
  link : s.link <+: t.link

theorem HostSide.refl (s : State) : HostSide s s := ⟨.refl s, .refl s, rfl, List.prefix_rfl⟩

theorem HostSide.trans {s t u : State} (h : HostSide s t) (k : HostSide t u) : HostSide s u :=
  ⟨h.toLinesKept.trans k.toLinesKept, h.winds.trans k.winds, k.pending.trans h.pending, h.link.trans k.link⟩

/-- A change of the host's own fields, the link apart. -/
theorem HostSide.of_eq {s t : State} (h : LinesKept s t) (hs : t.slots = s.slots) (hp : t.pending = s.pending) (hl : t.link = s.link) :
    HostSide s t := ⟨h, .of_slots hs, hp, by rw [hl]⟩

theorem HostSide.setSlot {s : State} {i : SlotId} {x : Slot} (h : Winds s (s.setSlot i x)) : HostSide s (s.setSlot i x) :=
  ⟨⟨rfl, rfl, rfl, rfl⟩, h, rfl, List.prefix_rfl⟩

theorem HostSide.setCq (s : State) (c : Cq) (x : CompletionRing) : HostSide s (s.setCq c x) := .of_eq ⟨rfl, rfl, rfl, rfl⟩ rfl rfl rfl

theorem HostSide.setRing (s : State) (r : Ring) (x : RequestRing) : HostSide s (s.setRing r x) := .of_eq ⟨rfl, rfl, rfl, rfl⟩ rfl rfl rfl

theorem HostSide.postNotice (s : State) (c : Cq) (n : Notice) : HostSide s (s.postNotice c n) := by
  rw [State.postNotice_eq]
  split
  · exact .refl s
  · split <;> exact .setCq _ _ _

theorem HostSide.freeSlot (s : State) (i : SlotId) : HostSide s (s.freeSlot i) := .setSlot (.freeSlot s i)

theorem HostSide.freeSlotFrom (s : State) (st : SlotState) (i : SlotId) : HostSide s (s.freeSlotFrom st i) := by
  unfold State.freeSlotFrom
  split
  · exact .freeSlot s i
  · exact .refl s

theorem HostSide.postSlot (s : State) (i : SlotId) : HostSide s (s.postSlot i) := by
  unfold State.postSlot
  split
  · exact .freeSlot _ _
  · split
    · exact .setCq _ _ _
    · exact .freeSlot _ _

theorem HostSide.completeSlot (s : State) (i : SlotId) (r : Result) : HostSide s (s.completeSlot i r) := by
  unfold State.completeSlot
  split
  · rename_i h
    have hdone : HostSide s (s.modSlot i fun t => { t with state := .done, deadlineTimer := .stopped, result := some r }) := by
      refine .setSlot (.setSlot ?_ fun _ => rfl)
      rcases h with h | h <;> simp [h, SlotState.rank]
    exact hdone.trans (.postSlot _ _)
  · exact .refl s

theorem HostSide.answerResult (s : State) (i : SlotId) (r : Result) : HostSide s (s.answerResult i r) := by
  unfold State.answerResult
  split
  · exact .completeSlot _ _ _
  · exact .refl s

theorem HostSide.fetchEnded (s : State) : HostSide s s.fetchEnded := .of_eq ⟨rfl, rfl, rfl, rfl⟩ rfl rfl rfl

theorem HostSide.discardPostings (s : State) (l : List Posting) : HostSide s (s.discardPostings l) := by
  induction l generalizing s with
  | nil => exact .refl s
  | cons p l ih =>
    cases p with
    | slot i => exact (HostSide.freeSlotFrom s .done i).trans (ih _)
    | notice n => exact ih s

/-- From `s` to `t` the rings, the completion rings, the rotation, the fetch in flight and the waiting write are as they were, or the
last two are over. -/
structure PortKept (s t : State) : Prop where
  rings : t.rings = s.rings
  cqs : t.cqs = s.cqs
  rotPtr : t.rotPtr = s.rotPtr
  grantCount : t.grantCount = s.grantCount
  fetch : t.fetch = s.fetch ∨ t.fetch = none
  write : t.write = s.write ∨ t.write = none

theorem PortKept.refl (s : State) : PortKept s s := ⟨rfl, rfl, rfl, rfl, .inl rfl, .inl rfl⟩

theorem PortKept.trans {s t u : State} (h : PortKept s t) (k : PortKept t u) : PortKept s u where
  rings := k.rings.trans h.rings
  cqs := k.cqs.trans h.cqs
  rotPtr := k.rotPtr.trans h.rotPtr
  grantCount := k.grantCount.trans h.grantCount
  fetch := by
    rcases k.fetch with e | e
    · rw [e]; exact h.fetch
    · exact .inr e
  write := by
    rcases k.write with e | e
    · rw [e]; exact h.write
    · exact .inr e

theorem PortKept.freeSlotFrom (s : State) (st : SlotState) (i : SlotId) : PortKept s (s.freeSlotFrom st i) := by
  unfold State.freeSlotFrom
  split <;> exact ⟨rfl, rfl, rfl, rfl, .inl rfl, .inl rfl⟩

theorem PortKept.discardPostings (s : State) (l : List Posting) : PortKept s (s.discardPostings l) := by
  induction l generalizing s with
  | nil => exact .refl s
  | cons p l ih =>
    cases p with
    | slot i => exact (PortKept.freeSlotFrom s .done i).trans (ih _)
    | notice n => exact ih s

/-- Completion ring record `x` may take the place of `q` while `write` waits: it is legal where `q` is, its state is kept or an ACTIVE
ring has gone into error, and a waiting write still finds its entry. -/
structure CompletionRing.Follows (write : Option WriteRequest) (q x : CompletionRing) : Prop where
  legal : CqLegal q → CqLegal x
  state : x.state = q.state ∨ q.state = .active ∧ x.state = .errored
  entry : write = none ∨ x.state = q.state ∧ x.config = q.config ∧ x.producer = q.producer ∧ x.backlog = q.backlog ∧
    x.unreleased ≤ q.unreleased

/-- From `s` to `t` the host port, the ring unit or the completion writer has acted: slots freed or answered, notices posted, one of
their records replaced. -/
inductive HostMove : State → State → Prop
  | trans {s t u : State} : HostMove s t → HostMove t u → HostMove s u
  | side {s t : State} (h : HostSide s t) (hp : PortKept s t) (hs : t.slots = s.slots) : HostMove s t
  | free (s : State) (st : SlotState) (i : SlotId) (h : st ≠ .live) : HostMove s (s.freeSlotFrom st i)
  | notice (s : State) (c : Cq) (n : Notice) : HostMove s (s.postNotice c n)
  | answerResult (s : State) (i : SlotId) (r : Result) : HostMove s (s.answerResult i r)
  | producer (s : State) (r : Ring) (n : Nat) (h : (s.ring r).configured = true ∧ n < (s.ring r).size) :
      HostMove s (s.setRing r { s.ring r with producer := n })
  | failed (s : State) (f : Fetch) (why : FetchFailure) (hf : s.fetch = some f) (hd : f.discard = false) :
      HostMove s (s.fetchEnded.setRing f.ring { s.ring f.ring with state := .errored, error := some why })
  | deleted (s : State) (r : Ring) (h : (s.ring r).state = .deleting ∧ s.holdsNoSlot r = true) :
      HostMove s (s.setRing r RequestRing.empty)
  | broughtUp (s : State) (h : s.beforeBringUp = true) (hv : s.adminRegistersValid = true) :
      HostMove s ((s.setRing 0 (RequestRing.created s.adminRingConfig)).setCq 0 (CompletionRing.created s.adminCqConfig))
  | cq (s : State) (c : Cq) (x : CompletionRing) (h : (s.cq c).Follows s.write x) : HostMove s (s.setCq c x)
  | request (s : State) (c : Cq) (h : (s.cq c).writable = true) :
      HostMove s { s with write := some { cq := c, addr := (s.cq c).entryAddr } }

theorem HostMove.hostSide {s t : State} (h : HostMove s t) : HostSide s t := by
  induction h with
  | trans _ _ h k => exact h.trans k
  | side h _ _ => exact h
  | free s st i _ => exact .freeSlotFrom s st i
  | notice s c n => exact .postNotice s c n
  | answerResult s i r => exact .answerResult s i r
  | failed s f why _ _ => exact (HostSide.fetchEnded s).trans (.setRing _ _ _)
  | broughtUp s _ _ => exact (HostSide.setRing s _ _).trans (.setCq _ _ _)
  | producer | deleted => exact .setRing _ _ _
  | cq => exact .setCq _ _ _
  | request => exact .of_eq ⟨rfl, rfl, rfl, rfl⟩ rfl rfl rfl

theorem WasReset.of_move {s t u : State} (h : HostMove s t) (k : WasReset t u) : WasReset s u where
  slots := k.slots
  queues := k.queues
  segs g := by rw [← h.hostSide.seg g]; exact k.segs g
  map e := by rw [← h.hostSide.map]; exact k.map e
  rings := k.rings
  cqs := k.cqs
  idle := k.idle
  kept := ⟨k.kept.1.trans h.hostSide.pending, h.hostSide.link.trans k.kept.2⟩

namespace HostMove

theorem refl (s : State) : HostMove s s := .side (.refl s) (.refl s) rfl

/-- A change of the host's own fields, the rings and the link apart. -/
theorem of_eq {s t : State} (h : LinesKept s t) (hs : t.slots = s.slots) (hp : t.pending = s.pending) (hl : t.link = s.link)
    (hk : PortKept s t) : HostMove s t := .side (.of_eq h hs hp hl) hk hs

theorem ite {s t u : State} {p : Prop} [Decidable p] (h : p → HostMove s t) (k : ¬ p → HostMove s u) :
    HostMove s (if p then t else u) := by
  split
  · exact h ‹_›
  · exact k ‹_›

theorem when {s t : State} {p : Prop} [Decidable p] (h : p → HostMove s t) : HostMove s (if p then t else s) :=
  ite h fun _ => .refl s

theorem discardPostings (s : State) (l : List Posting) : HostMove s (s.discardPostings l) := by
  induction l generalizing s with
  | nil => exact .refl s
  | cons p l ih =>
    cases p with
    | slot i => exact (HostMove.free s .done i nofun).trans (ih _)
    | notice n => exact ih s

theorem fetchEnded (s : State) : HostMove s s.fetchEnded := .side (.fetchEnded s) ⟨rfl, rfl, rfl, rfl, .inr rfl, .inl rfl⟩ rfl

/-! #### Rings and fetches -/

theorem bringUp (s : State) (h : s.beforeBringUp = true) : HostMove s s.bringUp := by
  unfold State.bringUp
  split
  · exact (HostMove.broughtUp s h ‹_›).trans (.of_eq ⟨rfl, rfl, rfl, rfl⟩ rfl rfl rfl ⟨rfl, rfl, rfl, rfl, .inl rfl, .inl rfl⟩)
  · exact .of_eq ⟨rfl, rfl, rfl, rfl⟩ rfl rfl rfl ⟨rfl, rfl, rfl, rfl, .inl rfl, .inl rfl⟩

theorem postProducer (s : State) (r : Ring) (v : Word) : HostMove s (s.postProducer r v) := when fun h => .producer s r _ h

theorem completeDeletion (s : State) (r : Ring) (h : (s.ring r).state = .deleting ∧ s.holdsNoSlot r = true) :
    HostMove s (s.completeDeletion r) := by
  unfold State.completeDeletion
  refine .trans (.deleted s r h) ?_
  dsimp only
  split
  · exact .answerResult _ _ _
  · exact .refl _

theorem fetchFailed (s : State) (f : Fetch) (why : FetchFailure) (hf : s.fetch = some f) : HostMove s (s.fetchFailed f why) := by
  have hcomm : (s.fetchEnded.freeSlotFrom .fetching f.slot).modRing f.ring (fun q => { q with state := .errored, error := some why })
      = (s.fetchEnded.setRing f.ring { s.ring f.ring with state := .errored, error := some why }).freeSlotFrom .fetching f.slot := by
    unfold State.freeSlotFrom
    split
    · rw [if_pos (by exact ‹_›)]; rfl
    · rw [if_neg (by exact ‹_›)]; rfl
  unfold State.fetchFailed
  refine ite (fun _ => (fetchEnded s).trans (free _ _ _ nofun)) fun hd => ?_
  refine .trans ?_ (.notice _ _ _)
  exact hcomm ▸ (HostMove.failed s f why hf (by simpa using hd)).trans (free _ _ _ nofun)

/-! #### Completion rings -/

end HostMove

/-- A message sent leaves a legal ring legal. -/
theorem CqLegal.disarmed {q : CompletionRing} (h : CqLegal q) : CqLegal { q with armed := false, sinceMessage := 0, delayTimer := .stopped } where
  configured := h.configured
  config := h.config
  unconfigured hq := by rw [h.unconfigured hq]; rfl
  backlog := h.backlog
  notices := h.notices
  message hq := ⟨rfl, rfl, (h.message hq).2.2⟩
  timer hq := absurd rfl hq

theorem CqLegal.delayStopped {q : CompletionRing} (h : CqLegal q) : CqLegal { q with delayTimer := .stopped } where
  configured := h.configured
  config := h.config
  unconfigured hq := by rw [h.unconfigured hq]; rfl
  backlog := h.backlog
  notices := h.notices
  message := h.message
  timer hq := absurd rfl hq

/-- The fields of an ACTIVE ring that its state and configuration do not bind. -/
theorem CqLegal.of_active {q x : CompletionRing} (h : CqLegal q) (hq : q.state = .active) (hs : x.state = q.state)
    (hc : x.config = q.config) (hp : x.producer = q.producer) (hr : x.release = q.release) (hu : x.unreleased = q.unreleased)
    (hn : x.noticesWaiting = noticesIn x.backlog ∧ x.noticesWaiting ≤ 8) (ht : x.delayTimer ≠ .stopped → 1 ≤ x.sinceMessage) :
    CqLegal x where
  configured := by rw [hs, hc]; exact h.configured
  config := by rw [hc, hp, hr, hu]; exact h.config
  unconfigured hx := by rw [hs, hq] at hx; cases hx
  backlog _ := hs.trans hq
  notices := hn
  message hx := absurd (hs.trans hq) hx
  timer := ht

theorem noticesIn_slot (i : SlotId) (l : List Posting) : noticesIn (.slot i :: l) = noticesIn l := rfl

theorem noticesIn_notice (n : Notice) (l : List Posting) : noticesIn (.notice n :: l) = noticesIn l + 1 := rfl

theorem State.cq_freeSlotFrom (s : State) (st : SlotState) (i : SlotId) (c : Cq) : (s.freeSlotFrom st i).cq c = s.cq c := by
  unfold State.freeSlotFrom
  split <;> rfl

theorem State.freeSlotFrom_setCq (s : State) (st : SlotState) (i : SlotId) (c : Cq) (x : CompletionRing) :
    (s.freeSlotFrom st i).setCq c x = (s.setCq c x).freeSlotFrom st i := by
  unfold State.freeSlotFrom
  split
  · rw [if_pos (by exact ‹_›)]; rfl
  · rw [if_neg (by exact ‹_›)]

/-- The head's slot is freed and the ring advances. -/
theorem State.takePosting_slot_advance (s : State) (c : Cq) (i : SlotId) :
    (s.takePosting c (.slot i)).modCq c CompletionRing.advance =
      (s.setCq c { (s.cq c).advance with backlog := (s.cq c).backlog.tail }).freeSlotFrom .done i := by
  simp only [State.takePosting, State.modCq_eq, State.freeSlotFrom_setCq, State.cq_freeSlotFrom, State.cq_setCq_self, State.setCq_setCq]
  rfl

/-- The head's notice is taken and the ring advances. -/
theorem State.takePosting_notice_advance (s : State) (c : Cq) (n : Notice) :
    (s.takePosting c (.notice n)).modCq c CompletionRing.advance = s.setCq c { (s.cq c).advance with
      backlog := (s.cq c).backlog.tail, noticesWaiting := (s.cq c).noticesWaiting - 1, noticesLost := false } := by
  simp only [State.takePosting, State.modCq_eq, State.cq_setCq_self, State.setCq_setCq]
  rfl

namespace HostMove

theorem sendMessage (s : State) (c : Cq) : HostMove s (s.sendMessage c) := by
  have h : HostMove s (s.setCq c { s.cq c with armed := false, sinceMessage := 0, delayTimer := .stopped }) :=
    .cq s c _ ⟨CqLegal.disarmed, .inl rfl, .inr ⟨rfl, rfl, rfl, rfl, le_rfl⟩⟩
  exact h.trans (.of_eq ⟨rfl, rfl, rfl, rfl⟩ rfl rfl rfl ⟨rfl, rfl, rfl, rfl, .inl rfl, .inl rfl⟩)

theorem delayRunsOut (s : State) (c : Cq) : HostMove s (s.delayRunsOut c) :=
  ite (fun _ => sendMessage s c) fun _ => .cq s c _ ⟨CqLegal.delayStopped, .inl rfl, .inr ⟨rfl, rfl, rfl, rfl, le_rfl⟩⟩

theorem startDelay (s : State) (c : Cq) (hs : (s.cq c).state = .active) (hm : 1 ≤ (s.cq c).sinceMessage) :
    HostMove s (s.startDelay c) :=
  ite (fun _ => delayRunsOut s c) fun _ => .cq s c _
    ⟨fun h => h.of_active hs rfl rfl rfl rfl rfl h.notices fun _ => hm, .inl rfl, .inr ⟨rfl, rfl, rfl, rfl, le_rfl⟩⟩

theorem rearm (s : State) (c : Cq) (hs : (s.cq c).state = .active) : HostMove s (s.rearm c) := by
  have harm : HostMove s (s.setCq c { s.cq c with armed := true }) :=
    .cq s c _ ⟨fun h => h.of_active hs rfl rfl rfl rfl rfl h.notices h.timer, .inl rfl, .inr ⟨rfl, rfl, rfl, rfl, le_rfl⟩⟩
  refine ite (fun _ => harm) fun hm => ite (fun _ => sendMessage s c) fun _ => harm.trans (startDelay _ c ?_ ?_)
  · simpa using hs
  · simpa using Nat.one_le_iff_ne_zero.2 hm

/-- The release index moved forward past some unreleased entries leaves the producer index where it was. -/
theorem release_add_mod {size release unreleased v : Nat} (hr : release < size) (hv : v < size)
    (h : (v + size - release) % size < unreleased) :
    (v + (unreleased - (v + size - release) % size)) % size = (release + unreleased) % size := by
  rcases Nat.lt_or_ge v release with hlt | hge
  · rw [Nat.mod_eq_of_lt (show v + size - release < size by omega)] at h ⊢
    rw [show release + unreleased = v + (unreleased - (v + size - release)) + size by omega, Nat.add_mod_right]
  · rw [show v + size - release = v - release + size by omega, Nat.add_mod_right,
      Nat.mod_eq_of_lt (show v - release < size by omega)] at h ⊢
    rw [show v + (unreleased - (v - release)) = release + unreleased by omega]

/-- Entries released: the release index moves up to the producer index or to an unreleased entry (R134). -/
theorem setReleased (s : State) (c : Cq) (r u : Nat) (hs : (s.cq c).state = .active) (hu : u ≤ (s.cq c).unreleased)
    (hr : ∀ cfg, (s.cq c).config = some cfg → CqLegal (s.cq c) → r < cfg.size ∧ (r + u) % cfg.size = (s.cq c).producer) :
    HostMove s (s.setCq c { s.cq c with release := r, unreleased := u }) := by
  refine .cq s c _ ⟨fun h => ?_, .inl rfl, .inr ⟨rfl, rfl, rfl, rfl, hu⟩⟩
  exact {
    configured := h.configured
    config := fun cfg hc => by
      obtain ⟨h1, h2, h3, h4, h5, h6, -, h8, -⟩ := h.config cfg hc
      exact ⟨h1, h2, h3, h4, h5, h6, (hr cfg hc h).1, hu.trans h8, (hr cfg hc h).2⟩
    unconfigured := fun hx => by rw [show (s.cq c).state = .unconfigured from hx] at hs; cases hs
    backlog := h.backlog
    notices := h.notices
    message := h.message
    timer := h.timer }

theorem releaseEntries (s : State) (c : Cq) (v : Word) : HostMove s (s.releaseEntries c v) := by
  unfold State.releaseEntries
  refine ite (fun _ => .refl s) fun h => ?_
  have hs : (s.cq c).state = .active := by_contra fun hs => h (.inl hs)
  have hv : indexOf v < (s.cq c).size := by_contra fun hv => h (.inr (Nat.le_of_not_lt hv))
  refine ite (fun hp => .trans (setReleased s c _ _ hs (Nat.zero_le _) ?_) (rearm _ c (by simpa using hs)))
    fun hp => when fun hr => .trans (setReleased s c _ _ hs (Nat.sub_le _ _) ?_) (rearm _ c (by simpa using hs))
  · intro cfg hc _
    rw [CompletionRing.size_of_config hc] at hv
    exact ⟨hv, by rw [Nat.add_zero, Nat.mod_eq_of_lt hv, hp]⟩
  · intro cfg hc hl
    obtain ⟨-, -, -, -, -, -, hrel, -, hsum⟩ := hl.config cfg hc
    unfold CompletionRing.released at hr ⊢
    rw [CompletionRing.size_of_config hc] at hv hr ⊢
    exact ⟨hv, (release_add_mod hrel hv hr).trans hsum⟩

theorem entryWritten (s : State) (c : Cq) (hs : (s.cq c).state = .active) : HostMove s (s.entryWritten c) := by
  unfold State.entryWritten
  have h : HostMove s (s.modCq c fun q => { q with sinceMessage := q.sinceMessage + 1 }) :=
    .cq s c _ ⟨fun h => h.of_active hs rfl rfl rfl rfl rfl h.notices fun _ => Nat.le_add_left _ _, .inl rfl,
      .inr ⟨rfl, rfl, rfl, rfl, le_rfl⟩⟩
  refine ite (fun _ => h.trans (sendMessage _ _)) fun _ => ite (fun hm => h.trans (startDelay _ c ?_ hm.ge)) fun _ => h
  simpa using hs

/-- The ring's write has failed: it is in error with an empty backlog (R138). -/
theorem setErrored (s : State) (c : Cq) (hw : s.write = none) (hs : (s.cq c).state = .active) :
    HostMove s (s.setCq c { s.cq c with
      state := .errored, backlog := [], noticesWaiting := 0, noticesLost := false, delayTimer := .stopped, sinceMessage := 0
      armed := false }) := by
  refine .cq s c _ ⟨fun h => ?_, .inr ⟨hs, rfl⟩, .inl hw⟩
  exact {
    configured := by
      have hc := h.configured
      rw [hs] at hc
      simpa using hc
    config := h.config
    unconfigured := fun hx => by cases hx
    backlog := fun hx => absurd rfl hx
    notices := ⟨rfl, Nat.zero_le _⟩
    message := fun _ => ⟨rfl, rfl, rfl⟩
    timer := fun hx => absurd rfl hx }

theorem writeFailed (s : State) (c : Cq) (hw : s.write = none) (hs : (s.cq c).state = .active) : HostMove s (s.writeFailed c) := by
  have h := (setErrored s c hw hs).trans (discardPostings _ (s.cq c).backlog)
  exact ite (fun _ => h) fun _ => h.trans (.notice _ _ _)

/-- The head leaves the backlog and one more entry is unreleased (R133). -/
theorem setTaken (s : State) (c : Cq) (x : CompletionRing) (hw : s.write = none) (hq : (s.cq c).writable = true)
    (hx : x = { (s.cq c).advance with
      backlog := (s.cq c).backlog.tail, noticesWaiting := x.noticesWaiting, noticesLost := x.noticesLost })
    (hn : CqLegal (s.cq c) → x.noticesWaiting = noticesIn x.backlog ∧ x.noticesWaiting ≤ 8) :
    HostMove s (s.setCq c x) := by
  simp only [CompletionRing.writable, Bool.and_eq_true, decide_eq_true_eq] at hq
  obtain ⟨⟨hs, -⟩, hu⟩ := hq
  have hstate : x.state = (s.cq c).state := by rw [hx]; rfl
  refine .cq s c x ⟨fun h => ?_, .inl hstate, .inl hw⟩
  exact {
    configured := by rw [hstate, show x.config = (s.cq c).config by rw [hx]; rfl]; exact h.configured
    config := fun cfg hc => by
      rw [show x.config = (s.cq c).config by rw [hx]; rfl] at hc
      obtain ⟨h1, h2, h3, h4, h5, h6, h7, h8, h9⟩ := h.config cfg hc
      rw [CompletionRing.size_of_config hc] at hu
      rw [hx]
      simp only [CompletionRing.advance, CompletionRing.size_of_config hc]
      refine ⟨h1, h2, h3, h4, h5, ?_, h7, hu, ?_⟩
      · split <;> omega
      · rw [← Nat.add_assoc, Nat.add_mod, h9, Nat.mod_eq_of_lt (show 1 < cfg.size by simp [completionSizes] at h2; omega)]
        split
        · exact Nat.mod_eq_of_lt ‹_›
        · rw [show (s.cq c).producer + 1 = cfg.size by omega, Nat.mod_self]
    unconfigured := fun hq => by rw [hstate, hs] at hq; cases hq
    backlog := fun _ => hstate.trans hs
    notices := hn h
    message := fun hq => absurd (hstate.trans hs) hq
    timer := fun ht => by rw [hx] at ht ⊢; exact h.timer ht }

theorem writeRecord (s : State) (c : Cq) (a : Addr) (p : Posting) (hw : s.write = none) (hq : (s.cq c).writable = true)
    (hp : (s.cq c).backlog.head? = some p) : HostMove s (s.writeRecord c a p) := by
  have hlink : HostMove s { s with link := s.link ++ [LinkOp.recordWrite a (s.postingRecord c p)] } :=
    .side ⟨⟨rfl, rfl, rfl, rfl⟩, .of_slots rfl, rfl, List.prefix_append _ _⟩ ⟨rfl, rfl, rfl, rfl, .inl rfl, .inl rfl⟩ rfl
  have hs : (s.cq c).state = .active := by
    simp only [CompletionRing.writable, Bool.and_eq_true, decide_eq_true_eq] at hq
    exact hq.1.1
  have hb : (s.cq c).backlog = p :: (s.cq c).backlog.tail := (List.cons_head?_tail hp).symm
  unfold State.writeRecord
  refine .trans (hlink.trans ?_) (entryWritten _ c ?_)
  · cases p with
    | slot i =>
      rw [State.takePosting_slot_advance]
      refine .trans (setTaken _ c _ hw hq rfl fun h => ?_) (free _ _ _ nofun)
      have hn : (s.cq c).noticesWaiting = noticesIn (s.cq c).backlog ∧ (s.cq c).noticesWaiting ≤ 8 := h.notices
      rw [hb, noticesIn_slot] at hn
      exact hn
    | notice n =>
      rw [State.takePosting_notice_advance]
      refine setTaken _ c _ hw hq rfl fun h => ?_
      have hn : (s.cq c).noticesWaiting = noticesIn (s.cq c).backlog ∧ (s.cq c).noticesWaiting ≤ 8 := h.notices
      rw [hb, noticesIn_notice] at hn
      exact ⟨Nat.sub_eq_of_eq_add hn.1, (Nat.sub_le _ _).trans hn.2⟩
  · cases p with
    | slot i =>
      rw [State.takePosting_slot_advance, State.cq_freeSlotFrom, State.cq_setCq_self]
      exact hs
    | notice n =>
      rw [State.takePosting_notice_advance, State.cq_setCq_self]
      exact hs

end HostMove

/-! #### Register writes -/

/-- A word written to the window changes the host's records, or starts a function reset. -/
theorem State.writeWord_cases (s : State) (offset : Nat) (v : Word) : HostMove s (s.writeWord offset v) ∨
    s.writeWord offset v = s.beginFunctionReset := by
  have hfield (t : State) (h : LinesKept s t) (hs : t.slots = s.slots) (hp : t.pending = s.pending) (hl : t.link = s.link)
      (hk : PortKept s t) : HostMove s (if s.adminWritable then t else s) := .when fun _ => .of_eq h hs hp hl hk
  unfold State.writeWord
  split
  · exact .inl (.refl s)
  · split
    · exact .inl (.refl s)
    · exact .inl (.refl s)
    · unfold State.writeControl
      split
      · rcases s.startFunctionReset_cases with h | ⟨h, -⟩
        · exact .inl (by rw [h]; exact .refl s)
        · exact .inr h
      · refine .inl (.ite (fun _ => .refl s) fun _ => .ite (fun _ => .ite (fun hb => .bringUp s hb) fun _ => ?_) fun _ => ?_)
        · exact .of_eq ⟨rfl, rfl, rfl, rfl⟩ rfl rfl rfl ⟨rfl, rfl, rfl, rfl, .inl rfl, .inl rfl⟩
        · exact .of_eq ⟨rfl, rfl, rfl, rfl⟩ rfl rfl rfl ⟨rfl, rfl, rfl, rfl, .inl rfl, .inl rfl⟩
    · exact .inl (hfield _ ⟨rfl, rfl, rfl, rfl⟩ rfl rfl rfl ⟨rfl, rfl, rfl, rfl, .inl rfl, .inl rfl⟩)
    · exact .inl (hfield _ ⟨rfl, rfl, rfl, rfl⟩ rfl rfl rfl ⟨rfl, rfl, rfl, rfl, .inl rfl, .inl rfl⟩)
    · exact .inl (hfield _ ⟨rfl, rfl, rfl, rfl⟩ rfl rfl rfl ⟨rfl, rfl, rfl, rfl, .inl rfl, .inl rfl⟩)
    · exact .inl (hfield _ ⟨rfl, rfl, rfl, rfl⟩ rfl rfl rfl ⟨rfl, rfl, rfl, rfl, .inl rfl, .inl rfl⟩)
    · exact .inl (hfield _ ⟨rfl, rfl, rfl, rfl⟩ rfl rfl rfl ⟨rfl, rfl, rfl, rfl, .inl rfl, .inl rfl⟩)
    · exact .inl (.postProducer _ _ _)
    · exact .inl (.releaseEntries _ _ _)

theorem State.writeWord_beginFunctionReset (s : State) (offset : Nat) (v : Word) :
    s.beginFunctionReset.writeWord offset v = s.beginFunctionReset := State.writeWord_of_resetting rfl offset v

/-- A write of any width changes the host's records, or starts a function reset. -/
theorem exec_registerWrite_cases {s t : State} {offset : Nat} {width : AccessWidth} {v : BitVec 64}
    (h : exec (.registerWrite offset width v) s = .next t) :
    HostMove s t ∨ ∃ u, HostMove s u ∧ t = u.beginFunctionReset := by
  simp only [exec, execRegisterWrite] at h
  obtain rfl := Host.Outcome.next.inj h
  split
  · exact .inl (.refl s)
  · exact .inl (.refl s)
  · rcases s.writeWord_cases offset (lowWord v) with h | h
    · exact .inl h
    · exact .inr ⟨s, .refl s, h⟩
  · rcases s.writeWord_cases offset (lowWord v) with h | h
    · rcases (s.writeWord offset (lowWord v)).writeWord_cases (offset + 4) (highWord v) with k | k
      · exact .inl (h.trans k)
      · exact .inr ⟨_, h, k⟩
    · rw [h, State.writeWord_beginFunctionReset]
      exact .inr ⟨s, .refl s, rfl⟩

/-- A grant takes one FREE slot and leaves the segments, the link and the queue of commands. -/
theorem State.grantIf_linesKept (s : State) (granted : Bool) : LinesKept s (s.grantIf granted) := by
  rw [State.grantIf_eq]
  exact ⟨rfl, rfl, rfl, rfl⟩

theorem State.grantIf_link (s : State) (granted : Bool) : (s.grantIf granted).link = s.link := by
  rw [State.grantIf_eq]

theorem State.grantIf_pending (s : State) (granted : Bool) : (s.grantIf granted).pending = s.pending := by
  rw [State.grantIf_eq]

end Sys2Proof.Machine
end

/-! ### What every command leaves: idle timers (R89), the link (R164), the way of a slot (R1) -/

section
namespace Sys2Proof.Machine

/-- The commands of the host port, the ring unit and the completion writer, a grant and the arrival of a record apart. -/
def isHost : Instr → Bool
  | .fetchGrant | .fetchComplete _ => false
  | c => !isWork c

/-- A command of the host side does moves of the host port, the ring unit or the completion writer, or is a reset. -/
theorem exec_host_moves {c : Instr} (hc : isHost c = true) {s t : State} (h : exec c s = .next t) :
    HostMove s t ∨ WasReset s t := by
  have hkeep {u : State} (hu : HostMove s u) (ht : exec c s = .next u) : HostMove s t :=
    Host.Outcome.next.inj (ht.symm.trans h) ▸ hu
  have hfield (u : State) (h : LinesKept s u) (hs : u.slots = s.slots) (hp : u.pending = s.pending) (hl : u.link = s.link)
      (hk : PortKept s u) (p : Prop) [Decidable p] : HostMove s (if p then u else s) := .when fun _ => .of_eq h hs hp hl hk
  have hreset : HostMove s s.startFunctionReset ∨ WasReset s s.startFunctionReset := by
    rcases s.startFunctionReset_cases with e | ⟨e, -⟩
    · exact .inl (by rw [e]; exact .refl s)
    · exact .inr (by rw [e]; exact .function s)
  cases c <;> try exact absurd hc Bool.false_ne_true
  case coldReset => exact .inr (Host.Outcome.next.inj h ▸ .cold s _)
  case controlReset => exact Host.Outcome.next.inj h ▸ hreset
  case functionLevelReset => exact Host.Outcome.next.inj h ▸ hreset
  case functionResetEnd =>
    exact .inl (hkeep (hfield { s with resetting := none } ⟨rfl, rfl, rfl, rfl⟩ rfl rfl rfl ⟨rfl, rfl, rfl, rfl, .inl rfl, .inl rfl⟩ _) rfl)
  case coldResetEnd =>
    exact .inl (hkeep (hfield { s with resetting := none } ⟨rfl, rfl, rfl, rfl⟩ rfl rfl rfl ⟨rfl, rfl, rfl, rfl, .inl rfl, .inl rfl⟩ _) rfl)
  case adminBringUp => exact .inl (hkeep (.when fun h => .bringUp s h.2.2) rfl)
  case enableSet =>
    exact .inl (hkeep (hfield { s with enable := true } ⟨rfl, rfl, rfl, rfl⟩ rfl rfl rfl ⟨rfl, rfl, rfl, rfl, .inl rfl, .inl rfl⟩ _) rfl)
  case enableClear =>
    exact .inl (hkeep (hfield { s with enable := false } ⟨rfl, rfl, rfl, rfl⟩ rfl rfl rfl ⟨rfl, rfl, rfl, rfl, .inl rfl, .inl rfl⟩ _) rfl)
  case rqPost r v => exact .inl (hkeep (.when fun _ => .postProducer s r v) rfl)
  case cqRelease d v => exact .inl (hkeep (.when fun _ => .releaseEntries s d v) rfl)
  case registerWrite offset width v =>
    rcases exec_registerWrite_cases h with h | ⟨u, hu, rfl⟩
    · exact .inl h
    · exact .inr (.of_move hu (.function u))
  case readIssue p =>
    refine .inl (Host.Outcome.next.inj h ▸ ?_)
    split
    · rename_i f _ hf
      have harb : HostMove s { s with arbLast := .ringUnit } :=
        .of_eq ⟨rfl, rfl, rfl, rfl⟩ rfl rfl rfl ⟨rfl, rfl, rfl, rfl, .inl rfl, .inl rfl⟩
      refine .when fun _ => .ite (fun _ => ?_) fun _ => harb.trans (.fetchFailed _ f _ hf)
      exact .side ⟨⟨rfl, rfl, rfl, rfl⟩, .of_slots rfl, rfl, List.prefix_append _ _⟩ ⟨rfl, rfl, rfl, rfl, .inl rfl, .inl rfl⟩ rfl
    · exact .refl s
  case ringDeleteComplete r => exact .inl (hkeep (.when fun h => .completeDeletion s r h) rfl)
  case fetchError =>
    refine .inl (Host.Outcome.next.inj h ▸ ?_)
    split
    · exact .fetchFailed _ _ _ ‹_›
    · exact .refl s
  case fetchTimeout =>
    refine .inl (Host.Outcome.next.inj h ▸ ?_)
    split
    · exact .fetchFailed _ _ _ ‹_›
    · exact .refl s
  case lateReadCompletion => exact .inl (hkeep (.refl s) rfl)
  case recordWriteRequest =>
    refine .inl (Host.Outcome.next.inj h ▸ ?_)
    split
    · rename_i d _ hd
      have hw : (s.cq d).writable = true := List.find?_some (p := fun c => (s.cq c).writable) hd
      exact .trans (.request s d hw)
        (.of_eq ⟨rfl, rfl, rfl, rfl⟩ rfl rfl rfl ⟨rfl, rfl, rfl, rfl, .inl rfl, .inl rfl⟩)
    · exact .refl s
  case recordWriteIssue p =>
    refine .inl (Host.Outcome.next.inj h ▸ ?_)
    split
    · exact .refl s
    · rename_i w _
      have hport : HostMove s { s with write := none, arbLast := .completionWriter } :=
        .of_eq ⟨rfl, rfl, rfl, rfl⟩ rfl rfl rfl ⟨rfl, rfl, rfl, rfl, .inl rfl, .inr rfl⟩
      refine .when fun ⟨_, _, hw⟩ => .ite (fun _ => ?_) fun _ => hport.trans (.writeFailed _ _ rfl ?_)
      · split
        · exact hport.trans (.writeRecord _ _ _ _ rfl hw ‹_›)
        · exact hport
      · simp only [CompletionRing.writable, Bool.and_eq_true, decide_eq_true_eq] at hw
        exact hw.1.1
  case interruptMessageIssue p =>
    refine .inl (Host.Outcome.next.inj h ▸ ?_)
    split
    · exact .refl s
    · refine .when fun _ => .side ⟨⟨rfl, rfl, rfl, rfl⟩, .of_slots rfl, rfl, ?_⟩ ⟨rfl, rfl, rfl, rfl, .inl rfl, .inl rfl⟩ rfl
      unfold State.takeMessage
      dsimp only
      split
      · exact List.prefix_append _ _
      · exact List.prefix_rfl
  case coalescingDelayExpiry d =>
    refine .inl (Host.Outcome.next.inj h ▸ ?_)
    split
    · exact .delayRunsOut _ _
    · exact .refl s

/-- A command of the host side leaves the segments and their queues and winds the slots down, or is a reset. -/
theorem exec_host_cases {c : Instr} (hc : isHost c = true) {s t : State} (h : exec c s = .next t) :
    HostSide s t ∨ WasReset s t := (exec_host_moves hc h).imp_left HostMove.hostSide

/-- The four sorts of command. -/
theorem instr_cases (c : Instr) : isWork c = true ∨ isHost c = true ∨ c = .fetchGrant ∨ ∃ data, c = .fetchComplete data := by
  cases c <;> simp [isWork, isHost]

/-! #### Idle timers -/

theorem IdleTimersFollow.of_kept {s t : State} (h : LinesKept s t) (k : IdleTimersFollow s) : IdleTimersFollow t := by
  intro g
  rw [h.seg, h.queue]
  exact k g

/-- A segment that is not ACTIVE has a stopped timer, and a reset leaves none ACTIVE. -/
theorem IdleTimersFollow.of_reset {s t : State} (h : WasReset s t) : IdleTimersFollow t := by
  intro g
  rcases h.segs g with hg | hg <;> rw [hg] <;> simp [Segment.cold, Segment.functionReset, Segment.quiet]

theorem exec_keeps_idleTimersFollow (c : Instr) (s t : State) (hs : IdleTimersFollow s) (h : exec c s = .next t) :
    IdleTimersFollow t := by
  rcases instr_cases c with hc | hc | rfl | ⟨data, rfl⟩
  · rcases exec_work_cases (legal := False) hc h False.elim with rfl | ⟨u, -, rfl⟩
    · exact hs
    · exact State.refreshIdle_follows u
  · rcases exec_host_cases hc h with hk | hk
    · exact .of_kept hk.toLinesKept hs
    · exact .of_reset hk
  · exact Host.Outcome.next.inj h ▸ .of_kept (s.grantIf_linesKept true) hs
  · rcases exec_fetchComplete_cases h with rfl | ⟨f, -, ⟨-, rfl⟩ | ⟨-, u, -, ⟨-, rfl⟩ | rfl⟩⟩
    · exact hs
    · exact .of_kept (((HostSide.fetchEnded s).trans (.freeSlotFrom _ _ _)).toLinesKept.trans (State.grantIf_linesKept _ _)) hs
    · exact State.refreshIdle_follows _
    · exact State.refreshIdle_follows _

/-- Settles O4: a command that touches a segment or a queue ends by bringing the timers up to date. -/
theorem stepKeepsIdleTimers : Obligations.StepKeepsIdleTimers :=
  fun _ _ hs h => step_keeps (P := IdleTimersFollow) (fun _ _ h => h) exec_keeps_idleTimersFollow hs h

/-! #### The way of a slot -/

/-- Settles O11: a grant takes a FREE slot to FETCHING; every other change winds a slot down. -/
theorem slotsMoveAlongTheTable : Obligations.SlotsMoveAlongTheTable := by
  intro c s t i h
  suffices hm : MovesAlong s t from hm i
  rcases instr_cases c with hc | hc | rfl | ⟨data, rfl⟩
  · rcases exec_work_cases (legal := False) hc h False.elim with rfl | ⟨u, hu, rfl⟩
    · exact (Winds.refl _).movesAlong
    · exact (hu.winds.trans (.of_slots rfl)).movesAlong
  · rcases exec_host_cases hc h with hk | hk
    · exact hk.winds.movesAlong
    · exact .of_free hk.slots
  · exact Host.Outcome.next.inj h ▸ .grantIf (fun _ => le_rfl) (fun _ hj => .inl hj) true
  · exact .fetchComplete h

/-! #### The link and the queue of commands -/

/-- From `s` to `t` the queue of commands is kept and nothing issued is recalled from the link. -/
def RecallsNothing (s t : State) : Prop := t.pending = s.pending ∧ s.link <+: t.link

theorem RecallsNothing.of_eq {s t : State} (hp : t.pending = s.pending) (hl : t.link = s.link) : RecallsNothing s t :=
  ⟨hp, by rw [hl]⟩

theorem RecallsNothing.trans {s t u : State} (h : RecallsNothing s t) (k : RecallsNothing t u) : RecallsNothing s u :=
  ⟨k.1.trans h.1, h.2.trans k.2⟩

theorem OnlyWork.recallsNothing {s t : State} (h : OnlyWork s t) : RecallsNothing s t := .of_eq h.pending h.link

theorem Acceptance.recallsNothing {own : Seg → Prop} {legal : Prop} {r : Ring} {i : SlotId} {s t : State}
    (h : Acceptance own legal r i s t) : RecallsNothing s t := by
  induction h with
  | work h => exact h.onlyWork.recallsNothing
  | trans _ _ h k => exact h.trans k
  | deleting s q _ _ =>
    rw [State.markDiscard_eq]
    exact .of_eq rfl rfl
  | deleteCq s c _ =>
    unfold State.deleteCq
    rw [State.withdrawWrite_eq]
    have h := (HostSide.setCq s c CompletionRing.empty).trans (.discardPostings _ (s.cq c).backlog)
    exact ⟨h.pending, h.link⟩
  | live | createRing | deleted | createCq | config | map | limits => exact .of_eq rfl rfl

theorem RecallsNothing.accept (s : State) (i : SlotId) (record : Record) : RecallsNothing s (s.accept i record) := by
  rcases s.accept_cases i record with h | ⟨r, -, -, h⟩
  · rw [h]; exact .of_eq rfl rfl
  · exact .trans (t := s.arrive i r record) (.of_eq rfl rfl) h.recallsNothing

theorem RecallsNothing.grantIf (s : State) (granted : Bool) : RecallsNothing s (s.grantIf granted) :=
  .of_eq (s.grantIf_pending granted) (s.grantIf_link granted)

theorem exec_recallsNothing {c : Instr} {s t : State} (h : exec c s = .next t) : RecallsNothing s t := by
  rcases instr_cases c with hc | hc | rfl | ⟨data, rfl⟩
  · exact (exec_work_onlyWork hc h).recallsNothing
  · rcases exec_host_cases hc h with hk | hk
    · exact ⟨hk.pending, hk.link⟩
    · exact hk.kept
  · exact Host.Outcome.next.inj h ▸ .grantIf s true
  · rcases exec_fetchComplete_cases h with rfl | ⟨f, -, ⟨-, rfl⟩ | ⟨-, u, hu, hk⟩⟩
    · exact .of_eq rfl rfl
    · have h := (HostSide.fetchEnded s).trans (.freeSlotFrom _ .fetching f.slot)
      exact .trans ⟨h.pending, h.link⟩ (.grantIf _ _)
    · have hu : RecallsNothing s u := by
        rw [hu]
        exact .trans (.of_eq rfl rfl) (.grantIf (s.fetchEnded.modRing f.ring RequestRing.consume) data.granted)
      rcases hk with ⟨-, rfl⟩ | rfl
      · exact (hu.trans (.accept u f.slot data.record)).trans (.of_eq rfl rfl)
      · exact hu.trans (.of_eq rfl rfl)

theorem exec_answers (c : Instr) (s : State) : ∃ t, exec c s = .next t := by
  rcases instr_cases c with hc | hc | rfl | ⟨data, rfl⟩
  · rcases exec_works (legal := False) hc (fun _ => id) s False.elim with h | ⟨u, -, h⟩
    · exact ⟨s, h⟩
    · exact ⟨u.refreshIdle, h⟩
  · cases c <;> try exact absurd hc Bool.false_ne_true
    all_goals exact ⟨_, rfl⟩
  · exact ⟨_, rfl⟩
  · change ∃ t, execFetchComplete data s = .next t
    unfold execFetchComplete
    split
    · dsimp only
      split
      · exact ⟨_, rfl⟩
      · exact ⟨_, rfl⟩
    · exact ⟨s, rfl⟩

/-- Settles O2: each command answers a next state, and none touches the queue of commands or recalls what stands on the link. -/
theorem commandsAnswerAndRecallNothing : Obligations.CommandsAnswerAndRecallNothing := by
  intro c s
  obtain ⟨t, h⟩ := exec_answers c s
  exact ⟨t, h, (exec_recallsNothing h).1, (exec_recallsNothing h).2⟩

end Sys2Proof.Machine
end

/-! ### Request rings (R121, R122) and the allocation of slots (R4) -/

section
namespace Sys2Proof.Machine

/-! #### Records of request rings -/

theorem RingLegal.empty (r : Ring) : RingLegal r RequestRing.empty where
  configured := ⟨fun _ => rfl, fun _ => rfl⟩
  config c hc := by cases hc
  unconfigured _ := rfl
  errored h := by cases h
  active h := by cases h
  adminKept _ h := by cases h

theorem RingLegal.created {r : Ring} {cfg : RingConfig} (h : RingConfigLegal r cfg) : RingLegal r (RequestRing.created cfg) where
  configured := by simp [RequestRing.created]
  config c hc := by
    obtain rfl := Option.some.inj hc
    have hs : 0 < cfg.size := by
      have := h.size
      simp only [requestSizes, List.mem_cons, List.not_mem_nil, or_false] at this
      omega
    exact ⟨h, hs, hs⟩
  unconfigured h := by cases h
  errored h := by cases h
  active _ := rfl
  adminKept _ h := by cases h

/-- A configured ring's indices may be moved within its size. -/
theorem RingLegal.moved {r : Ring} {q : RequestRing} (h : RingLegal r q) {p c : Nat} (hq : q.state ≠ .unconfigured)
    (hp : ∀ cfg, q.config = some cfg → p < cfg.size ∧ c < cfg.size) : RingLegal r { q with producer := p, consumer := c } where
  configured := h.configured
  config cfg hc := ⟨(h.config cfg hc).1, hp cfg hc⟩
  unconfigured hs := absurd hs hq
  errored := h.errored
  active := h.active
  adminKept := h.adminKept

theorem RingLegal.errored_of_active {r : Ring} {q : RequestRing} (h : RingLegal r q) (hq : q.state = .active) (why : FetchFailure) :
    RingLegal r { q with state := .errored, error := some why } where
  configured := by
    have hc := h.configured
    rw [hq] at hc
    simpa using hc
  config := h.config
  unconfigured hs := by cases hs
  errored _ he := by cases he
  active hs := by cases hs
  adminKept _ hs := by cases hs

theorem RingLegal.deleting {r : Ring} {q : RequestRing} (h : RingLegal r q) (hr : r ≠ 0) (hq : q.state ≠ .unconfigured) :
    RingLegal r { q with state := .deleting } where
  configured := by
    have hc := h.configured
    simp only [hq, iff_false] at hc
    simpa using hc
  config := h.config
  unconfigured hs := by cases hs
  errored hs := by cases hs
  active hs := by cases hs
  adminKept h0 := absurd h0 hr

theorem RingLegal.consume {r : Ring} {q : RequestRing} (h : RingLegal r q) : RingLegal r q.consume := by
  by_cases hq : q.state = .unconfigured
  · rw [h.unconfigured hq]
    exact .empty r
  · refine h.moved hq fun cfg hc => ?_
    obtain ⟨-, hp, -⟩ := h.config cfg hc
    rw [RequestRing.size_of_config hc]
    exact ⟨hp, by split <;> omega⟩

/-- Rings and fetch decide whether the rings are legal; a fetch that is over asks for nothing. -/
theorem RingsLegal.of_eq {s t : State} (h : RingsLegal s) (hr : t.rings = s.rings) (hp : t.rotPtr = s.rotPtr)
    (hg : t.grantCount = s.grantCount) (hf : t.fetch = s.fetch ∨ t.fetch = none) : RingsLegal t where
  rings r := by unfold State.ring; rw [hr]; exact h.rings r
  pointer := by rw [hp]; exact h.pointer
  grants := by rw [hg]; exact h.grants
  fetch f he := by
    rcases hf with e | e
    · unfold State.ring
      rw [hr]
      exact h.fetch f (e ▸ he)
    · rw [e] at he; cases he

theorem RingsLegal.setRing {s : State} (h : RingsLegal s) {r : Ring} {x : RequestRing} (hx : RingLegal r x)
    (hf : ∀ f, s.fetch = some f → f.ring = r → x.state = .active ∨ x.state = .deleting ∧ f.discard = true) :
    RingsLegal (s.setRing r x) where
  rings q := by
    rw [State.ring_setRing]
    split
    · rename_i e; exact e ▸ hx
    · exact h.rings q
  pointer := h.pointer
  grants := h.grants
  fetch f he := by
    rw [State.ring_setRing]
    split
    · rename_i e; exact hf f he e.symm
    · exact h.fetch f he

/-- A change of a ring that leaves its state asks nothing of the fetch in flight. -/
theorem RingsLegal.setRing_of_state {s : State} (h : RingsLegal s) {r : Ring} {x : RequestRing} (hx : RingLegal r x)
    (hs : x.state = (s.ring r).state) : RingsLegal (s.setRing r x) :=
  h.setRing hx fun f hf e => by rw [hs, ← e]; exact h.fetch f hf

theorem OnlyWork.ringsLegal {s t : State} (h : OnlyWork s t) (k : RingsLegal s) : RingsLegal t :=
  k.of_eq h.rings (by rw [h.1]) (by rw [h.1]) (.inl h.fetch)

theorem State.adminRingConfig_legal {s : State} (h : s.adminRegistersValid = true) : RingConfigLegal 0 s.adminRingConfig := by
  simp only [State.adminRegistersValid, Bool.and_eq_true] at h
  obtain ⟨⟨⟨hb, -⟩, hs⟩, -⟩ := h
  exact ⟨hb, List.contains_iff_mem.1 hs, fun _ => ⟨rfl, rfl, rfl, rfl⟩, fun h => absurd rfl h, 
    ⟨Nat.le_of_ble_eq_true rfl, Nat.le_of_ble_eq_true rfl⟩, Nat.le_of_ble_eq_true rfl, Nat.le_of_ble_eq_true rfl⟩

theorem RingsLegal.deleted {s : State} (h : RingsLegal s) {q : Ring} (hq : s.holdsNoSlot q = true) :
    RingsLegal (s.setRing q RequestRing.empty) := by
  refine h.setRing (.empty q) fun f hf e => ?_
  simp [State.holdsNoSlot, hf, e] at hq

theorem RingsLegal.fetchEnded {s : State} (h : RingsLegal s) : RingsLegal s.fetchEnded := h.of_eq rfl rfl rfl (.inr rfl)

theorem HostMove.ringsLegal {s t : State} (h : HostMove s t) (k : RingsLegal s) : RingsLegal t := by
  induction h with
  | trans _ _ h₁ h₂ => exact h₂ (h₁ k)
  | side _ hp _ => exact k.of_eq hp.rings hp.rotPtr hp.grantCount hp.fetch
  | free s st i _ =>
    have hp := PortKept.freeSlotFrom s st i
    exact k.of_eq hp.rings hp.rotPtr hp.grantCount hp.fetch
  | notice s c n => exact (OnlyWork.postNotice s c n).ringsLegal k
  | answerResult s i r => exact (OnlyWork.ite (.completeSlot s i r) (.refl s)).ringsLegal k
  | producer s r n h =>
    have hq : (s.ring r).state ≠ .unconfigured := by simpa [RequestRing.configured] using h.1
    refine k.setRing_of_state ((k.rings r).moved hq fun cfg hc => ?_) rfl
    exact ⟨RequestRing.size_of_config hc ▸ h.2, ((k.rings r).config cfg hc).2.2⟩
  | failed s f why hf hd =>
    have ha : (s.ring f.ring).state = .active := (k.fetch f hf).resolve_right (by simp [hd])
    exact k.fetchEnded.setRing ((k.rings f.ring).errored_of_active ha why) fun g hg => by cases hg
  | deleted s r h => exact k.deleted h.2
  | broughtUp s _ hv =>
    exact (k.setRing (.created (State.adminRingConfig_legal hv)) fun f _ _ => .inl rfl).of_eq rfl rfl rfl (.inl rfl)
  | cq s c x _ => exact k.of_eq rfl rfl rfl (.inl rfl)
  | request s c _ => exact k.of_eq rfl rfl rfl (.inl rfl)

theorem RingsLegal.of_reset {s t : State} (h : WasReset s t) : RingsLegal t where
  rings r := by rw [h.rings r]; exact .empty r
  pointer := by rw [h.idle.1]; decide
  grants := by rw [h.idle.2.1]; exact Nat.zero_le _
  fetch f hf := by rw [h.idle.2.2.1] at hf; cases hf

/-! #### Acceptance and grants -/

/-- A fetch in flight for a ring that goes DELETING is marked for discard (R116). -/
theorem RingsLegal.deleting {s : State} (h : RingsLegal s) {q : Ring} (hq : q ≠ 0) (hs : (s.ring q).state ≠ .unconfigured) :
    RingsLegal ((s.modRing q fun x => { x with state := .deleting }).markDiscard q) := by
  have hl : RingLegal q { s.ring q with state := .deleting } := (h.rings q).deleting hq hs
  have hdiscard : ∀ f, ((s.modRing q fun x => { x with state := .deleting }).markDiscard q).fetch = some f →
      ∃ g, s.fetch = some g ∧ f.ring = g.ring ∧ (f.discard = g.discard ∨ f.discard = true) ∧ (g.ring = q → f.discard = true) := by
    intro f hf
    unfold State.markDiscard at hf
    split at hf
    · rename_i g hg
      split at hf
      · obtain rfl := Option.some.inj hf
        exact ⟨g, hg, rfl, .inr rfl, fun _ => rfl⟩
      · exact ⟨f, hf, rfl, .inl rfl, fun e => absurd (Option.some.inj (hg.symm.trans hf) ▸ e) (by assumption)⟩
    · rename_i hg
      exact absurd (hg.symm.trans hf) (by simp)
  rw [State.markDiscard_eq] at hdiscard ⊢
  refine ⟨fun r => ?_, h.pointer, h.grants, fun f hf => ?_⟩
  · change RingLegal r ((s.setRing q _).ring r)
    rw [State.ring_setRing]
    split
    · rename_i e; exact e ▸ hl
    · exact h.rings r
  · obtain ⟨g, hg, e, hd, hall⟩ := hdiscard f hf
    change ((s.setRing q _).ring f.ring).state = _ ∨ ((s.setRing q _).ring f.ring).state = _ ∧ _
    rw [State.ring_setRing, e]
    split
    · rename_i eq
      exact .inr ⟨rfl, hall eq.symm⟩
    · rcases h.fetch g hg with ha | ⟨hs, hgd⟩
      · exact .inl ha
      · exact .inr ⟨hs, hd.elim (fun e => e.trans hgd) id⟩

theorem Acceptance.ringsLegal {own : Seg → Prop} {legal : Prop} {r : Ring} {i : SlotId} {s t : State}
    (h : Acceptance own legal r i s t) (k : RingsLegal s) : RingsLegal t := by
  induction h with
  | work h => exact h.onlyWork.ringsLegal k
  | trans _ _ h₁ h₂ => exact h₂ (h₁ k)
  | createRing s q cfg _ h => exact k.setRing (.created h.2.2.1) fun f _ _ => .inl rfl
  | deleting s q _ h => exact k.deleting h.1 h.2
  | deleted s q _ h => exact k.deleted h.2
  | deleteCq s c _ =>
    unfold State.deleteCq
    rw [State.withdrawWrite_eq]
    have hp := PortKept.discardPostings (s.setCq c CompletionRing.empty) (s.cq c).backlog
    exact k.of_eq hp.rings hp.rotPtr hp.grantCount hp.fetch
  | live | createCq | config | map | limits => exact k.of_eq rfl rfl rfl (.inl rfl)

theorem RingsLegal.accept {s : State} (h : RingsLegal s) (i : SlotId) (record : Record) : RingsLegal (s.accept i record) := by
  rcases s.accept_cases i record with e | ⟨r, -, -, ha⟩
  · rw [e]; exact h
  · exact ha.ringsLegal (h.of_eq rfl rfl rfl (.inl rfl))

/-- A grant's choice is an eligible ring, and keeps the rotation in range. -/
theorem State.chooseRing_eligible {s : State} {g : Grant} (h : s.chooseRing = some g) (k : RingsLegal s) :
    s.eligible g.ring = true ∧ g.rotPtr ≠ 0 ∧ g.grantCount ≤ 15 := by
  unfold State.chooseRing at h
  split at h
  · obtain rfl := Option.some.inj h
    exact ⟨‹_›, k.pointer, k.grants⟩
  · split at h
    · rename_i he
      obtain rfl := Option.some.inj h
      refine ⟨he.1, k.pointer, ?_⟩
      have hw := he.2
      unfold RequestRing.weight at hw
      split at hw
      · rename_i cfg hc
        obtain ⟨w, hw', -, hle⟩ := ((k.rings s.rotPtr).config cfg hc).1.weight k.pointer
        rw [hw', Option.getD_some] at hw
        exact hw.trans_le hle
      · exact absurd hw (Nat.not_lt_zero _)
    · obtain ⟨r, hr, rfl⟩ := Option.map_eq_some_iff.1 h
      refine ⟨List.find?_some hr, ?_, Nat.le_of_ble_eq_true rfl⟩
      have hmem := List.mem_of_find?_eq_some hr
      simp only [ringsAfter, List.mem_map, List.mem_range] at hmem
      obtain ⟨n, -, rfl⟩ := hmem
      simp only [ne_eq, Fin.ext_iff, Fin.val_ofNat]
      show ¬ ((s.rotPtr.val + n) % 7 + 1) % 8 = 0
      omega

theorem State.active_of_eligible {s : State} {r : Ring} (h : s.eligible r = true) : (s.ring r).state = .active := by
  simp only [State.eligible, Bool.and_eq_true, decide_eq_true_eq] at h
  exact h.1.1.1.2

theorem RingsLegal.grantFetch {s : State} (h : RingsLegal s) {g : Grant} (hg : s.chooseRing = some g) (i : SlotId) :
    RingsLegal (s.grantFetch g i) := by
  obtain ⟨he, hp, hc⟩ := s.chooseRing_eligible hg h
  have ha := State.active_of_eligible he
  refine ⟨h.rings, hp, hc, fun f hf => ?_⟩
  obtain rfl := Option.some.inj hf
  exact .inl ha

/-- A grant is none, or goes to the chosen ring and the lowest FREE slot, with no fetch in flight (R125). -/
theorem State.grantIf_cases (s : State) (granted : Bool) : s.grantIf granted = s ∨
    ∃ g i, s.fetch = none ∧ s.chooseRing = some g ∧ s.lowestFree = some i ∧ s.grantIf granted = s.grantFetch g i := by
  cases granted with
  | false => exact .inl rfl
  | true =>
    change s.nextGrant = s ∨ ∃ g i, s.fetch = none ∧ s.chooseRing = some g ∧ s.lowestFree = some i ∧ s.nextGrant = s.grantFetch g i
    unfold State.nextGrant
    split
    · rename_i g i hf hg hi
      exact .inr ⟨g, i, hf, hg, hi, rfl⟩
    · exact .inl rfl

theorem RingsLegal.grantIf {s : State} (h : RingsLegal s) (granted : Bool) : RingsLegal (s.grantIf granted) := by
  rcases s.grantIf_cases granted with e | ⟨g, i, -, hg, -, e⟩
  · rw [e]; exact h
  · rw [e]; exact h.grantFetch hg i

theorem RingsLegal.consumed {s : State} (h : RingsLegal s) (r : Ring) : RingsLegal (s.fetchEnded.modRing r RequestRing.consume) :=
  h.fetchEnded.setRing (h.rings r).consume fun f hf => by cases hf

theorem exec_keeps_ringsLegal (c : Instr) (s t : State) (hs : RingsLegal s) (h : exec c s = .next t) : RingsLegal t := by
  rcases instr_cases c with hc | hc | rfl | ⟨data, rfl⟩
  · exact (exec_work_onlyWork hc h).ringsLegal hs
  · rcases exec_host_moves hc h with hk | hk
    · exact hk.ringsLegal hs
    · exact .of_reset hk
  · exact Host.Outcome.next.inj h ▸ hs.grantIf true
  · rcases exec_fetchComplete_cases h with rfl | ⟨f, -, ⟨-, rfl⟩ | ⟨-, u, hu, hk⟩⟩
    · exact hs
    · exact ((HostMove.free _ .fetching _ nofun).ringsLegal hs.fetchEnded).grantIf _
    · have hu : RingsLegal u := hu ▸ (hs.consumed f.ring).grantIf _
      rcases hk with ⟨-, rfl⟩ | rfl
      · exact (hu.accept f.slot data.record).of_eq rfl rfl rfl (.inl rfl)
      · exact hu.of_eq rfl rfl rfl (.inl rfl)

/-- Settles O6: a ring's record changes by creation, deletion, an index write, a fetch's end or a bring-up; the fetch in flight for a
ring that goes DELETING is marked, and a ring that becomes UNCONFIGURED has none. -/
theorem stepKeepsRequestRingsLegal : Obligations.StepKeepsRequestRingsLegal :=
  fun _ _ hs h => step_keeps (P := RingsLegal) (fun _ _ h => h.of_eq rfl rfl rfl (.inl rfl)) exec_keeps_ringsLegal hs h

end Sys2Proof.Machine
end

/-! ### The allocation of slots (R4, R5) -/

section
namespace Sys2Proof.Machine

/-! #### Counting -/

theorem State.held_eq_card (s : State) (r : Ring) :
    s.held r = (Finset.univ.filter fun i : SlotId => (s.slot i).state ≠ .free ∧ (s.slot i).ring = some r).card := by
  rfl

theorem sum_rings (f : Ring → Nat) : ((List.finRange 8).map f).sum = ∑ r, f r := (Fin.sum_univ_def f).symm

theorem sum_rings_le_add {f g : Ring → Nat} (q : Ring) (v : Nat) (h : ∀ r, g r ≤ f r + if r = q then v else 0) :
    ((List.finRange 8).map g).sum ≤ ((List.finRange 8).map f).sum + v := by
  rw [sum_rings, sum_rings]
  calc ∑ r, g r ≤ ∑ r, (f r + if r = q then v else 0) := Finset.sum_le_sum fun r _ => h r
    _ = ∑ r, f r + v := by rw [Finset.sum_add_distrib, Finset.sum_ite_eq' Finset.univ q fun _ => v, if_pos (Finset.mem_univ q)]

theorem sum_rings_mono {f g : Ring → Nat} (h : ∀ r, g r ≤ f r) : ((List.finRange 8).map g).sum ≤ ((List.finRange 8).map f).sum :=
  sum_rings_le_add 0 0 fun r => by simpa using h r

theorem Winds.ne_free {s t : State} (h : Winds s t) {j : SlotId} (hj : (t.slot j).state ≠ .free) : (s.slot j).state ≠ .free := by
  intro hf
  have hr := (h j).1
  rw [hf] at hr
  exact hj (SlotState.rank_eq_zero.1 (Nat.le_zero.1 hr))

/-- What winds down holds no more slots. -/
theorem Winds.held_le {s t : State} (h : Winds s t) (r : Ring) : t.held r ≤ s.held r := by
  rw [State.held_eq_card, State.held_eq_card]
  refine Finset.card_le_card (Finset.monotone_filter_right _ ?_)
  intro j _ ⟨hs, hr⟩
  exact ⟨h.ne_free hs, (h j).2 hs ▸ hr⟩

/-! #### Steps that hold no more -/

theorem RequestRing.cap_unconfigured {q : RequestRing} (h : q.state = .unconfigured) : q.cap = 0 := by
  simp [RequestRing.cap, RequestRing.configured, h]

theorem RequestRing.reserve_unconfigured {q : RequestRing} (h : q.state = .unconfigured) : q.reserve = 0 := by
  simp [RequestRing.reserve, RequestRing.configured, h]

theorem RequestRing.cap_congr {q x : RequestRing} (hc : x.config = q.config) (hs : x.state = .unconfigured ↔ q.state = .unconfigured) :
    x.cap = q.cap := by
  have hq : x.configured = q.configured := by simp [RequestRing.configured, hs]
  rw [RequestRing.cap, RequestRing.cap, hq, hc]

theorem RequestRing.reserve_congr {q x : RequestRing} (hc : x.config = q.config)
    (hs : x.state = .unconfigured ↔ q.state = .unconfigured) : x.reserve = q.reserve := by
  have hq : x.configured = q.configured := by simp [RequestRing.configured, hs]
  rw [RequestRing.reserve, RequestRing.reserve, hq, hc]

/-- Slots have wound down, reserves have not fallen, and their sum still leaves room. -/
theorem AllocationLegal.of_winds {s t : State} (h : AllocationLegal s) (hw : Winds s t) (hc : ∀ r, t.held r ≤ (t.ring r).cap)
    (hr : ∀ r, t.held r - (t.ring r).reserve ≤ s.beyond r) (hp : s.sharedInUse + t.reserveSum ≤ 64)
    (ha : (t.ring 0).state = .unconfigured → ∀ r, (t.ring r).state = .unconfigured) (hk : (t.ring 0).state ≠ .deleting) :
    AllocationLegal t where
  owned i hi := by rw [(hw i).2 hi]; exact h.owned i (hw.ne_free hi)
  withinCap := hc
  withinPool := (Nat.add_le_add_right (sum_rings_mono hr) _).trans hp
  adminFirst := ha
  adminKept := hk

theorem AllocationLegal.of_rings {s t : State} (h : AllocationLegal s) (hw : Winds s t) (hr : t.rings = s.rings) : AllocationLegal t := by
  have hring (r : Ring) : t.ring r = s.ring r := by unfold State.ring; rw [hr]
  have hsum : t.reserveSum = s.reserveSum := by unfold State.reserveSum; simp only [hring]
  refine h.of_winds hw (fun r => ?_) (fun r => ?_) (hsum ▸ h.withinPool) ?_ (hring 0 ▸ h.adminKept)
  · rw [hring]; exact (hw.held_le r).trans (h.withinCap r)
  · rw [hring]; exact Nat.sub_le_sub_right (hw.held_le r) _
  · simp only [hring]; exact h.adminFirst

theorem State.held_setRing (s : State) (q : Ring) (x : RequestRing) (r : Ring) : (s.setRing q x).held r = s.held r := rfl

/-- A change of a configured ring that leaves its configuration. -/
theorem AllocationLegal.setRing_of_config {s : State} (h : AllocationLegal s) {q : Ring} {x : RequestRing}
    (hc : x.config = (s.ring q).config) (hs : x.state = .unconfigured ↔ (s.ring q).state = .unconfigured)
    (hk : q = 0 → x.state ≠ .deleting) : AllocationLegal (s.setRing q x) := by
  have hcap (r : Ring) : ((s.setRing q x).ring r).cap = (s.ring r).cap := by
    rw [State.ring_setRing]
    split
    · rename_i e; subst e; exact RequestRing.cap_congr hc hs
    · rfl
  have hres (r : Ring) : ((s.setRing q x).ring r).reserve = (s.ring r).reserve := by
    rw [State.ring_setRing]
    split
    · rename_i e; subst e; exact RequestRing.reserve_congr hc hs
    · rfl
  have hun (r : Ring) : ((s.setRing q x).ring r).state = .unconfigured ↔ (s.ring r).state = .unconfigured := by
    rw [State.ring_setRing]
    split
    · rename_i e; subst e; exact hs
    · rfl
  refine h.of_winds (.of_slots rfl) (fun r => ?_) (fun r => ?_) ?_ (fun h0 r => ?_) ?_
  · rw [hcap]; exact h.withinCap r
  · rw [hres]; exact le_rfl
  · rw [State.reserveSum, funext hres]; exact h.withinPool
  · exact (hun r).2 (h.adminFirst ((hun 0).1 h0) r)
  · rw [State.ring_setRing]
    split
    · exact hk ‹_›
    · exact h.adminKept

theorem State.held_eq_zero {s : State} (h : AllocationLegal s) {r : Ring} (hr : (s.ring r).state = .unconfigured) : s.held r = 0 :=
  Nat.le_zero.1 (RequestRing.cap_unconfigured hr ▸ h.withinCap r)

theorem State.held_eq_zero_of_holdsNoSlot {s : State} {r : Ring} (h : s.holdsNoSlot r = true) : s.held r = 0 := by
  simp only [State.holdsNoSlot, Bool.and_eq_true, beq_iff_eq] at h
  exact h.1

/-- A ring that holds nothing becomes UNCONFIGURED. -/
theorem AllocationLegal.deleted {s : State} (h : AllocationLegal s) {q : Ring} (hq : s.holdsNoSlot q = true) (h0 : q ≠ 0) :
    AllocationLegal (s.setRing q RequestRing.empty) := by
  have hheld := State.held_eq_zero_of_holdsNoSlot hq
  have hres (r : Ring) : ((s.setRing q RequestRing.empty).ring r).reserve ≤ (s.ring r).reserve := by
    rw [State.ring_setRing]
    split
    · exact Nat.zero_le _
    · exact le_rfl
  refine h.of_winds (.of_slots rfl) (fun r => ?_) (fun r => ?_) ?_ (fun hun r => ?_) ?_
  · rw [State.held_setRing, State.ring_setRing]
    split
    · rename_i e; rw [← e, hheld]; exact Nat.zero_le _
    · exact h.withinCap r
  · rw [State.held_setRing, State.ring_setRing]
    split
    · rename_i e; rw [← e, hheld, Nat.zero_sub]; exact Nat.zero_le _
    · exact le_rfl
  · exact (Nat.add_le_add_left (sum_rings_mono hres) _).trans h.withinPool
  · rw [State.ring_setRing_of_ne _ _ _ _ h0] at hun
    rw [State.ring_setRing]
    split
    · rfl
    · exact h.adminFirst hun r
  · rw [State.ring_setRing_of_ne _ _ _ _ h0]; exact h.adminKept

/-- An UNCONFIGURED ring is created, its reserve in the room that the others leave. -/
theorem AllocationLegal.created {s : State} (h : AllocationLegal s) {q : Ring} {cfg : RingConfig}
    (hq : (s.ring q).state = .unconfigured) (hroom : s.reserveSum + cfg.reserve + s.sharedInUse ≤ 64)
    (h0 : q = 0 ∨ (s.ring 0).state ≠ .unconfigured) : AllocationLegal (s.setRing q (RequestRing.created cfg)) := by
  have hheld := State.held_eq_zero h hq
  have hadmin : ((s.setRing q (RequestRing.created cfg)).ring 0).state ≠ .unconfigured ∧
      ((s.setRing q (RequestRing.created cfg)).ring 0).state ≠ .deleting := by
    rw [State.ring_setRing]
    split
    · exact ⟨nofun, nofun⟩
    · exact ⟨h0.resolve_left (by assumption), h.adminKept⟩
  refine h.of_winds (.of_slots rfl) (fun r => ?_) (fun r => ?_) ?_ (fun hun => absurd hun hadmin.1) hadmin.2
  · rw [State.held_setRing, State.ring_setRing]
    split
    · rename_i e; rw [← e, hheld]; exact Nat.zero_le _
    · exact h.withinCap r
  · rw [State.held_setRing, State.ring_setRing]
    split
    · rename_i e; rw [← e, hheld, Nat.zero_sub]; exact Nat.zero_le _
    · exact le_rfl
  · have hsum : (s.setRing q (RequestRing.created cfg)).reserveSum ≤ s.reserveSum + cfg.reserve := by
      refine sum_rings_le_add q _ fun r => ?_
      rw [State.ring_setRing]
      split
      · rename_i e
        rw [if_pos e.symm]
        exact Nat.le_add_left _ _
      · exact Nat.le_add_right _ _
    omega

/-- At bring-up no ring is configured, so none holds a slot (R162). -/
theorem AllocationLegal.broughtUp {s : State} (h : AllocationLegal s) (hb : s.beforeBringUp = true) :
    AllocationLegal (s.setRing 0 (RequestRing.created s.adminRingConfig)) := by
  have h0 : (s.ring 0).state = .unconfigured := by simpa [State.beforeBringUp] using hb
  have hun := h.adminFirst h0
  have hshared : s.sharedInUse = 0 := by
    rw [State.sharedInUse, sum_rings]
    exact Finset.sum_eq_zero fun r _ => by rw [State.beyond, State.held_eq_zero h (hun r), Nat.zero_sub]
  have hres : s.reserveSum = 0 := by
    rw [State.reserveSum, sum_rings]
    exact Finset.sum_eq_zero fun r _ => RequestRing.reserve_unconfigured (hun r)
  refine h.created h0 ?_ (.inl rfl)
  rw [hres, hshared]
  exact Nat.le_of_ble_eq_true rfl

theorem HostMove.allocationLegal {s t : State} (h : HostMove s t) (k : RingsLegal s) (a : AllocationLegal s) : AllocationLegal t := by
  induction h with
  | trans h₁ _ ih₁ ih₂ => exact ih₂ (h₁.ringsLegal k) (ih₁ k a)
  | side h hp _ => exact a.of_rings h.winds hp.rings
  | free s st i _ => exact a.of_rings (.freeSlotFrom s st i) (PortKept.freeSlotFrom s st i).rings
  | notice s c n => exact a.of_rings (.postNotice s c n) (OnlyWork.postNotice s c n).rings
  | answerResult s i r => exact a.of_rings (.answerResult s i r) (OnlyWork.ite (.completeSlot s i r) (.refl s)).rings
  | producer s r n h => exact a.setRing_of_config rfl Iff.rfl fun e => e ▸ a.adminKept
  | failed s f why hf hd =>
    have ha : (s.ring f.ring).state = .active := (k.fetch f hf).resolve_right (by simp [hd])
    have hended : AllocationLegal s.fetchEnded := a.of_rings (.of_slots rfl) rfl
    refine hended.setRing_of_config rfl ?_ fun _ => nofun
    rw [show (s.fetchEnded.ring f.ring).state = .active from ha]
    simp
  | deleted s r h => exact a.deleted h.2 fun e => a.adminKept (e ▸ h.1)
  | broughtUp s hb _ => exact (a.broughtUp hb).of_rings (.of_slots rfl) rfl
  | cq s c x _ => exact a.of_rings (.of_slots rfl) rfl
  | request s c _ => exact a.of_rings (.of_slots rfl) rfl

theorem AllocationLegal.of_reset {s t : State} (h : WasReset s t) : AllocationLegal t := by
  have hun (r : Ring) : (t.ring r).state = .unconfigured := by rw [h.rings r]; rfl
  have hheld (r : Ring) : t.held r = 0 := by
    rw [State.held_eq_card, Finset.card_eq_zero, Finset.filter_eq_empty_iff]
    intro i _ hi
    exact hi.1 (by rw [h.slots i]; rfl)
  refine ⟨fun i hi => absurd (by rw [h.slots i]; rfl) hi, fun r => hheld r ▸ Nat.zero_le _, ?_, fun _ => hun, by rw [hun]; nofun⟩
  have hshared : t.sharedInUse = 0 := by
    rw [State.sharedInUse, sum_rings]
    exact Finset.sum_eq_zero fun r _ => by rw [State.beyond, hheld r, Nat.zero_sub]
  have hres : t.reserveSum = 0 := by
    rw [State.reserveSum, sum_rings]
    exact Finset.sum_eq_zero fun r _ => RequestRing.reserve_unconfigured (hun r)
  rw [hshared, hres]
  exact Nat.zero_le _

/-! #### Acceptance and grants -/

/-- Ring 0 stays configured through an acceptance, and the allocation within its bounds. -/
theorem Acceptance.allocationLegal {own : Seg → Prop} {legal : Prop} {r : Ring} {i : SlotId} {s t : State}
    (h : Acceptance own legal r i s t) (a : AllocationLegal s) (h0 : (s.ring 0).state ≠ .unconfigured) :
    AllocationLegal t ∧ (t.ring 0).state ≠ .unconfigured := by
  induction h with
  | trans _ _ h₁ h₂ =>
    obtain ⟨ha, h0⟩ := h₁ a h0
    exact h₂ ha h0
  | @work s t h =>
    have hr := h.onlyWork.rings
    exact ⟨a.of_rings h.winds hr, by unfold State.ring; rw [hr]; exact h0⟩
  | live s x h hx hr _ =>
    exact ⟨a.of_rings (.setSlot (by rw [h, hx]; decide) fun _ => hr) rfl, h0⟩
  | createRing s q cfg _ h =>
    exact ⟨a.created h.2.1 h.2.2.2 (.inr h0), by rw [State.ring_setRing_of_ne _ _ _ _ h.1]; exact h0⟩
  | deleting s q _ h =>
    have hset : AllocationLegal (s.setRing q { s.ring q with state := .deleting }) :=
      a.setRing_of_config rfl (by simp [h.2]) fun e => absurd e h.1
    rw [State.markDiscard_eq]
    exact ⟨hset.of_rings (.of_slots rfl) rfl, (congrArg RequestRing.state (State.ring_setRing_of_ne s _ _ _ h.1)).trans_ne h0⟩
  | deleted s q _ h => exact ⟨a.deleted h.2 h.1, by rw [State.ring_setRing_of_ne _ _ _ _ h.1]; exact h0⟩
  | deleteCq s c _ =>
    have hp := PortKept.discardPostings (s.setCq c CompletionRing.empty) (s.cq c).backlog
    have hr : (s.deleteCq c).rings = s.rings := by
      unfold State.deleteCq
      rw [State.withdrawWrite_eq]
      exact hp.rings
    exact ⟨a.of_rings (.deleteCq s c) hr, by unfold State.ring; rw [hr]; exact h0⟩
  | createCq | config | map | limits => exact ⟨a.of_rings (.of_slots rfl) rfl, h0⟩

/-- A FETCHING slot's ring is configured, and so is ring 0. -/
theorem AllocationLegal.admin_configured {s : State} (h : AllocationLegal s) {i : SlotId} (hi : (s.slot i).state ≠ .free) :
    (s.ring 0).state ≠ .unconfigured := by
  intro h0
  obtain ⟨r, hr⟩ := Option.ne_none_iff_exists'.1 (h.owned i hi)
  have hheld := State.held_eq_zero h (h.adminFirst h0 r)
  rw [State.held_eq_card, Finset.card_eq_zero, Finset.filter_eq_empty_iff] at hheld
  exact hheld (Finset.mem_univ i) ⟨hi, hr⟩

theorem AllocationLegal.accept {s : State} (h : AllocationLegal s) (i : SlotId) (record : Record) :
    AllocationLegal (s.accept i record) := by
  rcases s.accept_cases i record with e | ⟨r, hs, -, ha⟩
  · rw [e]; exact h
  · exact (ha.allocationLegal (h.of_rings (.arrive s i r record) rfl) (h.admin_configured (i := i) (by rw [hs]; nofun))).1

/-- What a ring with an allowance has room for: its cap, and its reserve or the shared pool (R4). -/
theorem State.hasAllowance_iff (s : State) (r : Ring) : s.hasAllowance r = true ↔
    ((s.ring r).configured = true ∧ s.held r < (s.ring r).cap) ∧
      (s.held r < (s.ring r).reserve ∨ s.sharedInUse < 64 - s.reserveSum) := by
  simp only [State.hasAllowance, Bool.and_eq_true, Bool.or_eq_true, decide_eq_true_eq]
  exact Iff.rfl

theorem State.hasAllowance_of_eligible {s : State} {r : Ring} (h : s.eligible r = true) : s.hasAllowance r = true := by
  simp only [State.eligible, Bool.and_eq_true] at h
  exact h.1.2

/-- A grant adds one slot to what its ring holds. -/
theorem State.held_grantFetch_le (s : State) (g : Grant) (i : SlotId) (r : Ring) :
    (s.grantFetch g i).held r ≤ s.held r + if r = g.ring then 1 else 0 := by
  rw [State.held_eq_card, State.held_eq_card]
  split
  · refine (Finset.card_le_card (t := insert i _) fun j hj => ?_).trans (Finset.card_insert_le i _)
    by_cases hji : j = i
    · exact Finset.mem_insert.2 (.inl hji)
    · refine Finset.mem_insert_of_mem ?_
      rw [Finset.mem_filter] at hj ⊢
      rwa [show (s.grantFetch g i).slot j = s.slot j from State.slot_setSlot_of_ne _ _ _ _ (Ne.symm hji)] at hj
  · rename_i hr
    refine Finset.card_le_card (Finset.monotone_filter_right _ ?_)
    intro j _ ⟨hs, hj⟩
    have hji : i ≠ j := by
      rintro rfl
      rw [show (s.grantFetch g i).slot i = _ from State.slot_setSlot_self _ _ _] at hj
      exact hr (Option.some.inj hj).symm
    rw [show (s.grantFetch g i).slot j = s.slot j from State.slot_setSlot_of_ne _ _ _ _ hji] at hs hj
    exact ⟨hs, hj⟩

theorem AllocationLegal.grantFetch {s : State} (h : AllocationLegal s) {g : Grant} (hg : s.hasAllowance g.ring = true) (i : SlotId) :
    AllocationLegal (s.grantFetch g i) := by
  obtain ⟨⟨-, hcap⟩, hroom⟩ := (s.hasAllowance_iff g.ring).1 hg
  have hheld := s.held_grantFetch_le g i
  refine ⟨fun j hj => ?_, fun r => ?_, ?_, h.adminFirst, h.adminKept⟩
  · by_cases hij : i = j
    · subst hij
      rw [show (s.grantFetch g i).slot i = _ from State.slot_setSlot_self _ _ _]
      nofun
    · rw [show (s.grantFetch g i).slot j = s.slot j from State.slot_setSlot_of_ne _ _ _ _ hij] at hj ⊢
      exact h.owned j hj
  · refine (hheld r).trans ?_
    split
    · rename_i e; rw [e]; exact hcap
    · exact h.withinCap r
  · have hpool := h.withinPool
    change (s.grantFetch g i).sharedInUse + s.reserveSum ≤ 64
    rcases hroom with hres | hpool'
    · have hmono : (s.grantFetch g i).sharedInUse ≤ s.sharedInUse := by
        refine sum_rings_mono fun r => ?_
        have hr := hheld r
        change (s.grantFetch g i).held r - (s.ring r).reserve ≤ s.held r - (s.ring r).reserve
        split at hr
        · rename_i e; subst e; omega
        · omega
      omega
    · have hadd : (s.grantFetch g i).sharedInUse ≤ s.sharedInUse + 1 := by
        refine sum_rings_le_add g.ring 1 fun r => ?_
        have hr := hheld r
        change (s.grantFetch g i).held r - (s.ring r).reserve ≤ s.held r - (s.ring r).reserve + _
        omega
      omega

theorem AllocationLegal.grantIf {s : State} (h : AllocationLegal s) (k : RingsLegal s) (granted : Bool) :
    AllocationLegal (s.grantIf granted) := by
  rcases s.grantIf_cases granted with e | ⟨g, i, -, hg, -, e⟩
  · rw [e]; exact h
  · rw [e]; exact h.grantFetch (State.hasAllowance_of_eligible (s.chooseRing_eligible hg k).1) i

theorem exec_keeps_allocationLegal (c : Instr) (s t : State) (k : RingsLegal s) (hs : AllocationLegal s) (h : exec c s = .next t) :
    AllocationLegal t := by
  rcases instr_cases c with hc | hc | rfl | ⟨data, rfl⟩
  · rcases exec_work_cases (legal := False) hc h False.elim with rfl | ⟨u, hu, rfl⟩
    · exact hs
    · exact (hs.of_rings hu.winds hu.onlyWork.rings).of_rings (.of_slots rfl) rfl
  · rcases exec_host_moves hc h with hk | hk
    · exact hk.allocationLegal k hs
    · exact .of_reset hk
  · exact Host.Outcome.next.inj h ▸ hs.grantIf k true
  · have hended : AllocationLegal s.fetchEnded := hs.of_rings (.of_slots rfl) rfl
    rcases exec_fetchComplete_cases h with rfl | ⟨f, -, ⟨-, rfl⟩ | ⟨-, u, hu, hk⟩⟩
    · exact hs
    · exact ((HostMove.free _ .fetching _ nofun).allocationLegal k.fetchEnded hended).grantIf
        ((HostMove.free _ .fetching _ nofun).ringsLegal k.fetchEnded) _
    · have hcons : AllocationLegal (s.fetchEnded.modRing f.ring RequestRing.consume) :=
        hended.setRing_of_config rfl Iff.rfl fun e => e ▸ hs.adminKept
      have hu : AllocationLegal u := hu ▸ hcons.grantIf (k.consumed f.ring) _
      rcases hk with ⟨-, rfl⟩ | rfl
      · exact (hu.accept f.slot data.record).of_rings (.of_slots rfl) rfl
      · exact hu.of_rings (.of_slots rfl) rfl

/-- Settles O8: slots wind down except by a grant, which goes to a ring with an allowance; reserves rise where RING_CREATE's last
check or the bring-up of the first ring leaves room. -/
theorem stepKeepsAllocationWithinBounds : Obligations.StepKeepsAllocationWithinBounds := by
  intro s t k hs h
  have hboth := step_keeps (P := fun s => RingsLegal s ∧ AllocationLegal s)
    (fun s l h => ⟨h.1.of_eq rfl rfl rfl (.inl rfl), h.2.of_rings (.of_slots rfl) rfl⟩)
    (fun c s t hs h => ⟨exec_keeps_ringsLegal c s t hs.1 h, exec_keeps_allocationLegal c s t hs.1 hs.2 h⟩) ⟨k, hs⟩ h
  exact hboth.2

/-! #### A FREE slot for every allowance -/

/-- With every slot taken, the rings hold 64 slots between them. -/
theorem AllocationLegal.sum_held {s : State} (h : AllocationLegal s) (hfull : ∀ i, (s.slot i).state ≠ .free) :
    ∑ r, s.held r = 64 := by
  have hring (i : SlotId) : ∃ r, (s.slot i).ring = some r := Option.ne_none_iff_exists'.1 (h.owned i (hfull i))
  choose ring hring using hring
  calc ∑ r, s.held r = ∑ r, (Finset.univ.filter fun i : SlotId => ring i = r).card := by
        refine Finset.sum_congr rfl fun r _ => ?_
        rw [State.held_eq_card]
        congr 1
        ext i
        simp [hfull i, hring i]
    _ = (Finset.univ : Finset SlotId).card := (Finset.card_eq_sum_card_fiberwise fun i _ => Finset.mem_coe.2 (Finset.mem_univ _)).symm
    _ = 64 := by simp

/-- Settles O12: rings that hold all 64 slots would hold them within reserves and shared pool, and one with an allowance leaves some
of that unused. -/
theorem allowanceFindsFreeSlot : Obligations.AllowanceFindsFreeSlot := by
  intro s r h hr
  by_contra hnone
  have hfull (i : SlotId) : (s.slot i).state ≠ .free := by
    intro hi
    have hsome : s.lowestFree.isSome = true := List.find?_isSome.2 ⟨i, List.mem_finRange i, by simpa using hi⟩
    exact hnone (Option.isSome_iff_exists.1 hsome)
  obtain ⟨-, hroom⟩ := (s.hasAllowance_iff r).1 hr
  have hsum := h.sum_held hfull
  have hpool := h.withinPool
  have hsplit : ∑ q, ((s.ring q).reserve + s.beyond q) = s.reserveSum + s.sharedInUse := by
    rw [Finset.sum_add_distrib, State.reserveSum, State.sharedInUse, sum_rings, sum_rings]
  have hle (q : Ring) : s.held q ≤ (s.ring q).reserve + s.beyond q := by unfold State.beyond; omega
  have hall : ∑ q, s.held q ≤ ∑ q, ((s.ring q).reserve + s.beyond q) := Finset.sum_le_sum fun q _ => hle q
  rcases hroom with hres | hshared
  · have hlt : ∑ q, s.held q < ∑ q, ((s.ring q).reserve + s.beyond q) :=
      Finset.sum_lt_sum (fun q _ => hle q) ⟨r, Finset.mem_univ r, by omega⟩
    omega
  · omega

end Sys2Proof.Machine
end

/-! ### Completion rings and the waiting record write (R131, R133, R135) -/

section
namespace Sys2Proof.Machine

/-! #### Records of completion rings -/

theorem CqLegal.empty : CqLegal CompletionRing.empty where
  configured := ⟨fun _ => rfl, fun _ => rfl⟩
  config c hc := by cases hc
  unconfigured _ := rfl
  backlog h := absurd rfl h
  notices := ⟨rfl, Nat.zero_le _⟩
  message _ := ⟨rfl, rfl, rfl⟩
  timer h := absurd rfl h

theorem CqLegal.created {cfg : CqConfig} (hb : aligned64 cfg.base = true) (hs : cfg.size ∈ completionSizes) (hc : 1 ≤ cfg.count)
    (hc' : cfg.count ≤ 255) (hd : cfg.delay ≤ 65535) : CqLegal (CompletionRing.created cfg) where
  configured := by simp [CompletionRing.created]
  config c he := by
    obtain rfl := Option.some.inj he
    have hpos : 0 < cfg.size := by
      simp only [completionSizes, List.mem_cons, List.not_mem_nil, or_false] at hs
      omega
    exact ⟨hb, hs, hc, hc', hd, hpos, hpos, Nat.zero_le _, Nat.mod_eq_of_lt hpos⟩
  unconfigured h := by cases h
  backlog h := absurd rfl h
  notices := ⟨rfl, Nat.zero_le _⟩
  message h := absurd rfl h
  timer h := absurd rfl h

/-- Record `x` is `q` with postings joined at the tail of its backlog, notices counted or marked lost. -/
structure CompletionRing.Extends (q x : CompletionRing) : Prop where
  legal : CqLegal q → CqLegal x
  state : x.state = q.state
  config : x.config = q.config
  producer : x.producer = q.producer
  unreleased : x.unreleased = q.unreleased
  backlog : q.backlog <+: x.backlog

theorem CompletionRing.Extends.refl (q : CompletionRing) : q.Extends q := ⟨id, rfl, rfl, rfl, rfl, List.prefix_rfl⟩

theorem CompletionRing.Extends.trans {q x y : CompletionRing} (h : q.Extends x) (k : x.Extends y) : q.Extends y :=
  ⟨k.legal ∘ h.legal, k.state.trans h.state, k.config.trans h.config, k.producer.trans h.producer, k.unreleased.trans h.unreleased,
    h.backlog.trans k.backlog⟩

theorem noticesIn_append (l m : List Posting) : noticesIn (l ++ m) = noticesIn l + noticesIn m := by
  simp [noticesIn]

/-- A slot joins an ACTIVE ring's backlog (R23). -/
theorem CompletionRing.Extends.post {q : CompletionRing} (hs : q.state = .active) (i : SlotId) :
    q.Extends { q with backlog := q.backlog ++ [.slot i] } := by
  refine ⟨fun h => h.of_active hs rfl rfl rfl rfl rfl ?_ h.timer, rfl, rfl, rfl, rfl, List.prefix_append _ _⟩
  rw [noticesIn_append]
  exact h.notices

/-- A notice joins an ACTIVE ring's backlog where fewer than 8 wait (R135). -/
theorem CompletionRing.Extends.notice {q : CompletionRing} (hs : q.state = .active) (hn : q.noticesWaiting < 8) (n : Notice) :
    q.Extends { q with backlog := q.backlog ++ [.notice n], noticesWaiting := q.noticesWaiting + 1 } := by
  refine ⟨fun h => h.of_active hs rfl rfl rfl rfl rfl ?_ h.timer, rfl, rfl, rfl, rfl, List.prefix_append _ _⟩
  rw [noticesIn_append]
  exact ⟨congrArg (· + 1) h.notices.1, hn⟩

theorem CompletionRing.Extends.lost {q : CompletionRing} (hs : q.state = .active) : q.Extends { q with noticesLost := true } :=
  ⟨fun h => h.of_active hs rfl rfl rfl rfl rfl h.notices h.timer, rfl, rfl, rfl, rfl, List.prefix_rfl⟩

/-- From `s` to `t` postings have joined the completion rings' backlogs. -/
def CqsExtend (s t : State) : Prop := ∀ c, (s.cq c).Extends (t.cq c)

theorem CqsExtend.of_eq {s t : State} (h : t.cqs = s.cqs) : CqsExtend s t := by
  intro c
  unfold State.cq
  rw [h]
  exact .refl _

theorem CqsExtend.trans {s t u : State} (h : CqsExtend s t) (k : CqsExtend t u) : CqsExtend s u := fun c => (h c).trans (k c)

theorem CqsExtend.setCq {s : State} {c : Cq} {x : CompletionRing} (h : (s.cq c).Extends x) : CqsExtend s (s.setCq c x) := by
  intro d
  rw [State.cq_setCq]
  split
  · rename_i e; exact e ▸ h
  · exact .refl _

theorem CqsExtend.postNotice (s : State) (c : Cq) (n : Notice) : CqsExtend s (s.postNotice c n) := by
  unfold State.postNotice
  split
  · rename_i hs
    split
    · exact .setCq (.notice hs (by assumption) n)
    · exact .setCq (.lost hs)
  · exact .of_eq rfl

theorem CqsExtend.postSlot (s : State) (i : SlotId) : CqsExtend s (s.postSlot i) := by
  unfold State.postSlot
  split
  · exact .of_eq rfl
  · split
    · exact .setCq (.post (by assumption) i)
    · exact .of_eq rfl

theorem CqsExtend.completeSlot (s : State) (i : SlotId) (r : Result) : CqsExtend s (s.completeSlot i r) := by
  unfold State.completeSlot
  split
  · exact .trans (t := s.modSlot i _) (.of_eq rfl) (.postSlot _ i)
  · exact .of_eq rfl

theorem CqsExtend.answerResult (s : State) (i : SlotId) (r : Result) : CqsExtend s (s.answerResult i r) := by
  unfold State.answerResult
  split
  · exact .completeSlot s i r
  · exact .of_eq rfl

theorem CqsExtend.checkDone (s : State) (i : SlotId) : CqsExtend s (s.checkDone i) := by
  unfold State.checkDone
  split
  · exact .of_eq rfl
  · split
    · exact .completeSlot _ _ _
    · exact .of_eq rfl

theorem Work.cqsExtend {own : Seg → Prop} {who : SlotId → Prop} {legal : Prop} {s t : State} (h : Work own who legal s t) :
    CqsExtend s t :=
  h.closed (R := CqsExtend) (fun _ _ _ => .trans) (fun _ => .of_eq rfl) (fun _ _ _ _ => .of_eq rfl) (fun _ _ _ => .of_eq rfl)
    (fun _ _ _ _ _ => .of_eq rfl) (fun _ _ _ _ => .of_eq rfl) .postNotice (fun s i r _ => .answerResult s i r) .checkDone

theorem CqsExtend.cqsLegal {s t : State} (h : CqsExtend s t) (k : CqsLegal s) : CqsLegal t := fun c => (h c).legal (k c)

theorem CqsLegal.setCq {s : State} (h : CqsLegal s) {c : Cq} {x : CompletionRing} (hx : CqLegal x) : CqsLegal (s.setCq c x) := by
  intro d
  rw [State.cq_setCq]
  split
  · exact hx
  · exact h d

theorem CqsLegal.of_reset {s t : State} (h : WasReset s t) : CqsLegal t := fun c => by rw [h.cqs c]; exact .empty

theorem State.adminCqConfig_legal {s : State} (h : s.adminRegistersValid = true) :
    CqLegal (CompletionRing.created s.adminCqConfig) := by
  simp only [State.adminRegistersValid, Bool.and_eq_true] at h
  obtain ⟨⟨⟨-, hb⟩, -⟩, hs⟩ := h
  exact .created hb (List.contains_iff_mem.1 hs) (Nat.le_of_ble_eq_true rfl) (Nat.le_of_ble_eq_true rfl) (Nat.le_of_ble_eq_true rfl)

theorem HostMove.cqsLegal {s t : State} (h : HostMove s t) (k : CqsLegal s) : CqsLegal t := by
  induction h with
  | trans _ _ h₁ h₂ => exact h₂ (h₁ k)
  | side _ hp _ => exact (CqsExtend.of_eq hp.cqs).cqsLegal k
  | free s st i _ => exact (CqsExtend.of_eq (PortKept.freeSlotFrom s st i).cqs).cqsLegal k
  | notice s c n => exact (CqsExtend.postNotice s c n).cqsLegal k
  | answerResult s i r => exact (CqsExtend.answerResult s i r).cqsLegal k
  | broughtUp s _ hv => exact CqsLegal.setCq (s := s.setRing 0 _) k (State.adminCqConfig_legal hv)
  | cq s c x h => exact k.setCq (h.legal (k c))
  | producer | failed | deleted | request => exact (CqsExtend.of_eq rfl).cqsLegal k

/-- A CQ_DELETE empties its ring's record; the freed slots touch no other (R149). -/
theorem State.cqs_deleteCq (s : State) (c : Cq) : (s.deleteCq c).cqs = (s.setCq c CompletionRing.empty).cqs := by
  unfold State.deleteCq
  rw [State.withdrawWrite_eq]
  exact (PortKept.discardPostings (s.setCq c CompletionRing.empty) (s.cq c).backlog).cqs

theorem State.cq_deleteCq (s : State) (c d : Cq) : (s.deleteCq c).cq d = (s.setCq c CompletionRing.empty).cq d := by
  unfold State.cq
  rw [State.cqs_deleteCq]

theorem Acceptance.cqsLegal {own : Seg → Prop} {legal : Prop} {r : Ring} {i : SlotId} {s t : State}
    (h : Acceptance own legal r i s t) (k : CqsLegal s) : CqsLegal t := by
  induction h with
  | work h => exact h.cqsExtend.cqsLegal k
  | trans _ _ h₁ h₂ => exact h₂ (h₁ k)
  | createCq s c cfg h =>
    obtain ⟨-, -, hb, hs, hc, hc', hd⟩ := h
    exact k.setCq (.created hb hs hc hc' hd)
  | deleteCq s c _ =>
    intro d
    rw [State.cq_deleteCq]
    exact k.setCq CqLegal.empty d
  | deleting s q _ _ =>
    rw [State.markDiscard_eq]
    exact (CqsExtend.of_eq (t := { s.modRing q _ with fetch := _ }) rfl).cqsLegal k
  | live | createRing | deleted | config | map | limits => exact (CqsExtend.of_eq rfl).cqsLegal k

theorem State.cqs_grantIf (s : State) (granted : Bool) : (s.grantIf granted).cqs = s.cqs := by
  rw [State.grantIf_eq]

theorem CqsLegal.accept {s : State} (h : CqsLegal s) (i : SlotId) (record : Record) : CqsLegal (s.accept i record) := by
  rcases s.accept_cases i record with e | ⟨r, -, -, ha⟩
  · rw [e]; exact h
  · exact ha.cqsLegal ((CqsExtend.of_eq (t := s.arrive i r record) rfl).cqsLegal h)

theorem exec_keeps_cqsLegal (c : Instr) (s t : State) (hs : CqsLegal s) (h : exec c s = .next t) : CqsLegal t := by
  rcases instr_cases c with hc | hc | rfl | ⟨data, rfl⟩
  · rcases exec_work_cases (legal := False) hc h False.elim with rfl | ⟨u, hu, rfl⟩
    · exact hs
    · exact hu.cqsExtend.cqsLegal hs
  · rcases exec_host_moves hc h with hk | hk
    · exact hk.cqsLegal hs
    · exact .of_reset hk
  · exact Host.Outcome.next.inj h ▸ (CqsExtend.of_eq (s.cqs_grantIf true)).cqsLegal hs
  · rcases exec_fetchComplete_cases h with rfl | ⟨f, -, ⟨-, rfl⟩ | ⟨-, u, hu, hk⟩⟩
    · exact hs
    · exact (CqsExtend.of_eq (State.cqs_grantIf _ _)).cqsLegal ((HostMove.free s.fetchEnded .fetching _ nofun).cqsLegal hs)
    · have hu : CqsLegal u := (CqsExtend.of_eq (s := s) (hu ▸ State.cqs_grantIf _ _)).cqsLegal hs
      rcases hk with ⟨-, rfl⟩ | rfl
      · exact hu.accept f.slot data.record
      · exact hu

/-! #### The waiting record write -/

/-- Postings may join, and a ring's record change where no ring becomes UNCONFIGURED. -/
theorem WriteLegal.of_extend {s t : State} (h : WriteLegal s) (hx : CqsExtend s t) (hw : t.write = s.write ∨ t.write = none)
    (hr : (t.ring 0).state = .unconfigured → (s.ring 0).state = .unconfigured) (hk : (t.ring 0).state ≠ .deleting) : WriteLegal t where
  waiting w he := by
    rcases hw with e | e
    · obtain ⟨hs, hb, cfg, hc, hu, ha⟩ := h.waiting w (e ▸ he)
      have hx := hx w.cq
      refine ⟨hx.state.trans hs, fun hn => hb ?_, cfg, hx.config.trans hc, hx.unreleased ▸ hu, hx.producer ▸ ha⟩
      exact List.prefix_nil.1 (hn ▸ hx.backlog)
    · rw [e] at he; cases he
  adminPair h0 := (hx 0).state.trans (h.adminPair (hr h0))
  adminKept := hk

theorem WriteLegal.of_eq {s t : State} (h : WriteLegal s) (hx : CqsExtend s t) (hw : t.write = s.write ∨ t.write = none)
    (hr : t.rings = s.rings) : WriteLegal t := by
  have hring : t.ring 0 = s.ring 0 := by unfold State.ring; rw [hr]
  exact h.of_extend hx hw (hring ▸ id) (hring ▸ h.adminKept)

/-- A ring other than ring 0 is replaced. -/
theorem WriteLegal.setRing {s : State} (h : WriteLegal s) {q : Ring} (x : RequestRing) (hq : q ≠ 0) : WriteLegal (s.setRing q x) := by
  have hring : (s.setRing q x).ring 0 = s.ring 0 := State.ring_setRing_of_ne _ _ _ _ hq
  exact h.of_extend (.of_eq rfl) (.inl rfl) (hring ▸ id) (hring ▸ h.adminKept)

/-- A completion ring is replaced by a record that a waiting write still fits. -/
theorem WriteLegal.setCq {s : State} (h : WriteLegal s) {c : Cq} {x : CompletionRing}
    (hw : ∀ w, s.write = some w → w.cq = c → x.state = (s.cq c).state ∧ x.config = (s.cq c).config ∧ x.producer = (s.cq c).producer ∧
      x.backlog = (s.cq c).backlog ∧ x.unreleased ≤ (s.cq c).unreleased)
    (h0 : c = 0 → (s.ring 0).state = .unconfigured → x.state = .unconfigured) : WriteLegal (s.setCq c x) where
  waiting w he := by
    obtain ⟨hs, hb, cfg, hc, hu, ha⟩ := h.waiting w he
    rw [State.cq_setCq]
    split
    · rename_i e
      subst e
      obtain ⟨hxs, hxc, hxp, hxb, hxu⟩ := hw w he rfl
      exact ⟨hxs.trans hs, hxb ▸ hb, cfg, hxc.trans hc, hxu.trans_lt hu, hxp ▸ ha⟩
    · exact ⟨hs, hb, cfg, hc, hu, ha⟩
  adminPair hr := by
    rw [State.cq_setCq]
    split
    · exact h0 ‹_› hr
    · exact h.adminPair hr
  adminKept := h.adminKept

theorem OnlyWork.write {s t : State} (h : OnlyWork s t) : t.write = s.write := by rw [h.1]

theorem HostMove.writeLegal {s t : State} (h : HostMove s t) (k : WriteLegal s) : WriteLegal t := by
  induction h with
  | trans _ _ h₁ h₂ => exact h₂ (h₁ k)
  | side _ hp _ => exact k.of_eq (.of_eq hp.cqs) hp.write hp.rings
  | free s st i _ =>
    have hp := PortKept.freeSlotFrom s st i
    exact k.of_eq (.of_eq hp.cqs) hp.write hp.rings
  | notice s c n =>
    have hw := OnlyWork.postNotice s c n
    exact k.of_eq (.postNotice s c n) (.inl hw.write) hw.rings
  | answerResult s i r =>
    have hw : OnlyWork s (s.answerResult i r) := .ite (.completeSlot s i r) (.refl s)
    exact k.of_eq (.answerResult s i r) (.inl hw.write) hw.rings
  | producer s r n h =>
    have hstate : ((s.setRing r { s.ring r with producer := n }).ring 0).state = (s.ring 0).state := by
      rw [State.ring_setRing]
      split
      · rename_i e; rw [e]
      · rfl
    exact k.of_extend (.of_eq rfl) (.inl rfl) (hstate ▸ id) (hstate ▸ k.adminKept)
  | failed s f why _ _ =>
    refine k.of_extend (.of_eq rfl) (.inl rfl) (fun h0 => ?_) ?_ <;> rw [State.ring_setRing] at *
    · split at h0
      · cases h0
      · exact h0
    · split
      · nofun
      · exact k.adminKept
  | deleted s r h => exact k.setRing _ fun e => k.adminKept (e ▸ h.1)
  | broughtUp s hb _ =>
    have h0 : (s.ring 0).state = .unconfigured := by simpa [State.beforeBringUp] using hb
    have hring : (s.setRing 0 (RequestRing.created s.adminRingConfig)).ring 0 = RequestRing.created s.adminRingConfig :=
      State.ring_setRing_self _ _ _
    have hset : WriteLegal (s.setRing 0 (RequestRing.created s.adminRingConfig)) := by
      refine k.of_extend (.of_eq rfl) (.inl rfl) (fun _ => h0) ?_
      rw [hring]
      nofun
    refine hset.setCq (fun w he hw => ?_) fun _ hr => by rw [hring] at hr; cases hr
    have ha := (k.waiting w he).1
    rw [hw, k.adminPair h0] at ha
    cases ha
  | cq s c x h =>
    refine k.setCq (fun w he _ => h.entry.resolve_left (by simp [he])) fun hc hr => ?_
    have hu := k.adminPair hr
    rcases h.state with e | ⟨e, -⟩
    · rw [e, hc, hu]
    · rw [hc, hu] at e; cases e
  | request s c h =>
    simp only [CompletionRing.writable, Bool.and_eq_true, decide_eq_true_eq, Bool.not_eq_true', List.isEmpty_eq_false_iff] at h
    obtain ⟨⟨hs, hb⟩, hu⟩ := h
    refine ⟨fun w he => ?_, k.adminPair, k.adminKept⟩
    obtain rfl := Option.some.inj he
    cases hc : (s.cq c).config with
    | none => simp [CompletionRing.size, hc] at hu
    | some cfg =>
      rw [CompletionRing.size_of_config hc] at hu
      exact ⟨hs, hb, cfg, hc, hu, by simp [CompletionRing.entryAddr, CompletionRing.base, hc]; rfl⟩

theorem WriteLegal.of_reset {s t : State} (h : WasReset s t) : WriteLegal t where
  waiting w he := by rw [h.idle.2.2.2] at he; cases he
  adminPair _ := by rw [h.cqs 0]; rfl
  adminKept := by rw [h.rings 0]; nofun

theorem State.write_discardPostings (s : State) (l : List Posting) : (s.discardPostings l).write = s.write := by
  induction l generalizing s with
  | nil => rfl
  | cons p l ih =>
    cases p with
    | slot i =>
      rw [State.discardPostings_slot, ih]
      unfold State.freeSlotFrom
      split <;> rfl
    | notice n => exact ih s

/-- No write waits for a ring that is deleted: one that did is withdrawn (R149). -/
theorem State.write_deleteCq (s : State) (c : Cq) (w : WriteRequest) (h : (s.deleteCq c).write = some w) :
    s.write = some w ∧ w.cq ≠ c := by
  have hdisc : ((s.setCq c CompletionRing.empty).discardPostings (s.cq c).backlog).write = s.write := State.write_discardPostings _ _
  unfold State.deleteCq State.withdrawWrite at h
  split at h
  · rename_i w' hw
    split at h
    · cases h
    · obtain rfl := Option.some.inj (hw.symm.trans h)
      exact ⟨hdisc.symm.trans hw, by assumption⟩
  · rename_i hn
    exact absurd (hn.symm.trans h) (by simp)

theorem State.rings_deleteCq (s : State) (c : Cq) : (s.deleteCq c).rings = s.rings := by
  unfold State.deleteCq
  rw [State.withdrawWrite_eq]
  exact (PortKept.discardPostings (s.setCq c CompletionRing.empty) (s.cq c).backlog).rings

theorem WriteLegal.deleteCq {s : State} (h : WriteLegal s) {c : Cq} (hc : c ≠ 0) : WriteLegal (s.deleteCq c) := by
  have hring : (s.deleteCq c).ring 0 = s.ring 0 := by unfold State.ring; rw [State.rings_deleteCq]
  refine ⟨fun w he => ?_, fun h0 => ?_, hring ▸ h.adminKept⟩
  · obtain ⟨hw, hne⟩ := s.write_deleteCq c w he
    rw [State.cq_deleteCq, State.cq_setCq_of_ne _ _ _ _ (Ne.symm hne)]
    exact h.waiting w hw
  · rw [State.cq_deleteCq, State.cq_setCq_of_ne _ _ _ _ hc]
    exact h.adminPair (hring ▸ h0)

theorem Acceptance.writeLegal {own : Seg → Prop} {legal : Prop} {r : Ring} {i : SlotId} {s t : State}
    (h : Acceptance own legal r i s t) (k : WriteLegal s) : WriteLegal t := by
  induction h with
  | work h => exact k.of_eq h.cqsExtend (.inl h.onlyWork.write) h.onlyWork.rings
  | trans _ _ h₁ h₂ => exact h₂ (h₁ k)
  | createRing s q cfg _ h => exact k.setRing _ h.1
  | deleting s q _ h =>
    rw [State.markDiscard_eq]
    exact (k.setRing { s.ring q with state := .deleting } h.1).of_eq (.of_eq rfl) (.inl rfl) rfl
  | deleted s q _ h => exact k.setRing _ h.1
  | createCq s c cfg h =>
    refine k.setCq (fun w he hw => ?_) fun e => absurd e h.1
    have ha := (k.waiting w he).1
    rw [hw, h.2.1] at ha
    cases ha
  | deleteCq s c hc => exact k.deleteCq hc
  | live | config | map | limits => exact k.of_eq (.of_eq rfl) (.inl rfl) rfl

theorem WriteLegal.grantIf {s : State} (h : WriteLegal s) (granted : Bool) : WriteLegal (s.grantIf granted) := by
  refine h.of_eq (.of_eq (s.cqs_grantIf granted)) ?_ ?_ <;> rw [State.grantIf_eq]
  exact .inl rfl

theorem WriteLegal.accept {s : State} (h : WriteLegal s) (i : SlotId) (record : Record) : WriteLegal (s.accept i record) := by
  rcases s.accept_cases i record with e | ⟨r, -, -, ha⟩
  · rw [e]; exact h
  · exact ha.writeLegal (h.of_eq (.of_eq rfl) (.inl rfl) rfl)

theorem exec_keeps_writeLegal (c : Instr) (s t : State) (hs : WriteLegal s) (h : exec c s = .next t) : WriteLegal t := by
  rcases instr_cases c with hc | hc | rfl | ⟨data, rfl⟩
  · rcases exec_work_cases (legal := False) hc h False.elim with rfl | ⟨u, hu, rfl⟩
    · exact hs
    · exact hs.of_eq (hu.cqsExtend.trans (.of_eq rfl)) (.inl hu.onlyWork.write) hu.onlyWork.rings
  · rcases exec_host_moves hc h with hk | hk
    · exact hk.writeLegal hs
    · exact .of_reset hk
  · exact Host.Outcome.next.inj h ▸ hs.grantIf true
  · have hended : WriteLegal s.fetchEnded := hs.of_eq (.of_eq rfl) (.inl rfl) rfl
    rcases exec_fetchComplete_cases h with rfl | ⟨f, -, ⟨-, rfl⟩ | ⟨-, u, hu, hk⟩⟩
    · exact hs
    · exact ((HostMove.free _ .fetching _ nofun).writeLegal hended).grantIf _
    · have hcons : WriteLegal (s.fetchEnded.modRing f.ring RequestRing.consume) := by
        have hstate : ((s.fetchEnded.modRing f.ring RequestRing.consume).ring 0).state = (s.ring 0).state := by
          rw [State.modRing_eq, State.ring_setRing]
          split
          · rename_i e; rw [e]; rfl
          · rfl
        exact hended.of_extend (.of_eq rfl) (.inl rfl) (hstate ▸ id) (hstate ▸ hs.adminKept)
      have hu : WriteLegal u := hu ▸ hcons.grantIf _
      rcases hk with ⟨-, rfl⟩ | rfl
      · exact (hu.accept f.slot data.record).of_eq (.of_eq rfl) (.inl rfl) rfl
      · exact hu.of_eq (.of_eq rfl) (.inl rfl) rfl

/-- Settles O7: postings only join backlogs of ACTIVE rings, the writer writes where an entry is released, and a waiting write's ring
keeps its indices until the write is issued or withdrawn. -/
theorem stepKeepsCompletionRingsLegal : Obligations.StepKeepsCompletionRingsLegal :=
  ⟨fun _ _ hs h => step_keeps (P := CqsLegal) (fun _ _ h => h) exec_keeps_cqsLegal hs h,
    fun _ _ _ hs h => step_keeps (P := WriteLegal) (fun _ _ h => h.of_eq (.of_eq rfl) (.inl rfl) rfl) exec_keeps_writeLegal hs h⟩

end Sys2Proof.Machine
end

/-! ### Every step keeps queues and legs in agreement (R38) -/

section
namespace Sys2Proof.Machine

theorem LinesKept.dispatchLegal {s t : State} (h : LinesKept s t) (hs : t.slots = s.slots) (k : DispatchLegal s) : DispatchLegal t :=
  k.of_eq hs h.queues h.map h.lastArrival

theorem HostMove.dispatchLegal {s t : State} (h : HostMove s t) (k : DispatchLegal s) : DispatchLegal t := by
  induction h with
  | trans _ _ h₁ h₂ => exact h₂ (h₁ k)
  | side h _ hs => exact h.dispatchLegal hs k
  | free s st i h => exact k.freeSlotFrom h i
  | notice s c n => exact k.postNotice c n
  | answerResult s i r => exact k.answerResult i r
  | producer | failed | deleted | broughtUp | cq | request => exact k.of_eq rfl rfl rfl rfl

/-- A reset leaves no legs and no queues. -/
theorem DispatchLegal.of_reset {s t : State} (h : WasReset s t)
    (k : ∀ e, (s.map.get e).kind = .pair → (s.map.get e).segA ≠ (s.map.get e).segB) : DispatchLegal t where
  queued g i := by
    rw [h.queues g, LegWaits, h.slots i]
    exact ⟨nofun, fun hw => by cases hw.1⟩
  ordered g := by rw [h.queues g]; exact List.Pairwise.nil
  legs i := by rw [h.slots i]; exact .empty
  arrived i hi := by rw [h.slots i] at hi; cases hi
  inOrder i j hi := by rw [h.slots i] at hi; cases hi
  entries e := by
    rcases h.map e with he | he <;> rw [he]
    · exact k e
    · simp [MapEntry.empty]

/-! #### Grants and arrivals -/

/-- A FREE or FETCHING slot may take any record that is not LIVE and has no legs to finish. -/
theorem DispatchLegal.setIdle {s : State} (h : DispatchLegal s) {i : SlotId} {x : Slot} (hs : (s.slot i).state ≠ .live)
    (hx : x.state ≠ .live) (hl : LegsLegal x) : DispatchLegal (s.setSlot i x) := h.retired (fun hn => absurd hn hs) hx hl

theorem DispatchLegal.grantIf {s : State} (h : DispatchLegal s) (granted : Bool) : DispatchLegal (s.grantIf granted) := by
  rcases s.grantIf_cases granted with e | ⟨g, i, -, -, hi, e⟩
  · rw [e]; exact h
  · have hfree : (s.slot i).state = .free := by
      have hf := List.find?_some hi
      exact of_decide_eq_true hf
    have hset : DispatchLegal (s.setSlot i { Slot.empty with state := .fetching, ring := some g.ring }) :=
      h.setIdle (by rw [hfree]; nofun) nofun (LegsLegal.empty.congr rfl rfl rfl fun _ => .inl nofun)
    rw [e]
    exact hset.of_eq rfl rfl rfl rfl

theorem DispatchLegal.later {s : State} (h : DispatchLegal s) {n : Nat} (hn : s.lastArrival ≤ n) :
    DispatchLegal { s with lastArrival := n } := by
  refine ⟨h.queued, h.ordered, h.legs, fun i hi => ?_, h.inOrder, h.entries⟩
  obtain ⟨m, hm, hle⟩ := h.arrived i hi
  exact ⟨m, hm, hle.trans hn⟩

theorem DispatchLegal.arrive {s : State} (h : DispatchLegal s) {i : SlotId} (hs : (s.slot i).state = .fetching) (r : Ring)
    (record : Record) : DispatchLegal (s.arrive i r record) ∧ FreshArrival (s.arrive i r record) i := by
  have hn : (s.slot i).state ≠ .live := by rw [hs]; nofun
  refine ⟨(h.setIdle hn ?_ ?_).later (Nat.le_succ _), ?_, fun j hj hjl => ?_⟩
  · exact hn
  · exact (h.legs i).congr rfl rfl rfl fun _ => .inl hn
  · rw [State.slot_arrive_self]
    exact ⟨_, rfl, le_rfl⟩
  · rw [State.slot_arrive_of_ne s hj.symm] at hjl ⊢
    rw [State.slot_arrive_self]
    obtain ⟨m, hm, hle⟩ := h.arrived j hjl
    rw [hm]
    intro e
    have := Option.some.inj e
    omega

/-! #### An exchange is launched -/

/-- Joining several queues changes these queues alone. -/
theorem State.foldl_joinQueue (i : SlotId) (gs : List Seg) (hn : gs.Nodup) (u : State) :
    (gs.foldl (fun s g => s.joinQueue i g) u).slots = u.slots ∧ (gs.foldl (fun s g => s.joinQueue i g) u).map = u.map ∧
      (gs.foldl (fun s g => s.joinQueue i g) u).lastArrival = u.lastArrival ∧
      ∀ k, (gs.foldl (fun s g => s.joinQueue i g) u).queue k =
        if k ∈ gs then insertOrdered u.ordersBefore i (u.queue k) else u.queue k := by
  induction gs generalizing u with
  | nil => exact ⟨rfl, rfl, rfl, fun k => rfl⟩
  | cons g gs ih =>
    obtain ⟨hg, hn⟩ := List.nodup_cons.1 hn
    obtain ⟨hs, hm, hl, hq⟩ := ih hn (u.joinQueue i g)
    refine ⟨hs.trans (u.slots_joinQueue i g), hm.trans (u.map_joinQueue i g), hl.trans (u.lastArrival_joinQueue i g), fun k => ?_⟩
    rw [List.foldl_cons, hq k, State.queue_joinQueue, State.ordersBefore_of_slots (u.slots_joinQueue i g)]
    by_cases hk : k = g
    · subst hk
      rw [if_neg hg, if_pos rfl, if_pos List.mem_cons_self]
    · rw [if_neg (Ne.symm hk)]
      simp only [List.mem_cons, hk, false_or]

/-- The legs of a route: on different segments, WAITING or FINISHED, with the paths of its target (R12, R34 to R36). -/
structure Route.Legal (route : Route) : Prop where
  distinct : route.legs.Pairwise fun l m => l.segment ≠ m.segment
  pair : ∀ a b, route.target = .pair a b → a ≠ b ∧ ∃ l, route.legs = [l] ∧
    (l.path = some .primary ∧ l.segment = a ∨ l.path = some .secondary ∧ l.segment = b ∧ route.alternate = true)
  noPath : (∀ a b, route.target ≠ .pair a b) → ∀ l ∈ route.legs, l.path = none

theorem fanLeg_segment (g : Seg) (x : LineState) (n : Nat) : (fanLeg g x n).segment = g := by
  unfold fanLeg
  split <;> rfl

theorem fanLeg_path (g : Seg) (x : LineState) (n : Nat) : (fanLeg g x n).path = none := by
  unfold fanLeg
  split <;> rfl

theorem nodup_setMembers (m : SegSet) : (setMembers m).Nodup := (List.nodup_finRange 8).filter _

theorem State.pathChoice_legal {s : State} {e : MapEntry} (he : e.kind = .pair → e.segA ≠ e.segB) {n : Nat} {route : Route}
    (h : s.pathChoice e n = .ok route) : route.Legal := by
  unfold State.pathChoice at h
  split at h
  · split at h <;> cases h <;>
      exact ⟨List.pairwise_singleton _ _, fun a b hab => (by cases hab), fun _ l hl => by rw [List.mem_singleton.1 hl]; rfl⟩
  · rename_i hk
    have hne := he hk
    split at h
    · cases h
      refine ⟨List.pairwise_singleton _ _, fun a b hab => ?_, fun hn => absurd rfl (hn _ _)⟩
      obtain ⟨rfl, rfl⟩ := Target.pair.inj hab
      exact ⟨hne, _, rfl, .inl ⟨rfl, rfl⟩⟩
    · split at h
      · cases h
        refine ⟨List.pairwise_singleton _ _, fun a b hab => ?_, fun hn => absurd rfl (hn _ _)⟩
        obtain ⟨rfl, rfl⟩ := Target.pair.inj hab
        exact ⟨hne, _, rfl, .inr ⟨rfl, rfl, rfl⟩⟩
      · cases h
  · cases h
    refine ⟨?_, fun a b hab => (by cases hab), fun _ l hl => ?_⟩
    · refine List.pairwise_map.2 ((nodup_setMembers e.fanMask).imp ?_)
      intro g k hgk
      rw [fanLeg_segment, fanLeg_segment]
      exact hgk
    · obtain ⟨g, -, rfl⟩ := List.mem_map.1 hl
      exact fanLeg_path _ _ _

/-- The slot record of an exchange as it is launched (R11, R12, R15). -/
def State.launched (s : State) (i : SlotId) (k : Kind) (record : Record) (id : Nat) (route : Route) : Slot :=
  { s.slot i with
    state := .live
    exchange := some (exchangeOf k record route.target id)
    payload := if k = .write then some (payloadOf record) else none
    deadline := deadlineFor (s.lifetimes.get (timeoutClassOf record))
    deadlineTimer := deadlineTimerFor (s.lifetimes.get (timeoutClassOf record))
    alternatePath := route.alternate
    failoverUsed := route.alternate
    legs := route.legs }

theorem State.launch_eq (s : State) (i : SlotId) (k : Kind) (record : Record) (id : Nat) (route : Route) :
    s.launch i k record id route =
      ((s.setSlot i (s.launched i k record id route)).joinWaiting i).checkDone i := rfl

theorem DispatchLegal.launch {s : State} (h : DispatchLegal s) {i : SlotId} (hs : (s.slot i).state ≠ .live) (hf : FreshArrival s i)
    {route : Route} (hr : route.Legal) (k : Kind) (record : Record) (id : Nat) : DispatchLegal (s.launch i k record id route) := by
  rw [State.launch_eq]
  set y := s.launched i k record id route with hy
  have hwaiting : ((s.setSlot i y).slot i).waitingOn = y.waitingOn := by rw [State.slot_setSlot_self]
  have hnodup : y.waitingOn.Nodup := List.pairwise_map.2 (List.Pairwise.filter _ hr.distinct)
  obtain ⟨hslots, hmap, hlast, hqueue⟩ := State.foldl_joinQueue i y.waitingOn hnodup (s.setSlot i y)
  have hnot (g : Seg) : ¬ LegWaits s g i := fun hw => hs hw.1
  unfold State.joinWaiting
  rw [hwaiting]
  have hslot := State.slot_of_slots hslots
  have hself : (y.waitingOn.foldl (fun s g => s.joinQueue i g) (s.setSlot i y)).slot i = y :=
    (hslot i).trans (State.slot_setSlot_self _ _ _)
  have hwaits (g : Seg) : LegWaits (y.waitingOn.foldl (fun s g => s.joinQueue i g) (s.setSlot i y)) g i ↔ g ∈ y.waitingOn := by
    rw [legWaits_iff, hself]
    simp only [Slot.HasLeg, Slot.waitingOn, List.mem_map, List.mem_filter, decide_eq_true_eq]
    constructor
    · rintro ⟨-, l, hl, hg, hw⟩
      exact ⟨l, ⟨hl, hw⟩, hg⟩
    · rintro ⟨l, ⟨hl, hw⟩, hg⟩
      exact ⟨rfl, l, hl, hg, hw⟩
  refine DispatchLegal.checkDone (h.slotMoved (i := i) ⟨fun j hj => ?_, hlast, hmap, fun g => ?_, .inr fun g => ?_⟩ ?_ fun _ => ?_) i
  · rw [hslot j, State.slot_setSlot_of_ne _ _ _ _ hj.symm]
  · rw [hwaits, hqueue g, State.ordersBefore_of_slots hslots, h.queue_filter (hnot g)]
    by_cases hg : g ∈ y.waitingOn
    · rw [if_pos hg]; exact .inr ⟨hg, .inr rfl⟩
    · rw [if_neg hg]; exact .inl ⟨hg, rfl⟩
  · exact fun hm => hnot g ((h.queued g i).1 hm)
  · rw [hself]
    refine ⟨fun hn => (by cases hn), hr.distinct, fun x a b hx ht => ?_, fun x hx hn => ?_, fun hn => absurd rfl hn⟩
    · obtain rfl := Option.some.inj hx
      exact hr.pair a b ht
    · obtain rfl := Option.some.inj hx
      exact hr.noPath hn
  · rw [hself]
    exact hf

theorem DispatchLegal.checkRecord {s : State} (h : DispatchLegal s) {i : SlotId} (hs : (s.slot i).state = .fetching)
    (hf : FreshArrival s i) (r : Ring) (record : Record) : DispatchLegal (s.checkRecord i r record) := by
  have hrefuse (status : Status) : DispatchLegal (s.refuse i status) :=
    (Work.refuse (own := fun _ => False) (who := (· = i)) (legal := True) s i status rfl).dispatch (fun _ => h) trivial
  rcases Acceptance.checkRecord_cases (i := i) (r := r) s record with ⟨status, e⟩ | ⟨k, e⟩ | ⟨k, args, hk, ha, e⟩ <;> rw [e]
  · exact hrefuse status
  · rcases Acceptance.acceptExchange_cases (i := i) s k record with ⟨status, e⟩ | ⟨entry, route, hroute, he, e⟩ <;> rw [e]
    · exact hrefuse status
    · obtain ⟨m, -, rfl⟩ := Option.map_eq_some_iff.1 he
      exact h.launch (by rw [hs]; nofun) hf (State.pathChoice_legal (h.entries m) hroute) k record _
  · have hargs : DispatchLegal (s.setSlot i { s.slot i with args := some args }) := h.minor ⟨rfl, rfl, rfl, rfl, rfl, rfl⟩ rfl rfl
    have hslot : (s.setSlot i { s.slot i with args := some args }).slot i = { s.slot i with args := some args } :=
      State.slot_setSlot_self _ _ _
    refine (Acceptance.takeOperation (own := fun _ => True) (legal := True) (r := r) _ r args (Acceptance.isAdmin_argsOf ha hk)
      (fun _ _ => trivial) ?_ (fun _ => ?_) fun _ => hargs).dispatch (fun _ => hargs) trivial
    · rw [hslot]; exact hs
    · obtain ⟨hn, hne⟩ := hf
      refine ⟨by rw [hslot]; exact hn, fun j hj => ?_⟩
      rw [hslot, State.slot_setSlot_of_ne _ _ _ _ hj.symm]
      exact hne j hj

theorem DispatchLegal.accept {s : State} (h : DispatchLegal s) (i : SlotId) (record : Record) : DispatchLegal (s.accept i record) := by
  unfold State.accept
  split
  · rename_i r hs _
    obtain ⟨ha, hf⟩ := h.arrive hs r record
    refine ha.checkRecord ?_ hf r record
    rw [State.slot_arrive_self]
    exact hs
  · exact h

theorem exec_keeps_dispatchLegal (c : Instr) (s t : State) (hs : DispatchLegal s) (h : exec c s = .next t) : DispatchLegal t := by
  rcases instr_cases c with hc | hc | rfl | ⟨data, rfl⟩
  · rcases exec_work_cases (legal := True) hc h fun _ => hs with rfl | ⟨u, hu, rfl⟩
    · exact hs
    · exact (hu.dispatch (fun _ => hs) trivial).of_eq rfl rfl rfl rfl
  · rcases exec_host_moves hc h with hk | hk
    · exact hk.dispatchLegal hs
    · exact .of_reset hk hs.entries
  · exact Host.Outcome.next.inj h ▸ hs.grantIf true
  · have hended : DispatchLegal s.fetchEnded := hs.of_eq rfl rfl rfl rfl
    rcases exec_fetchComplete_cases h with rfl | ⟨f, -, ⟨-, rfl⟩ | ⟨-, u, hu, hk⟩⟩
    · exact hs
    · exact (hended.freeSlotFrom (st := .fetching) nofun f.slot).grantIf _
    · have hcons : DispatchLegal (s.fetchEnded.modRing f.ring RequestRing.consume) := hended.of_eq rfl rfl rfl rfl
      have hu : DispatchLegal u := hu ▸ hcons.grantIf _
      rcases hk with ⟨-, rfl⟩ | rfl
      · exact (hu.accept f.slot data.record).of_eq rfl rfl rfl rfl
      · exact hu.of_eq rfl rfl rfl rfl

/-- Settles O9: one slot changes at a time and takes its places in the queues with it; a new exchange has arrived last. -/
theorem stepKeepsQueuesAndLegsAgreeing : Obligations.StepKeepsQueuesAndLegsAgreeing :=
  fun _ _ hs h => step_keeps (P := DispatchLegal) (fun _ _ h => h.of_eq rfl rfl rfl rfl) exec_keeps_dispatchLegal hs h

end Sys2Proof.Machine
end

/-! ### Segment records: what each change keeps legal (R60, R78, R81, R82, R91, R92, R94) -/

section
namespace Sys2Proof.Machine

/-! #### Records -/

theorem SegmentLegal.eases {x y : Segment} (h : SegmentLegal x) (k : x.Eases y) : SegmentLegal y := by
  have hl : y.lineState = x.lineState := by rw [k.rest]
  have hp : y.phase = x.phase := by rw [k.rest]
  have hf : y.frame = x.frame := by rw [k.rest]
  have ho : y.pendingOutcome = x.pendingOutcome := by rw [k.rest]
  have hop : y.pendingOp = x.pendingOp := by rw [k.rest]
  have hs : y.settleTimer = x.settleTimer := by rw [k.rest]
  have hr : y.run = x.run := by rw [k.rest]
  refine ⟨by rw [hl, hp]; exact h.phaseOnlyInActive, by rw [hf, hp]; exact h.frameInPhase, by rw [ho, hp]; exact h.outcomeInRecover,
    by rw [hop, hl]; exact h.opInLineState, ?_, ?_, ?_, ?_, by rw [hs, hl]; exact h.settleInWaking, by rw [hr, hl, hp]; exact h.runWhereMeasured,
    ?_, ?_⟩
  · rw [hl]
    rcases k.pulse with ⟨e, -⟩ | ⟨hd, -⟩
    · rw [e]; exact h.pulseInDormant
    · exact fun _ => hd
  · rw [hl, hop]
    rcases k.pulse with ⟨e, -⟩ | ⟨-, -, hn, -⟩
    · rw [e]; exact h.wakeHasPulse
    · exact fun _ _ => hn
  · rw [hl]
    rcases k.hold with e | e <;> rw [e]
    · exact h.holdOnUsable
    · exact fun hn => absurd rfl hn
  · rcases k.hold with e | e <;> rw [e]
    · exact h.holderIsNoAdmin
    · nofun
  · rcases k.pulse with ⟨e, e'⟩ | ⟨-, -, hn, e'⟩ <;> rw [e']
    · rw [e]; exact h.drivesPulse
    · exact ⟨fun _ => hn, fun _ => rfl⟩
  · rw [hp]
    rcases k.pulse with ⟨-, e'⟩ | ⟨hd, -, -, e'⟩ <;> rw [e']
    · exact h.drivesFrame
    · rw [h.phaseOnlyInActive (by rw [hd]; nofun)]
      simp

theorem SegmentLegal.cold : SegmentLegal Segment.cold := by
  constructor <;> simp [Segment.cold, opsPendingIn, Hold.holder]

/-- An ACTIVE segment goes through the phases of a frame. -/
theorem SegmentLegal.inActive {x y : Segment} (h : SegmentLegal x) (hx : x.lineState = .active)
    (hk : y.lineState = x.lineState ∧ y.pendingOp = x.pendingOp ∧ y.wakePulse = x.wakePulse ∧ y.hold = x.hold ∧
      y.settleTimer = x.settleTimer)
    (hf : y.frame = none ↔ y.phase = .idle ∨ y.phase = .guard) (ho : y.pendingOutcome = none ↔ y.phase ≠ .recover)
    (hr : y.run = .notMeasured ↔ y.phase ≠ .recover) (hl : y.line ≠ .wakePulse)
    (hd : (∃ levels, y.line = .sending levels) ↔ y.phase = .leadIn ∨ y.phase = .header ∨ y.phase = .responseOut) : SegmentLegal y := by
  obtain ⟨hline, hop, hpulse, hhold, hsettle⟩ := hk
  have hact : y.lineState = .active := hline.trans hx
  have hnone : y.wakePulse = none := by
    rw [hpulse]
    by_contra hn
    have := h.pulseInDormant hn
    rw [hx] at this
    cases this
  refine ⟨fun hn => absurd hact hn, hf, ho, by rw [hop, hline]; exact h.opInLineState, fun hn => absurd hnone hn,
    fun hn => ?_, by rw [hhold, hline]; exact h.holdOnUsable, by rw [hhold]; exact h.holderIsNoAdmin,
    by rw [hsettle, hline]; exact h.settleInWaking, ?_, ?_, hd⟩
  · rw [hact] at hn; cases hn
  · rw [hr, hact]; simp
  · exact ⟨fun hn => absurd hn hl, fun hn => absurd hnone hn⟩

/-- A segment with no frame in progress, its line released or driving a wake pulse. -/
theorem SegmentLegal.ofIdle {y : Segment} (hp : y.phase = .idle ∧ y.frame = none ∧ y.pendingOutcome = none)
    (hop : y.pendingOp.map PendingOp.op ∈ opsPendingIn y.lineState) (hpulse : y.wakePulse ≠ none → y.lineState = .dormant)
    (hwake : y.lineState = .dormant → y.pendingOp ≠ none → y.wakePulse ≠ none) (hhold : y.hold ≠ .none → y.lineState.usable = true)
    (hholder : y.hold.holder ≠ some 0) (hsettle : y.settleTimer = .stopped ↔ y.lineState ≠ .waking)
    (hrun : y.run = .notMeasured ↔ y.lineState ≠ .syncing) (hdrive : y.line = .wakePulse ↔ y.wakePulse ≠ none)
    (hline : ∀ levels, y.line ≠ .sending levels) : SegmentLegal y := by
  obtain ⟨hphase, hframe, hout⟩ := hp
  refine ⟨fun _ => hphase, ?_, ?_, hop, hpulse, hwake, hhold, hholder, hsettle, ?_, hdrive, ?_⟩
  · simp [hframe, hphase]
  · simp [hout, hphase]
  · simp [hrun, hphase]
  · simp [hline, hphase]

/-- What a segment that is not ACTIVE, or is ACTIVE in IDLE, has none of. -/
theorem SegmentLegal.idle_fields {x : Segment} (h : SegmentLegal x) (hp : x.phase = .idle) :
    (x.phase = .idle ∧ x.frame = none ∧ x.pendingOutcome = none) ∧ ∀ levels, x.line ≠ .sending levels := by
  refine ⟨⟨hp, h.frameInPhase.2 (.inl hp), h.outcomeInRecover.2 (by rw [hp]; nofun)⟩, fun levels hl => ?_⟩
  have := h.drivesFrame.1 ⟨levels, hl⟩
  rw [hp] at this
  simp at this

/-- A usable segment is held, or drains, for a ring other than ring 0. -/
theorem SegmentLegal.setHold {x : Segment} (h : SegmentLegal x) {k : Hold} (hu : x.lineState.usable = true) (hr : k.holder ≠ some 0) :
    SegmentLegal { x with hold := k } :=
  { h with holdOnUsable := fun _ => hu, holderIsNoAdmin := hr }

theorem SegmentLegal.pulse_none {x : Segment} (h : SegmentLegal x) (hx : x.lineState ≠ .dormant) : x.wakePulse = none :=
  by_contra fun hn => hx (h.pulseInDormant hn)

theorem SegmentLegal.line_ne_pulse {x : Segment} (h : SegmentLegal x) (hx : x.wakePulse = none) : x.line ≠ .wakePulse :=
  fun hl => h.drivesPulse.1 hl hx

/-- An ACTIVE segment in IDLE starts a frame. -/
theorem SegmentLegal.frameStarted {x : Segment} (h : SegmentLegal x) (hx : x.lineState = .active) (hp : x.phase = .idle) (f : Frame)
    (bits : Option Nat) (levels : List Level) :
    SegmentLegal { x with phase := .leadIn, phaseBits := bits, frame := some f, line := .sending levels } := by
  refine h.inActive hx ⟨rfl, rfl, rfl, rfl, rfl⟩ (by simp) ?_ ?_ (by simp) (by simp)
  · have := h.outcomeInRecover
    simp [hp] at this
    simp [this]
  · have := h.runWhereMeasured
    simp [hp, hx] at this
    simp [this]

/-- A frame goes on to a phase that sends where it drives the line, and listens or pauses where it releases it. -/
theorem SegmentLegal.phaseEntered {x : Segment} (h : SegmentLegal x) (hx : x.lineState = .active) (hf : x.frame ≠ none)
    (hn : x.phase ≠ .recover) {p : FramePhase} (bits : Option Nat) {line : LineDrive} (hp : p ≠ .idle ∧ p ≠ .guard ∧ p ≠ .recover)
    (hl : line ≠ .wakePulse) (hd : (∃ levels, line = .sending levels) ↔ p = .leadIn ∨ p = .header ∨ p = .responseOut) :
    SegmentLegal { x with phase := p, phaseBits := bits, line := line } := by
  refine h.inActive hx ⟨rfl, rfl, rfl, rfl, rfl⟩ ?_ ?_ ?_ hl hd
  · simp [hf, hp]
  · simp [h.outcomeInRecover, hn, hp]
  · simp [h.runWhereMeasured, hn, hp, hx]

/-- The frame in progress is replaced by another. -/
theorem SegmentLegal.frameReplaced {x : Segment} (h : SegmentLegal x) (hf : x.frame ≠ none) (f : Frame) :
    SegmentLegal { x with frame := some f } :=
  { h with frameInPhase := by have := h.frameInPhase; simp [hf] at this; simp [this] }

theorem SegmentLegal.guardEntered {x : Segment} (h : SegmentLegal x) (hx : x.lineState = .active) (o : LegOutcome) :
    SegmentLegal (x.countFrame o).enterGuard := by
  rw [Segment.countFrame_enterGuard]
  exact h.inActive hx ⟨rfl, rfl, rfl, rfl, rfl⟩ (by simp [afterFrame]) (by simp [afterFrame]) (by simp [afterFrame]) (by simp [afterFrame])
    (by simp [afterFrame])

theorem runAt_ne (l : Level) : runAt l ≠ .notMeasured := by
  cases l <;> nofun

theorem SegmentLegal.recoverEntered {x : Segment} (h : SegmentLegal x) (hx : x.lineState = .active) (hf : x.frame ≠ none)
    (o : PendingOutcome) (l : Level) : SegmentLegal (x.enterRecover o l) := by
  refine h.inActive hx ⟨rfl, rfl, rfl, rfl, rfl⟩ ?_ ?_ ?_ ?_ ?_ <;> simp [Segment.enterRecover, hf, runAt_ne]

/-- A segment that is no longer DORMANT waits for its line to settle. -/
theorem SegmentLegal.woken {x : Segment} (h : SegmentLegal x) (hx : x.lineState = .dormant) {y : Segment}
    (hy : y = { x with lineState := .waking, settleTimer := y.settleTimer, wakePulse := none, line := y.line })
    (hs : y.settleTimer ≠ .stopped) (hl : y.line = .released ∨ x.wakePulse = none ∧ y.line = x.line) : SegmentLegal y := by
  have hphase := h.phaseOnlyInActive (by rw [hx]; nofun)
  obtain ⟨⟨-, hf, ho⟩, hsend⟩ := h.idle_fields hphase
  have hop := h.opInLineState
  have hrun := h.runWhereMeasured
  rw [hx] at hop
  simp [hx, hphase] at hrun
  have hdrive : y.line ≠ .wakePulse ∧ ∀ levels, y.line ≠ .sending levels := by
    rcases hl with e | ⟨hn, e⟩ <;> rw [e]
    · simp
    · exact ⟨h.line_ne_pulse hn, hsend⟩
  refine .ofIdle ?_ ?_ ?_ ?_ ?_ ?_ ?_ ?_ ?_ hdrive.2
  · rw [hy]; exact ⟨hphase, hf, ho⟩
  · rw [hy]; exact hop
  · rw [hy]; nofun
  · rw [hy]; nofun
  · rw [hy]; exact fun _ => rfl
  · rw [hy]; exact h.holderIsNoAdmin
  · simp only [hs, false_iff, not_not]; rw [hy]
  · rw [hy]; simp [hrun]
  · simp only [hdrive.1, false_iff, not_not]; rw [hy]

/-! #### Quiet segments -/

/-- Record `x` is in line state `l` with no frame, pulse, timer or measurement, its line released. -/
structure Segment.Quiet (l : LineState) (x : Segment) : Prop where
  lineState : x.lineState = l
  phase : x.phase = .idle ∧ x.frame = none ∧ x.pendingOutcome = none
  wakePulse : x.wakePulse = none
  settleTimer : x.settleTimer = .stopped
  run : x.run = .notMeasured
  line : x.line = .released

theorem Segment.Quiet.of_quiet (x : Segment) (l : LineState) : Segment.Quiet l { x.quiet with lineState := l } :=
  ⟨rfl, ⟨rfl, rfl, rfl⟩, rfl, rfl, rfl, rfl⟩

theorem Segment.Quiet.eases {l : LineState} {x y : Segment} (h : x.Quiet l) (hl : l ≠ .dormant) (k : x.Eases y) : y.Quiet l := by
  have hpulse : y.wakePulse = x.wakePulse ∧ y.line = x.line := k.pulse.resolve_right fun hd => hl (h.lineState.symm.trans hd.1)
  refine ⟨?_, ?_, hpulse.1.trans h.wakePulse, ?_, ?_, hpulse.2.trans h.line⟩ <;> rw [k.rest]
  · exact h.lineState
  · exact h.phase
  · exact h.settleTimer
  · exact h.run

/-- A quiet segment that is OFF or FAULTED is legal once its hold and its operation are over. -/
theorem Segment.Quiet.legal {l : LineState} {x : Segment} (h : x.Quiet l) (hl : l = .off ∨ ∃ why, l = .faulted why)
    (hop : x.pendingOp = none) (hhold : x.hold = .none) : SegmentLegal x := by
  obtain ⟨hline, hphase, hpulse, hsettle, hrun, hdrive⟩ := h
  refine .ofIdle hphase ?_ (fun hn => absurd hpulse hn) (fun _ hn => absurd hop hn) (fun hn => absurd hhold hn) ?_ ?_ ?_ ?_ ?_
  · rw [hop, hline]
    rcases hl with rfl | ⟨why, rfl⟩ <;> exact List.mem_singleton_self _
  · rw [hhold]; nofun
  · rw [hsettle, hline]
    rcases hl with rfl | ⟨why, rfl⟩ <;> simp
  · rw [hrun, hline]
    rcases hl with rfl | ⟨why, rfl⟩ <;> simp
  · simp [hdrive, hpulse]
  · simp [hdrive]

end Sys2Proof.Machine
end

/-! ### Every step keeps the segment records legal -/

section
namespace Sys2Proof.Machine

/-! #### A segment's record after the operations of its engine -/

/-- Work that replaces no record of `g` eases it. -/
theorem Work.segLegal {who : SlotId → Prop} {own : Seg → Prop} {s t : State} {g : Seg} (h : Work own who False s t) (hg : ¬ own g)
    (k : SegmentLegal (s.seg g)) : SegmentLegal (t.seg g) := k.eases (h.eases hg)

theorem State.seg_of_segs {s t : State} (h : t.segs = s.segs) (g : Seg) : t.seg g = s.seg g := by
  unfold State.seg; rw [h]

theorem State.segs_answerResult (s : State) (i : SlotId) (r : Result) : (s.answerResult i r).segs = s.segs := by
  unfold State.answerResult
  split
  · exact State.segs_completeSlot s i r
  · rfl

theorem State.segs_postNotice (s : State) (c : Cq) (n : Notice) : (s.postNotice c n).segs = s.segs := by
  rw [State.postNotice_eq]
  split
  · rfl
  · split <;> rfl

theorem State.seg_endPendingOp (s : State) (g : Seg) (status : Status) :
    (s.endPendingOp g status).seg g = { s.seg g with pendingOp := none } := by
  unfold State.endPendingOp
  split
  · rename_i hn
    rw [← hn]
  · dsimp only
    split
    · exact (State.seg_of_segs (State.segs_answerResult _ _ _) g).trans (State.seg_setSeg_self _ _ _)
    · exact State.seg_setSeg_self _ _ _

/-- The named operation, where it is pending, is over. -/
theorem State.seg_endOp (s : State) (g : Seg) (op : SegOp) (status : Status) : (s.endOp g op status).seg g =
    if (s.seg g).pendingOp.map PendingOp.op = some op then { s.seg g with pendingOp := none } else s.seg g := by
  unfold State.endOp
  split
  · rename_i p hp
    rw [hp, Option.map_some]
    split
    · rename_i ho
      rw [State.seg_endPendingOp, if_pos (congrArg some ho)]
    · rename_i ho
      rw [if_neg fun e => ho (Option.some.inj e)]
  · rename_i hn
    rw [hn]
    rfl

theorem Work.hold_none {who : SlotId → Prop} {own : Seg → Prop} {legal : Prop} {s t : State} {g : Seg} (h : Work own who legal s t)
    (hg : ¬ own g) (k : (s.seg g).hold = .none) : (t.seg g).hold = .none := by
  rcases (h.eases hg).hold with e | e
  · rw [e, k]
  · exact e

/-- A lost segment holds for no ring (R110). -/
theorem State.hold_loseHold (s : State) (g : Seg) (why : HoldLoss) : ((s.loseHold g why).seg g).hold = .none := by
  have hfold (l : List SlotId) (status : Status) (t : State) :
      Work (fun _ => False) (fun _ => False) False t (l.foldl (fun s i => s.endHold status i) t) :=
    .foldl (fun s i => .endHold s status i) l t
  have hclear : ((s.clearHold g).seg g).hold = .none := by
    unfold State.clearHold
    rw [State.modSeg_eq, State.seg_setSeg_self]
  unfold State.loseHold
  refine (hfold _ _ _).hold_none id ?_
  split
  · split
    · exact hclear
    · exact (Work.postHoldLost (own := fun _ => False) (who := fun _ => False) (legal := False) _ g why _).hold_none id hclear
  · exact hclear
  · assumption

section
variable {own : Seg → Prop} {who : SlotId → Prop} {g : Seg}

theorem Work.quiet {s t : State} {l : LineState} (h : Work own who False s t) (hg : ¬ own g) (hl : l ≠ .dormant)
    (k : (s.seg g).Quiet l) : (t.seg g).Quiet l := k.eases hl (h.eases hg)

end

/-- Displacement, loss of the hold and a notice leave a quiet segment quiet. -/
theorem State.quiet_lost {s : State} {g : Seg} {l : LineState} (hl : l ≠ .dormant) (h : (s.seg g).Quiet l) (cause : LegOutcome)
    (why : HoldLoss) : (((s.displaceQueue g cause).loseHold g why).seg g).Quiet l := by
  have hw : Work (fun _ => False) (fun _ => False) False s ((s.displaceQueue g cause).loseHold g why) :=
    (Work.displaceQueue s g cause False.elim).trans (.loseHold _ g why)
  exact hw.quiet id hl h

/-- The six steps of R86, the first two and the notice apart from those that displace and end. -/
theorem State.enterFaulted_eq (s : State) (g : Seg) (why : FaultReason) :
    ∃ u v, u = (s.cutFrame g .segmentFault).setSeg g { ((s.cutFrame g .segmentFault).seg g).quiet with lineState := .faulted why } ∧
      v = u.postSegmentNotice g (.segmentFaulted g why) ∧
      s.enterFaulted g why = ((v.displaceQueue g .segmentFault).loseHold g .fault).endPendingOp g (.outcome .segmentFault) :=
  ⟨_, _, rfl, rfl, rfl⟩

/-- A fault leaves a legal record, whatever was in progress (R86). -/
theorem SegmentLegal.enterFaulted (s : State) (g : Seg) (why : FaultReason) : SegmentLegal ((s.enterFaulted g why).seg g) := by
  obtain ⟨t, u, ht, hu, hfaulted⟩ := s.enterFaulted_eq g why
  have hquiet : (u.seg g).Quiet (.faulted why) := by
    rw [hu, State.postSegmentNotice, State.seg_of_segs (State.segs_postNotice t _ _), ht, State.seg_setSeg_self]
    exact .of_quiet _ _
  have hl : LineState.faulted why ≠ .dormant := by nofun
  have hlost := State.quiet_lost hl hquiet .segmentFault .fault
  have hhold := (u.displaceQueue g .segmentFault).hold_loseHold g .fault
  rw [hfaulted, State.seg_endPendingOp]
  exact Segment.Quiet.legal (l := .faulted why) ⟨hlost.lineState, hlost.phase, hlost.wakePulse, hlost.settleTimer, hlost.run, hlost.line⟩
    (.inr ⟨why, rfl⟩) rfl hhold

/-- A stop leaves a quiet, OFF record that holds for no ring; its pending operation is the caller's (R96). -/
theorem State.seg_stopSegment (s : State) (g : Seg) : ((s.stopSegment g).seg g).Quiet .off ∧ ((s.stopSegment g).seg g).hold = .none ∧
    ((s.stopSegment g).seg g).pendingOp = (s.seg g).pendingOp := by
  set u := s.modSeg g Segment.quiet with hu
  have hw : Work (fun _ => False) (fun _ => False) False u ((u.displaceQueue g .segmentStopped).loseHold g .stopped) :=
    (Work.displaceQueue u g _ False.elim).trans (.loseHold _ g _)
  have hop : (((u.displaceQueue g .segmentStopped).loseHold g .stopped).seg g).pendingOp = (s.seg g).pendingOp := by
    rw [(hw.eases (g := g) id).rest, hu, State.modSeg_eq, State.seg_setSeg_self]
    rfl
  have hhold := (u.displaceQueue g .segmentStopped).hold_loseHold g .stopped
  have hseg : (s.stopSegment g).seg g =
      { (((u.displaceQueue g .segmentStopped).loseHold g .stopped).seg g).quiet with lineState := .off } := State.seg_setSeg_self _ _ _
  rw [hseg]
  exact ⟨.of_quiet _ _, hhold, hop⟩

theorem SegmentLegal.stopSegment {s : State} {g : Seg} (h : (s.seg g).pendingOp = none) : SegmentLegal ((s.stopSegment g).seg g) := by
  obtain ⟨hq, hhold, hop⟩ := s.seg_stopSegment g
  exact hq.legal (.inl rfl) (hop.trans h) hhold

theorem SegmentLegal.actStop {s : State} {g : Seg} (h : (s.seg g).pendingIs .stop = true) : SegmentLegal ((s.actStop g).seg g) := by
  obtain ⟨hq, hhold, hop⟩ := s.seg_stopSegment g
  have hmap : ((s.stopSegment g).seg g).pendingOp.map PendingOp.op = some .stop := by
    rw [hop]
    unfold Segment.pendingIs at h
    split at h
    · rename_i p hp
      rw [hp]
      exact congrArg some (by simpa using h)
    · cases h
  unfold State.actStop
  rw [State.seg_endOp, if_pos hmap]
  exact Segment.Quiet.legal (l := .off) ⟨hq.lineState, hq.phase, hq.wakePulse, hq.settleTimer, hq.run, hq.line⟩ (.inl rfl) rfl hhold

/-- A quiet record is legal OFF once its hold and its operation are over. -/
theorem SegmentLegal.quietOff {x : Segment} (hop : x.pendingOp = none) (hhold : x.hold = .none) :
    SegmentLegal { x.quiet with lineState := .off } := (Segment.Quiet.of_quiet x .off).legal (.inl rfl) hop hhold

theorem SegmentLegal.resetSegment (s : State) (g : Seg) : SegmentLegal ((s.resetSegment g).seg g) := by
  obtain ⟨u, hu⟩ : ∃ u, u = ((s.cutFrame g .segmentReset).modSeg g Segment.quiet).displaceQueue g .segmentReset := ⟨_, rfl⟩
  have hseg : (s.resetSegment g).seg g =
      { (((u.loseHold g .reset).endPendingOp g (.outcome .segmentReset)).seg g).quiet with lineState := .off } := by
    rw [hu]
    exact State.seg_setSeg_self _ _ _
  have hend := (u.loseHold g .reset).seg_endPendingOp g (.outcome .segmentReset)
  have hhold := u.hold_loseHold g .reset
  rw [hseg]
  refine .quietOff ?_ ?_
  · rw [hend]
  · rw [hend]; exact hhold

/-! #### The end of a frame -/

/-- An operation ends where the line state is not SYNCING. -/
theorem SegmentLegal.opEnded {x : Segment} (h : SegmentLegal x) (hx : x.lineState ≠ .syncing) : SegmentLegal { x with pendingOp := none } :=
  { h with
    opInLineState := by
      have := hx
      revert this
      generalize x.lineState = l
      cases l <;> simp [opsPendingIn]
    wakeHasPulse := fun _ hn => absurd rfl hn }

theorem SegmentLegal.endOp {s : State} {g : Seg} (h : SegmentLegal (s.seg g)) (hx : (s.seg g).lineState ≠ .syncing) (op : SegOp)
    (status : Status) : SegmentLegal ((s.endOp g op status).seg g) := by
  rw [State.seg_endOp]
  split
  · exact h.opEnded hx
  · exact h

/-- The operation that may still be pending as an ACTIVE segment goes DORMANT, by rows 2 and 3 of R90, is a SLEEP. -/
theorem SegmentLegal.enterDormant {s : State} {g : Seg} (h : SegmentLegal (s.seg g)) (hx : (s.seg g).lineState = .active)
    (hp : (s.seg g).phase = .guard) (hstop : (s.seg g).pendingIs .stop = false) (o : DormancyOrigin) :
    SegmentLegal ((s.enterDormant g o).seg g) := by
  let x := { s.seg g with lineState := .dormant, phase := .idle, phaseBits := none }
  have hop : (if x.pendingOp.map PendingOp.op = some .sleep then { x with pendingOp := none } else x) = { x with pendingOp := none } := by
    split
    · rfl
    · rename_i hns
      have hmem := h.opInLineState
      have hnone : x.pendingOp = none := by
        unfold Segment.pendingIs at hstop
        change (s.seg g).pendingOp = none
        cases hpo : (s.seg g).pendingOp with
        | none => rfl
        | some p =>
          rw [hpo] at hstop hmem
          have hns' : ¬ (s.seg g).pendingOp.map PendingOp.op = some .sleep := hns
          simp [hx, opsPendingIn, hpo] at hmem hstop hns'
          simp_all
      rw [← hnone]
  have hdormant (t : State) (ht : t.seg g = x) :
      SegmentLegal (((t.endOp g .sleep (.outcome .ok)).wakeOnDemand g).seg g) := by
    refine (Work.wakeOnDemand (own := fun _ => False) (who := fun _ => False) _ g).segLegal id ?_
    rw [State.seg_endOp, ht, hop]
    have hpulse : (s.seg g).wakePulse = none := h.pulse_none (by rw [hx]; nofun)
    have hrun := h.runWhereMeasured
    have hsettle := h.settleInWaking
    have hout := h.outcomeInRecover
    have hframe := h.frameInPhase
    have hsend := h.drivesFrame
    simp [hx, hp] at hrun hsettle hout hframe hsend
    exact .ofIdle ⟨rfl, hframe, hout⟩ (by simp [x, opsPendingIn]) (fun _ => rfl) (fun _ hn => absurd rfl hn) (fun _ => rfl) h.holderIsNoAdmin
      (by simp [x, hsettle]) (by simp [x, hrun]) h.drivesPulse hsend
  unfold State.enterDormant
  cases o with
  | idleTimer => exact hdormant _ ((State.seg_of_segs (State.segs_postNotice _ _ _) g).trans (State.seg_setSeg_self _ _ _))
  | sleep => exact hdormant _ (State.seg_setSeg_self _ _ _)

theorem Segment.Eases.of_segs {s t : State} (h : t.segs = s.segs) (g : Seg) : (s.seg g).Eases (t.seg g) := by
  rw [State.seg_of_segs h]
  exact .refl _

theorem LegOp.eases {own : Seg → Prop} {legal : Prop} {s t : State} (h : LegOp own legal s t) (g : Seg) : (s.seg g).Eases (t.seg g) := by
  refine h.closed (R := fun s t => (s.seg g).Eases (t.seg g)) (fun _ _ _ => .trans) (fun _ => .refl _) (fun s i x _ => .of_segs rfl g)
    (fun s k l => .of_segs rfl g) (fun s k x hx => ?_) (fun s i => ?_)
  · rw [State.seg_setSeg]
    split
    · rename_i e; exact e ▸ hx
    · exact .refl _
  · exact (Work.legOp (own := fun _ => False) (who := fun _ => False) (legal := False) (.checkDone s i)).eases id

/-- What the dispatcher does with a leg changes no segment's record but for statistics and a wake pulse. -/
theorem State.eases_legFrameEnded (s : State) (i : SlotId) (g : Seg) (o : LegOutcome) (bytes : List Byte) (h : Seg) :
    (s.seg h).Eases ((s.legFrameEnded i g o bytes).seg h) := by
  have hop {t u : State} (k : LegOp (fun _ => True) False t u) : (t.seg h).Eases (u.seg h) := k.eases h
  have hfinish {t : State} (u : State) (hu : u.segs = t.segs) (o : LegOutcome) : (t.seg h).Eases ((u.finishLeg i g o).seg h) :=
    (Segment.Eases.of_segs hu h).trans (hop (.finishLeg u i g o trivial False.elim))
  have hdecision (t : State) (d : LegDecision) : (t.seg h).Eases ((t.applyDecision i g bytes d).seg h) := by
    unfold State.applyDecision State.finishOk
    cases d with
    | finishLate => exact hfinish _ (by rfl) .ok
    | finishOk => exact hfinish _ (by rfl) .ok
    | finish o => exact hop (.finishLeg t i g o trivial False.elim)
    | retry => exact hop (.retry t i g trivial False.elim)
    | failover b => exact hop (.failover t i g b trivial False.elim False.elim)
  unfold State.legFrameEnded
  split
  · split
    · exact (Segment.Eases.of_segs (by rfl) h).trans (hdecision _ _)
    · exact .refl _
  · exact .refl _

theorem SegmentLegal.endFrame {s : State} {g : Seg} (h : SegmentLegal (s.seg g)) (o : LegOutcome) (bytes : List Byte) :
    SegmentLegal ((s.endFrame g o bytes).seg g) := by
  unfold State.endFrame
  split
  · exact h
  · rename_i f hf
    have hx : (s.seg g).lineState = .active := by
      by_contra hx
      have := h.frameInPhase.2 (.inl (h.phaseOnlyInActive hx))
      rw [hf] at this
      cases this
    have hguard : SegmentLegal ((s.modSeg g fun x => (x.countFrame o).enterGuard).seg g) := by
      rw [State.modSeg_eq, State.seg_setSeg_self]
      exact h.guardEntered hx o
    have hseg : (s.modSeg g fun x => (x.countFrame o).enterGuard).seg g = ((s.seg g).countFrame o).enterGuard := State.seg_setSeg_self _ _ _
    have hact : ((s.modSeg g fun x => (x.countFrame o).enterGuard).seg g).lineState = .active := by
      rw [hseg, Segment.countFrame_enterGuard]
      exact hx
    have hphase : ((s.modSeg g fun x => (x.countFrame o).enterGuard).seg g).phase = .guard := by rw [hseg]; rfl
    dsimp only
    split
    · exact hguard.eases (State.eases_legFrameEnded _ _ _ _ _ _)
    · rename_i origin _
      unfold State.dormancyEnded
      split
      · exact hguard
      · rename_i hstop
        split
        · exact hguard.enterDormant hact hphase (by simpa using hstop) _
        · cases origin with
          | sleep => exact hguard.endOp (by rw [hact]; nofun) _ _
          | idleTimer => exact hguard

end Sys2Proof.Machine
end

/-! ### What the segment engines do, move by move (R79 to R103) -/

section
namespace Sys2Proof.Machine

/-- A frame of exchange `i` is in progress on the segment. -/
def Segment.Carries (x : Segment) (i : SlotId) : Prop := ∃ f, x.frame = some f ∧ f.carrier = .exchange i

theorem Segment.not_carries_of_none {x : Segment} (h : x.frame = none) (i : SlotId) : ¬ x.Carries i := by
  rintro ⟨f, hf, -⟩
  rw [h] at hf
  cases hf

/-- From `s` to `t` the engines have done work of the dispatcher, replaced records that carry the same exchange, started and ended
frames, and ended operations. -/
inductive EngineMove (legal : Prop) : State → State → Prop
  | trans {s t u : State} : EngineMove legal s t → EngineMove legal t u → EngineMove legal s u
  | work {s t : State} (h : Work (fun _ => False) (fun _ => True) legal s t) : EngineMove legal s t
  | accept {r : Ring} {i : SlotId} {s t : State} (h : Acceptance (fun _ => False) legal r i s t) : EngineMove legal s t
  | record (s : State) (g : Seg) (y : Segment) (hc : y.configured = (s.seg g).configured ∧ y.config = (s.seg g).config)
      (h : SegmentLegal (s.seg g) → SegmentLegal y ∧ ∀ i, y.Carries i ↔ (s.seg g).Carries i) : EngineMove legal s (s.setSeg g y)
  | operation (s : State) (g : Seg) (y : Segment) (op : SegOp) (status : Status)
      (hc : y.configured = (s.seg g).configured ∧ y.config = (s.seg g).config)
      (h : SegmentLegal (s.seg g) → SegmentLegal (if y.pendingOp.map PendingOp.op = some op then { y with pendingOp := none } else y) ∧
        ∀ i, y.Carries i ↔ (s.seg g).Carries i) : EngineMove legal s ((s.setSeg g y).endOp g op status)
  | pick (s : State) (g : Seg) (i : SlotId) (hm : (s.seg g).mayStart = true) (hi : i ∈ s.queue g) : EngineMove legal s (s.pickLeg g i)
  | endFrame (s : State) (g : Seg) (o : LegOutcome) (bytes : List Byte) : EngineMove legal s (s.endFrame g o bytes)
  | fault (s : State) (g : Seg) (why : FaultReason) : EngineMove legal s (s.enterFaulted g why)
  | stop (s : State) (g : Seg) (h : (s.seg g).stopMayAct = true) : EngineMove legal s (s.actStop g)
  | halt (s : State) (g : Seg) (hf : SegmentLegal (s.seg g) → (s.seg g).frame = none) (hop : (s.seg g).pendingOp = none) :
      EngineMove legal s (s.stopSegment g)
  | reset (s : State) (g : Seg) : EngineMove legal s (s.resetSegment g)

namespace EngineMove
variable {legal : Prop}

theorem refl (s : State) : EngineMove legal s s := .work (.refl s)

theorem ite {s t u : State} {p : Prop} [Decidable p] (h : p → EngineMove legal s t) (k : ¬ p → EngineMove legal s u) :
    EngineMove legal s (if p then t else u) := by
  split
  · exact h ‹_›
  · exact k ‹_›

/-- A record that changes neither its frame nor what legality speaks of. -/
theorem record_of_frame (s : State) (g : Seg) (y : Segment) (hc : y.configured = (s.seg g).configured ∧ y.config = (s.seg g).config)
    (hl : SegmentLegal (s.seg g) → SegmentLegal y) (hf : y.frame = (s.seg g).frame) : EngineMove legal s (s.setSeg g y) :=
  .record s g y hc fun h => ⟨hl h, fun i => by unfold Segment.Carries; rw [hf]⟩

theorem foreignMaster (s : State) (g : Seg) : EngineMove legal s (s.foreignMaster g) :=
  .trans (.work (.seg s g (s.seg g).countLineEvent ⟨rfl, .inl rfl, .inl ⟨rfl, rfl⟩⟩)) (.fault _ g .foreign)

theorem enterMeasured (s : State) (c : CarriedLevel) : EngineMove legal s (s.enterMeasured c) := ite (fun _ => .refl s) fun _ => foreignMaster s c.seg

/-- A usable segment is granted to a ring other than ring 0. -/
theorem grantHold (s : State) (g : Seg) (r : Ring) (h : SegmentLegal (s.seg g) → (s.seg g).lineState.usable = true ∧ r ≠ 0) :
    EngineMove legal s (s.grantHold g r) :=
  record_of_frame s g _ (by exact ⟨rfl, rfl⟩) (fun hl => hl.setHold (h hl).1 (by simp [Hold.holder, (h hl).2])) (by exact rfl)

/-- A hold that drained is granted (R109). -/
theorem grantDrained (s : State) (g : Seg) : EngineMove legal s (s.grantDrained g) := by
  unfold State.grantDrained
  split
  · rename_i r i hd
    refine .trans (grantHold s g r fun hl => ?_) (.work (.trans (.joinHoldSets _ _ _ _ _) (.checkHoldGranted _ i trivial)))
    have hr := hl.holderIsNoAdmin
    rw [hd] at hr
    exact ⟨hl.holdOnUsable (by rw [hd]; nofun), fun e => hr (congrArg some e)⟩
  · exact .refl s
  · exact .refl s

theorem enterGuardMeasured (s : State) (c : CarriedLevel) : EngineMove legal s (s.enterGuardMeasured c) :=
  ite (fun _ => .refl s) fun _ => .trans (ite (fun _ => grantDrained s c.seg) fun _ => .refl s)
    (ite (fun h => .stop _ _ h) fun _ => enterMeasured _ c)

/-! #### Phases -/

theorem active_of_frameIn {x : Segment} {p : FramePhase} {f : Frame} (h : x.frameIn p = some f) :
    x.lineState = .active ∧ x.phase = p ∧ x.frame = some f := by
  unfold Segment.frameIn at h
  split at h
  · rename_i hp
    exact ⟨hp.1, hp.2, h⟩
  · cases h

theorem active_of_listening {x : Segment} {f : Frame} (h : x.listening = some f) :
    x.lineState = .active ∧ (x.phase = .ackWait ∨ x.phase = .responseIn) ∧ x.frame = some f := by
  unfold Segment.listening at h
  split at h
  · rename_i f' hf
    obtain ⟨ha, hp, hf⟩ := active_of_frameIn hf
    exact ⟨ha, .inl hp, hf.trans h⟩
  · obtain ⟨ha, hp, hf⟩ := active_of_frameIn h
    exact ⟨ha, .inr hp, hf⟩

/-- A frame goes on from a phase other than RECOVER. -/
theorem enterPhase (s : State) (g : Seg) {p : FramePhase} {f : Frame} (hf : (s.seg g).frameIn p = some f) (hp : p ≠ .recover)
    (q : FramePhase) (bits : Nat) (line : LineDrive) (hq : q ≠ .idle ∧ q ≠ .guard ∧ q ≠ .recover) (hl : line ≠ .wakePulse)
    (hd : (∃ levels, line = .sending levels) ↔ q = .leadIn ∨ q = .header ∨ q = .responseOut) :
    EngineMove legal s (s.enterPhase g q bits line) := by
  obtain ⟨ha, rfl, hsome⟩ := active_of_frameIn hf
  exact record_of_frame s g _ (by exact ⟨rfl, rfl⟩) (fun h => h.phaseEntered ha (by rw [hsome]; nofun) hp (some bits) hq hl hd) (by exact rfl)

/-- The frame in progress is replaced by one of the same carrier. -/
theorem setFrame (s : State) (g : Seg) {f f' : Frame} (hf : (s.seg g).frame = some f) (hc : f'.carrier = f.carrier) :
    EngineMove legal s (s.setFrame g f') := by
  refine .record s g _ (by exact ⟨rfl, rfl⟩) fun h => ⟨h.frameReplaced (by rw [hf]; nofun) f', fun i => ?_⟩
  simp [Segment.Carries, hf, hc]

/-- A dormancy command starts on an ACTIVE segment in IDLE. -/
theorem startDormancy (s : State) (g : Seg) (o : DormancyOrigin) (h : (s.seg g).lineState = .active ∧ (s.seg g).phase = .idle) :
    EngineMove legal s (s.startFrame g (dormancyFrame o)) := by
  refine .record s g _ (by exact ⟨rfl, rfl⟩) fun hl => ⟨hl.frameStarted h.1 h.2 _ _ _, fun i => ?_⟩
  have hnone := Segment.not_carries_of_none (hl.frameInPhase.2 (.inl h.2)) i
  refine iff_of_false ?_ hnone
  rintro ⟨f, hf, hc⟩
  obtain rfl := Option.some.inj hf
  cases hc

/-- A frame in progress recovers. -/
theorem enterRecover (s : State) (g : Seg) (o : PendingOutcome) (l : Level) (n : Word)
    (h : SegmentLegal (s.seg g) → (s.seg g).lineState = .active ∧ (s.seg g).frame ≠ none) :
    EngineMove legal s (s.setSeg g { (s.seg g).enterRecover o l with lineEvents := n }) := by
  refine .record s g _ (by exact ⟨rfl, rfl⟩) fun hl => ⟨?_, fun i => ?_⟩
  · obtain ⟨ha, hf⟩ := h hl
    exact (hl.recoverEntered ha hf o l).eases ⟨rfl, .inl rfl, .inl ⟨rfl, rfl⟩⟩
  · unfold Segment.Carries Segment.enterRecover
    cases (s.seg g).frame with
    | none => simp
    | some f => simp

/-! #### Commands -/

/-- A command's outcome: nothing changed, or moves of the engines and the idle timers brought up to date. -/
def Runs (legal : Prop) (s : State) (o : Host.Outcome State Fault Refusal) : Prop :=
  o = .next s ∨ ∃ u, EngineMove legal s u ∧ o = settled u

theorem Runs.idle (s : State) : Runs legal s (.next s) := .inl rfl

theorem Runs.settled {s u : State} (h : EngineMove legal s u) : Runs legal s (settled u) := .inr ⟨u, h, rfl⟩

theorem Runs.ite {s : State} {p : Prop} [Decidable p] {o₁ o₂ : Host.Outcome State Fault Refusal} (h : p → Runs legal s o₁)
    (k : ¬ p → Runs legal s o₂) : Runs legal s (if p then o₁ else o₂) := by
  split
  · exact h ‹_›
  · exact k ‹_›

theorem of_works {s : State} {o : Host.Outcome State Fault Refusal} (h : Works (fun _ => False) legal s o) : Runs legal s o :=
  h.imp_right fun ⟨u, hu, e⟩ => ⟨u, .work hu, e⟩

theorem segs_recordProgress (s : State) (g : Seg) (op : SegOp) (p : Progress) : (s.recordProgress g op p).segs = s.segs := by
  unfold State.recordProgress
  split
  · split <;> rfl
  · rfl

/-- A DORMANT segment without a pulse in progress, or whose pulse ends, enters WAKING. -/
theorem woken (s : State) (g : Seg) (hx : (s.seg g).lineState = .dormant) (y : Segment)
    (hy : y = { s.seg g with lineState := .waking, settleTimer := y.settleTimer, wakePulse := none, line := y.line })
    (hs : y.settleTimer ≠ .stopped) (hl : y.line = .released ∨ (s.seg g).wakePulse = none ∧ y.line = (s.seg g).line) :
    EngineMove legal s (s.setSeg g y) :=
  record_of_frame s g y (by rw [hy]; exact ⟨rfl, rfl⟩) (fun h => h.woken hx hy hs hl) (by rw [hy])

theorem active_of_expectedLevel {x : Segment} {n : Nat} {l : Level} (h : x.expectedLevel n = some l) :
    x.lineState = .active ∧ (x.phase = .leadIn ∨ x.phase = .header ∨ x.phase = .gap ∨ x.phase = .responseOut) := by
  have hw : x.watch = .readback := by
    unfold Segment.expectedLevel at h
    cases hw : x.watch <;> simp [hw] at h ⊢
  unfold Segment.watch at hw
  cases hl : x.lineState with
  | active => cases hp : x.phase <;> simp [hl, hp] at hw ⊢
  | dormant => cases hp : x.wakePulse <;> simp [hl, hp] at hw
  | _ => simp [hl] at hw

theorem dormant_of_watch {x : Segment} (h : x.watch = .pulse) : x.lineState = .dormant ∧ x.wakePulse = none := by
  unfold Segment.watch at h
  split at h
  all_goals try cases h
  · rename_i hd
    split at h
    · cases h
    · exact ⟨hd, by simp_all⟩
  · split at h <;> cases h

theorem wakePulseEnd (s : State) (g : Seg) (h : (s.seg g).lineState = .dormant) :
    EngineMove legal s (((s.recordProgress g .wake .settling).modSeg g fun x => { x with wakePulse := none, line := .released }).enterWaking
      g) := by
  have hseg := State.seg_of_segs (segs_recordProgress s g .wake .settling) g
  refine .trans (.work (.recordProgress s g .wake .settling)) ?_
  unfold State.enterWaking
  rw [State.modSeg_eq, State.modSeg_eq, State.setSeg_setSeg, State.seg_setSeg_self]
  exact woken _ g (hseg ▸ h) _ rfl nofun (.inl rfl)

theorem remoteWake (s : State) (g : Seg) (h : (s.seg g).watch = .pulse) :
    EngineMove legal s ((s.enterWaking g).postSegmentNotice g (.remoteWake g)) := by
  obtain ⟨hd, hn⟩ := dormant_of_watch h
  have hwake : EngineMove legal s (s.enterWaking g) := woken s g hd _ (by rw [← hn]) nofun (.inr ⟨hn, rfl⟩)
  exact hwake.trans (.work (.notice _ _ _))

/-- A WAKING segment becomes ACTIVE, its WAKE over. -/
theorem settleSegment (s : State) (g : Seg) (h : (s.seg g).settling = true) : EngineMove legal s (s.settleSegment g) := by
  simp only [Segment.settling, Bool.and_eq_true, decide_eq_true_eq] at h
  refine .operation s g { s.seg g with lineState := .active, phase := .idle, settleTimer := .stopped } .wake (.outcome .ok) ⟨rfl, rfl⟩
    fun hl => ⟨?_, fun _ => Iff.rfl⟩
  have hphase := hl.phaseOnlyInActive (by rw [h.1]; nofun)
  obtain ⟨hidle, hsend⟩ := hl.idle_fields hphase
  have hpulse := hl.pulse_none (by rw [h.1]; nofun)
  have hrun := hl.runWhereMeasured
  have hop := hl.opInLineState
  simp [h.1, hphase] at hrun
  have hlegal (op : Option PendingOp) (ho : op = none) : SegmentLegal
      { s.seg g with lineState := .active, phase := .idle, settleTimer := .stopped, pendingOp := op } :=
    .ofIdle ⟨rfl, hidle.2⟩ (by simp [ho, opsPendingIn]) (fun hn => absurd hpulse hn) nofun (fun _ => rfl) hl.holderIsNoAdmin (by simp)
      (by simp [hrun]) hl.drivesPulse hsend
  split
  · exact hlegal none rfl
  · rename_i hne
    refine hlegal _ ?_
    rw [h.1] at hop
    cases hp : (s.seg g).pendingOp with
    | none => rfl
    | some p => simp_all [opsPendingIn]

/-- A SYNCING segment becomes ACTIVE, its START over. -/
theorem syncComplete (s : State) (g : Seg) (h : (s.seg g).lineState = .syncing) :
    EngineMove legal s ((s.modSeg g fun x => { x with lineState := .active, phase := .idle, run := .notMeasured }).endOp g .start
      (.outcome .ok)) := by
  refine .operation s g { s.seg g with lineState := .active, phase := .idle, run := .notMeasured } .start (.outcome .ok) ⟨rfl, rfl⟩
    fun hl => ⟨?_, fun _ => Iff.rfl⟩
  obtain ⟨hidle, hsend⟩ := hl.idle_fields (hl.phaseOnlyInActive (by rw [h]; nofun))
  have hpulse := hl.pulse_none (by rw [h]; nofun)
  have hsettle := hl.settleInWaking
  have hop : (s.seg g).pendingOp.map PendingOp.op = some .start := by simpa [h, opsPendingIn] using hl.opInLineState
  simp [h] at hsettle
  rw [if_pos (by exact hop)]
  exact .ofIdle ⟨rfl, hidle.2⟩ (by simp [opsPendingIn]) (fun hn => absurd hpulse hn) nofun (fun _ => rfl) hl.holderIsNoAdmin
    (by simp [hsettle]) (by simp) hl.drivesPulse hsend

/-- GUARD is over. -/
theorem guardEnd (s : State) (g : Seg) (ha : (s.seg g).lineState = .active) (hp : (s.seg g).phase = .guard) :
    EngineMove legal s (s.modSeg g fun x => { x with phase := .idle, phaseBits := none }) := by
  refine record_of_frame s g { s.seg g with phase := .idle, phaseBits := none } ⟨rfl, rfl⟩ (fun h => ?_) rfl
  have hf := h.frameInPhase
  have ho := h.outcomeInRecover
  have hr := h.runWhereMeasured
  have hd := h.drivesFrame
  simp [hp, ha] at hf ho hr hd
  exact h.inActive ha ⟨rfl, rfl, rfl, rfl, rfl⟩ (by simp [hf]) (by simp [ho]) (by simp [hr])
    (h.line_ne_pulse (h.pulse_none (by rw [ha]; nofun))) (by simp [hd])

theorem runRestart (s : State) (g : Seg) (l : Level) (hn : (s.seg g).run ≠ .notMeasured) :
    EngineMove legal s (s.modSeg g fun x => { x with run := runAt l }) :=
  record_of_frame s g { s.seg g with run := runAt l } ⟨rfl, rfl⟩
    (fun h => { h with runWhereMeasured := iff_of_false (runAt_ne l) fun hm => hn (h.runWhereMeasured.2 hm) }) rfl

theorem commands {c : Instr} {g : Seg} (hg : ownSegment c = some g) (s : State) : Runs legal s (exec c s) := by
  cases c <;> try cases hg
  case holdGrant => exact .ite (fun _ => .settled (grantDrained s g)) fun _ => .idle s
  case idleTimerExpiry =>
    simp only [exec, execIdleTimerExpiry]
    split
    · refine .ite (fun h => .settled (startDormancy s g _ ?_)) fun _ => .idle s
      simp only [Segment.idleRuns, Bool.and_eq_true, decide_eq_true_eq] at h
      exact ⟨h.1.1.1.1.2, h.1.1.1.2⟩
    · exact .idle s
  case sleepCommandStart =>
    refine .ite (fun h => .settled (.trans (.work (.recordProgress s g _ _)) (startDormancy _ g _ ?_))) fun _ => .idle s
    rw [State.seg_of_segs (segs_recordProgress s g _ _)]
    simp only [Segment.sleepMayStart, Bool.and_eq_true, decide_eq_true_eq] at h
    exact ⟨h.1.1.2, h.1.2⟩
  case wakePulseEnd => exact .ite (fun h => .settled (wakePulseEnd s g h.1)) fun _ => .idle s
  case settleTimerExpiry l => exact .ite (fun h => .settled (.trans (settleSegment s _ h) (enterMeasured _ l))) fun _ => .idle s
  case pick =>
    refine .ite (fun h => ?_) fun _ => .idle s
    split
    · rename_i i hi
      exact .settled (.pick s g i h (List.mem_of_find?_eq_some hi))
    · exact .idle s
  case leadInEnd =>
    simp only [exec, execLeadInEnd]
    split
    · rename_i f hf
      exact .settled (enterPhase s g hf nofun _ _ _ ⟨nofun, nofun, nofun⟩ nofun (by simp))
    · exact .idle s
  case headerSent =>
    simp only [exec, execHeaderSent]
    split
    · rename_i f hf
      refine .settled ?_
      split
      · exact enterPhase s g hf nofun _ _ _ ⟨nofun, nofun, nofun⟩ nofun (by simp)
      · exact enterPhase s g hf nofun _ _ _ ⟨nofun, nofun, nofun⟩ nofun (by simp)
    · exact .idle s
  case gapEnd =>
    simp only [exec, execGapEnd]
    split
    · rename_i f hf
      exact .settled (enterPhase s g hf nofun _ _ _ ⟨nofun, nofun, nofun⟩ nofun (by simp))
    · exact .idle s
  case responseOutEnd =>
    simp only [exec, execResponseOutEnd]
    split
    · rename_i f hf
      exact .settled (ite (fun _ => enterPhase s g hf nofun _ _ _ ⟨nofun, nofun, nofun⟩ nofun (by simp)) fun _ => .endFrame s g _ _)
    · exact .idle s
  case byteReceived b =>
    simp only [exec, execByteReceived]
    split
    · rename_i f hf
      obtain ⟨-, -, hf⟩ := active_of_frameIn hf
      exact .ite (fun _ => .settled (ite (fun _ => .endFrame s g _ _) fun _ => ite (fun _ => .endFrame s g _ _) fun _ =>
        setFrame s g hf rfl)) fun _ => .idle s
    · exact .idle s
  case ackReceived b =>
    simp only [exec, execAckReceived]
    split
    · exact .ite (fun _ => .settled (.endFrame s g _ _)) fun _ => .idle s
    · exact .idle s
  case windowEnd l =>
    simp only [exec, execWindowEnd]
    split
    · rename_i f hf
      refine .ite (fun _ => .idle s) fun _ => .settled (ite (fun _ => ?_) fun _ => .trans (.endFrame s _ _ _) (enterGuardMeasured _ l))
      exact record_of_frame s _ _ (by exact ⟨rfl, rfl⟩) (fun h => { h with }) (by exact rfl)
    · exact .idle s
  case stopAct => exact .ite (fun h => .settled (.stop s g h)) fun _ => .idle s
  case guardEnd => exact .ite (fun h => .settled (guardEnd s g h.1 h.2)) fun _ => .idle s
  case readbackDifference x =>
    simp only [exec, execReadbackDifference]
    split
    · rename_i l hl
      refine .ite (fun _ => .idle s) fun _ => .settled (enterRecover s x.seg .readback x.level _ fun h => ?_)
      obtain ⟨ha, hp⟩ := active_of_expectedLevel hl
      exact ⟨ha, fun hn => by rcases h.frameInPhase.1 hn with e | e <;> simp [e] at hp⟩
    · exact .idle s
  case framingDetected =>
    simp only [exec, execFramingDetected]
    split
    · rename_i f hf
      obtain ⟨ha, -, hf⟩ := active_of_listening hf
      exact .ite (fun _ => .settled (enterRecover s g .framing .dominant (s.seg g).lineEvents fun _ => ⟨ha, by rw [hf]; nofun⟩)) fun _ => .idle s
    · exact .idle s
  case recoverEnd =>
    simp only [exec, execRecoverEnd]
    split
    · exact .ite (fun _ => .settled (.endFrame s g _ _)) fun _ => .idle s
    · exact .idle s
  case recoverNoIdle => exact .ite (fun _ => .settled (.fault s g _)) fun _ => .idle s
  case noise => exact .ite (fun _ => .settled (.work (.seg s g _ (by exact ⟨rfl, .inl rfl, .inl ⟨rfl, rfl⟩⟩)))) fun _ => .idle s
  case foreignMaster => exact .ite (fun _ => .settled (foreignMaster s g)) fun _ => .idle s
  case stuckLine => exact .ite (fun _ => .settled (.fault s g _)) fun _ => .idle s
  case syncComplete => exact .ite (fun h => .settled (syncComplete s g h.1)) fun _ => .idle s
  case syncNoIdle => exact .ite (fun _ => .settled (.fault s g _)) fun _ => .idle s
  case remoteWake us => exact .ite (fun h => .settled (remoteWake s g h.1)) fun _ => .idle s
  case dormantStuck => exact .ite (fun _ => .settled (.fault s g _)) fun _ => .idle s
  case startCheck l =>
    simp only [exec, execStartCheck]
    split
    · rename_i f hf
      obtain ⟨-, -, hf⟩ := active_of_listening hf
      exact .ite (fun _ => .settled (setFrame s g hf rfl)) fun _ => .idle s
    · exact .idle s
  case recessiveRunRestart l => exact .ite (fun _ => .idle s) fun hn => .settled (runRestart s g l hn)

/-! #### Requests -/

section
variable {r : Ring} {i : SlotId}

/-- The request's slot becomes LIVE with its first progress; the segment's record is the caller's. -/
theorem pending (s : State) (h : (s.slot i).state = .fetching) (hf : legal → FreshArrival s i) (op : SegOp) :
    Acceptance (fun _ => False) legal r i s ((s.setLive i).setProgress i op.firstProgress) :=
  (Acceptance.setLive s h hf).trans (.work (.setProgress _ _ _))

theorem refuse (s : State) (status : Status) : EngineMove legal s (s.refuse i status) := .work (.refuse s i status trivial)

theorem answer (s : State) (status : Status) : EngineMove legal s (s.answer i status) := .work (.answer s i status (.inl trivial))

/-- An operation becomes pending, with what the record begins of it. -/
theorem setPending (s : State) (h : (s.slot i).state = .fetching) (hf : legal → FreshArrival s i) (g : Seg) (op : SegOp) (y : Segment)
    (hc : y.configured = (s.seg g).configured ∧ y.config = (s.seg g).config) (hl : SegmentLegal (s.seg g) → SegmentLegal y)
    (hfr : y.frame = (s.seg g).frame) : EngineMove legal s (((s.setLive i).setProgress i op.firstProgress).setSeg g y) :=
  .trans (.accept (r := 0) (pending s h hf op)) (record_of_frame _ g y hc hl hfr)

theorem startSegment (s : State) (h : (s.slot i).state = .fetching) (hf : legal → FreshArrival s i) (g : Seg) :
    EngineMove legal s (s.startSegment i g) := by
  refine ite (fun ⟨hoff, _⟩ => ?_) fun _ => refuse s _
  unfold State.setPending
  rw [State.modSeg_eq, State.modSeg_eq, State.setSeg_setSeg, State.seg_setSeg_self]
  refine setPending s h hf g .start _ (by exact ⟨rfl, rfl⟩) (fun hl => ?_) (by exact rfl)
  have hoff' : (((s.setLive i).setProgress i SegOp.start.firstProgress).seg g).lineState = .off := hoff
  obtain ⟨hidle, hsend⟩ := hl.idle_fields (hl.phaseOnlyInActive (by rw [hoff]; nofun))
  have hpulse := hl.pulse_none (by rw [hoff]; nofun)
  have hsettle := hl.settleInWaking
  simp [hoff] at hsettle
  exact .ofIdle hidle (by simp [opsPendingIn]) (fun hn => absurd hpulse hn) nofun (fun _ => rfl) hl.holderIsNoAdmin
    (iff_of_true hsettle nofun) (by simp) hl.drivesPulse hsend

theorem stopRequest (s : State) (h : (s.slot i).state = .fetching) (hf : legal → FreshArrival s i) (g : Seg) :
    EngineMove legal s (s.stopRequest i g) := by
  unfold State.stopRequest
  refine ite (fun _ => refuse s _) fun hop => ?_
  have hop : (s.seg g).pendingOp = none := by simpa using hop
  have hhalt (hn : SegmentLegal (s.seg g) → (s.seg g).frame = none) :
      EngineMove legal s ((s.stopSegment g).answer i (.outcome .ok)) := .trans (.halt s g hn hop) (answer _ _)
  have hquiet {l : LineState} (hl : (s.seg g).lineState = l) (hne : l ≠ .active) :
      EngineMove legal s ((s.stopSegment g).answer i (.outcome .ok)) :=
    hhalt fun hs => hs.frameInPhase.2 (.inl (hs.phaseOnlyInActive (hl ▸ hne)))
  split
  · exact answer s _
  · rename_i why hl
    refine .trans (record_of_frame s g { s.seg g with lineState := .off } ⟨rfl, rfl⟩ (fun hs => ?_) rfl) (answer _ _)
    obtain ⟨hidle, hsend⟩ := hs.idle_fields (hs.phaseOnlyInActive (by rw [hl]; nofun))
    have hpulse := hs.pulse_none (by rw [hl]; nofun)
    have hhold : (s.seg g).hold = .none := by
      by_contra hn
      have := hs.holdOnUsable hn
      rw [hl] at this
      cases this
    have hsettle := hs.settleInWaking
    have hrun := hs.runWhereMeasured
    simp [hl, hidle.1] at hsettle hrun
    exact .ofIdle hidle (by simp [hop, opsPendingIn]) (fun hn => absurd hpulse hn) (fun _ hn => absurd hop hn) (fun hn => absurd hhold hn)
      hs.holderIsNoAdmin (iff_of_true hsettle nofun) (iff_of_true hrun nofun) hs.drivesPulse hsend
  · rename_i hl
    refine ite (fun _ => ?_) fun hf => hhalt fun _ => by simpa using hf
    refine setPending s h hf g .stop _ (by exact ⟨rfl, rfl⟩) (fun hs => ?_) (by exact rfl)
    have hl' : (((s.setLive i).setProgress i SegOp.stop.firstProgress).seg g).lineState = .active := hl
    exact { hs with opInLineState := by simp [hl', opsPendingIn], wakeHasPulse := fun hd => by cases hl.symm.trans hd }
  · rename_i hl
    exact hquiet hl (by nofun)
  · rename_i hl
    exact hquiet hl (by nofun)
  · rename_i hl
    exact hquiet hl (by nofun)

theorem sleepRequest (s : State) (h : (s.slot i).state = .fetching) (hf : legal → FreshArrival s i) (g : Seg) :
    EngineMove legal s (s.sleepRequest i g) := by
  unfold State.sleepRequest
  refine ite (fun _ => refuse s _) fun hop => ?_
  split
  case h_5 => exact ite (fun _ => refuse s _) fun _ => ite (fun _ => refuse s _) fun _ => answer s _
  case h_6 =>
    rename_i hl
    refine ite (fun _ => refuse s _) fun _ => ite (fun _ => ?_) fun _ => refuse s _
    refine setPending s h hf g .sleep _ (by exact ⟨rfl, rfl⟩) (fun hs => ?_) (by exact rfl)
    have hl' : (((s.setLive i).setProgress i SegOp.sleep.firstProgress).seg g).lineState = .active := hl
    exact { hs with opInLineState := by simp [hl', opsPendingIn], wakeHasPulse := fun hd => by cases hl.symm.trans hd }
  all_goals exact refuse s _

theorem wakeRequest (s : State) (h : (s.slot i).state = .fetching) (hf : legal → FreshArrival s i) (g : Seg) :
    EngineMove legal s (s.wakeRequest i g) := by
  unfold State.wakeRequest
  refine ite (fun _ => refuse s _) fun hop => ?_
  split
  · exact answer s _
  · rename_i hl
    have hl' : (((s.setLive i).setProgress i SegOp.wake.firstProgress).seg g).lineState = .dormant := hl
    dsimp only
    refine ite (fun hp => ?_) fun hp => ?_
    · refine setPending s h hf g .wake _ (by exact ⟨rfl, rfl⟩) (fun hs => ?_) (by exact rfl)
      exact { hs with opInLineState := by simp [hl', opsPendingIn], wakeHasPulse := fun _ _ => Option.isSome_iff_ne_none.1 hp }
    · unfold State.startWakePulse State.setPending
      rw [State.modSeg_eq, State.modSeg_eq, State.setSeg_setSeg, State.seg_setSeg_self]
      refine setPending s h hf g .wake _ (by exact ⟨rfl, rfl⟩) (fun hs => ?_) (by exact rfl)
      obtain ⟨hidle, -⟩ := hs.idle_fields (hs.phaseOnlyInActive (by rw [hl]; nofun))
      have hsettle := hs.settleInWaking
      have hrun := hs.runWhereMeasured
      simp [hl, hidle.1] at hsettle hrun
      exact .ofIdle hidle (by simp [hl', opsPendingIn]) (fun _ => hl') (fun _ _ => nofun) hs.holdOnUsable hs.holderIsNoAdmin
        (iff_of_true hsettle (by simp [hl'])) (iff_of_true hrun (by simp [hl'])) (by simp) (by simp)
  all_goals exact refuse s _

end

/-! #### HOLD -/

theorem holdSegment (s : State) (i : SlotId) (r : Ring) (g : Seg) (hu : (s.seg g).lineState.usable = true) (hr : r ≠ 0) :
    EngineMove legal s (s.holdSegment i r g) := by
  unfold State.holdSegment
  split
  · exact .work (.joinHoldSets _ _ _ _ _)
  · exact .refl s
  · refine ite (fun _ => ?_) fun _ => .trans (grantHold s g r fun _ => ⟨hu, hr⟩) (.work (.joinHoldSets _ _ _ _ _))
    refine .trans (record_of_frame s g _ (by exact ⟨rfl, rfl⟩) (fun h => h.setHold hu ?_) (by exact rfl)) (.work (.joinHoldSets _ _ _ _ _))
    exact fun e => hr (Option.some.inj e)

theorem lineState_holdSegment (s : State) (i : SlotId) (r : Ring) (g k : Seg) :
    ((s.holdSegment i r g).seg k).lineState = (s.seg k).lineState := by
  have hset (x : Segment) (hx : x.lineState = (s.seg g).lineState) : ((s.setSeg g x).seg k).lineState = (s.seg k).lineState := by
    rw [State.seg_setSeg]
    split
    · rename_i e; rw [hx, e]
    · rfl
  unfold State.holdSegment
  split
  · rfl
  · rfl
  · split
    · exact hset _ rfl
    · exact hset _ rfl

theorem holdSegments (i : SlotId) (r : Ring) (hr : r ≠ 0) (gs : List Seg) (s : State) (hu : ∀ g ∈ gs, (s.seg g).lineState.usable = true) :
    EngineMove legal s (gs.foldl (fun s g => s.holdSegment i r g) s) := by
  induction gs generalizing s with
  | nil => exact .refl s
  | cons g gs ih =>
    refine .trans (holdSegment s i r g (hu g List.mem_cons_self) hr) (ih _ fun k hk => ?_)
    rw [lineState_holdSegment]
    exact hu k (List.mem_cons_of_mem _ hk)

/-- The checks of R107 leave usable segments only. -/
theorem usable_of_holdChecks {s : State} {r : Ring} {named : SegSet} (h : firstFailure (s.holdChecks r named) = none) {g : Seg}
    (hg : g ∈ setMembers named) : (s.seg g).lineState.usable = true := by
  have hc := (firstFailure_eq_none_iff _).1 h
  simp only [State.holdChecks, List.mem_cons, List.not_mem_nil, or_false, forall_eq_or_imp, forall_eq, List.all_eq_true,
    decide_eq_true_eq] at hc
  obtain ⟨-, -, -, hoff, hfault⟩ := hc
  have ho := hoff g hg
  have hf := hfault g hg
  revert ho hf
  generalize (s.seg g).lineState = l
  cases l <;> simp [LineState.usable]

theorem takeHold (s : State) (i : SlotId) (r : Ring) (named : SegSet) (hr : r ≠ 0) (h : (s.slot i).state = .fetching)
    (hf : legal → FreshArrival s i) : EngineMove legal s (s.takeHold i r named) := by
  unfold State.takeHold
  split
  · exact refuse s _
  · rename_i hc
    have hlive : Acceptance (fun _ => False) legal r i s
        (s.modSlot i fun t => { t with state := .live, progress := some (.hold { own := 0, granted := 0 }) }) :=
      .live s _ h (by exact rfl) (by exact rfl) fun hl => ⟨hf hl, by exact ⟨rfl, rfl, rfl, rfl⟩⟩
    refine .trans (.accept hlive) (.trans (holdSegments i r hr _ _ fun g hg => ?_) (.work (.checkHoldGranted _ i trivial)))
    exact usable_of_holdChecks hc hg

/-! #### The whole of acceptance -/

theorem withSegment (s : State) (i : SlotId) (b : Byte) (f : Seg → State) (h : ∀ g, EngineMove legal s (f g)) :
    EngineMove legal s (s.withSegment i b f) := ite (fun _ => h _) fun _ => refuse s _

open Acceptance in
theorem takeOperation (s : State) (i : SlotId) (r : Ring) (args : OpArgs) (hr : isAdmin args = true → r = 0)
    (hh : ∀ named, args = .hold named → r ≠ 0) (h : (s.slot i).state = .fetching) (hf : legal → FreshArrival s i)
    (hd : legal → DispatchLegal s) : EngineMove legal s (s.takeOperation i r args) := by
  have hrest (hown : ∀ g, ¬ runsOn args g) : EngineMove legal s (s.takeOperation i r args) :=
    .accept (Acceptance.takeOperation (r := r) s r args hr hown h hf hd)
  cases args with
  | hold named => exact takeHold s i r named (hh named rfl) h hf
  | segStart b => exact withSegment s i b _ fun g => startSegment s h hf g
  | segStop b => exact withSegment s i b _ fun g => stopRequest s h hf g
  | segReset b =>
    have hreset (g : Seg) : EngineMove legal s ((s.resetSegment g).answer i (.outcome .ok)) := .trans (.reset s g) (answer (s.resetSegment g) _)
    exact withSegment s i b (fun g => (s.resetSegment g).answer i (.outcome .ok)) hreset
  | segSleep b => exact withSegment s i b _ fun g => sleepRequest s h hf g
  | segWake b => exact withSegment s i b _ fun g => wakeRequest s h hf g
  | _ => exact hrest fun _ => id

end EngineMove

/-- A HOLD is no request of ring 0 (R9). -/
theorem not_admin_of_hold {k : Kind} {record : Record} {named : SegSet} {r : Ring} (h : argsOf k record = some (.hold named))
    (hk : k.allowedOn r = true) : r ≠ 0 := by
  cases k <;> simp only [argsOf, Option.some.injEq, reduceCtorEq] at h
  simpa [Kind.allowedOn] using hk

end Sys2Proof.Machine
end

/-! ### Segment records stay legal (R60, R78, R81, R82, R91, R92, R94) -/

section
namespace Sys2Proof.Machine

theorem SegmentsLegal.of_segs {s t : State} (k : SegmentsLegal s) (h : t.segs = s.segs) : SegmentsLegal t := by
  intro g
  rw [State.seg_of_segs h]
  exact k g

theorem SegmentsLegal.eases {s t : State} (k : SegmentsLegal s) (h : ∀ g, (s.seg g).Eases (t.seg g)) : SegmentsLegal t :=
  fun g => (k g).eases (h g)

/-- Work on the segments of `own`, whose records are legal after it. -/
theorem SegmentsLegal.of_work {own : Seg → Prop} {who : SlotId → Prop} {s t : State} (k : SegmentsLegal s)
    (h : Work own who False s t) (hown : ∀ g, own g → SegmentLegal (t.seg g)) : SegmentsLegal t := by
  intro g
  by_cases hg : own g
  · exact hown g hg
  · exact h.segLegal hg (k g)

theorem SegmentsLegal.setSeg {s : State} (k : SegmentsLegal s) (g : Seg) {x : Segment} (hx : SegmentLegal x) : SegmentsLegal (s.setSeg g x) := by
  intro j
  rw [State.seg_setSeg]
  split
  · exact hx
  · exact k j

theorem segs_deleteCq (s : State) (c : Cq) : (s.deleteCq c).segs = s.segs := by
  unfold State.deleteCq
  rw [State.withdrawWrite_eq]
  exact (HostSide.discardPostings (s.setCq c CompletionRing.empty) _).segs

/-- Acceptance changes no record of a segment that it does not run on but for its configuration. -/
theorem Acceptance.segmentsLegal {legal : Prop} {r : Ring} {i : SlotId} {s t : State} (h : Acceptance (fun _ => False) legal r i s t)
    (k : SegmentsLegal s) : SegmentsLegal t := by
  induction h with
  | work h => exact k.eases fun g => h.eases id
  | trans _ _ h₁ h₂ => exact h₂ (h₁ k)
  | deleting s q _ _ =>
    rw [State.markDiscard_eq]
    exact k
  | deleteCq s c _ => exact k.of_segs (segs_deleteCq s c)
  | config s g c => exact k.setSeg g { k g with }
  | live | createRing | deleted | createCq | map | limits => exact k

theorem Segment.mayStart_iff {x : Segment} (h : x.mayStart = true) : x.lineState = .active ∧ x.phase = .idle := by
  simp only [Segment.mayStart, Bool.and_eq_true, decide_eq_true_eq] at h
  exact h.1.1

/-- Every move of the engines leaves the segment records legal. -/
theorem EngineMove.segmentsLegal {legal : Prop} {s t : State} (h : EngineMove legal s t) (k : SegmentsLegal s) : SegmentsLegal t := by
  induction h with
  | trans _ _ h₁ h₂ => exact h₂ (h₁ k)
  | work h => exact k.eases fun g => h.eases id
  | accept h => exact h.segmentsLegal k
  | record s g y _ h => exact k.setSeg g (h (k g)).1
  | operation s g y op status hc h =>
    have hw : Work (fun j => j = g) (fun _ => True) False s ((s.setSeg g y).endOp g op status) :=
      (Work.ownSeg s g y (by exact rfl) hc).trans (Work.endOp (by exact rfl) _ op status)
    refine k.of_work hw ?_
    rintro _ rfl
    rw [State.seg_endOp, State.seg_setSeg_self]
    exact (h (k _)).1
  | pick s g i hm _ =>
    refine k.of_work (Work.pickLeg (own := fun j => j = g) (who := fun _ => True) rfl s i False.elim) ?_
    rintro _ rfl
    obtain ⟨ha, hp⟩ := Segment.mayStart_iff hm
    unfold State.pickLeg
    split
    · unfold State.startFrame
      rw [State.modSeg_eq, State.seg_setSeg_self]
      exact (k _).frameStarted ha hp _ _ _
    · exact k _
  | endFrame s g o bytes =>
    refine k.of_work (Work.endFrame (own := fun j => j = g) (who := fun _ => True) rfl s o bytes False.elim) ?_
    rintro _ rfl
    exact (k _).endFrame o bytes
  | fault s g why =>
    refine k.of_work (Work.enterFaulted (own := fun j => j = g) (who := fun _ => True) rfl s why False.elim) ?_
    rintro _ rfl
    exact .enterFaulted s _ why
  | stop s g h =>
    refine k.of_work (Work.actStop (own := fun j => j = g) (who := fun _ => True) rfl s False.elim) ?_
    rintro _ rfl
    unfold Segment.stopMayAct at h
    simp only [Bool.and_eq_true] at h
    exact .actStop h.1.1
  | halt s g _ hop =>
    refine k.of_work (Work.stopSegment (own := fun j => j = g) (who := fun _ => True) rfl s False.elim) ?_
    rintro _ rfl
    exact .stopSegment hop
  | reset s g =>
    refine k.of_work (Work.resetSegment (own := fun j => j = g) (who := fun _ => True) rfl s False.elim) ?_
    rintro _ rfl
    exact .resetSegment s _

theorem SegmentsLegal.refreshIdle {s : State} (k : SegmentsLegal s) : SegmentsLegal s.refreshIdle := by
  intro g
  rw [State.seg_refreshIdle]
  exact { k g with }

theorem SegmentsLegal.of_reset {s t : State} (h : WasReset s t) : SegmentsLegal t := by
  intro g
  rcases h.segs g with e | e <;> rw [e]
  · exact .cold
  · exact Segment.Quiet.legal (l := .off) ⟨rfl, ⟨rfl, rfl, rfl⟩, rfl, rfl, rfl, rfl⟩ (.inl rfl) rfl rfl

theorem SegmentsLegal.arrive {s : State} (k : SegmentsLegal s) (i : SlotId) (r : Ring) (record : Record) :
    SegmentsLegal (s.arrive i r record) := k

theorem SegmentsLegal.checkRecord {s : State} (k : SegmentsLegal s) {i : SlotId} (hs : (s.slot i).state = .fetching) (r : Ring)
    (record : Record) : SegmentsLegal (s.checkRecord i r record) := by
  rcases Acceptance.checkRecord_cases (i := i) (r := r) s record with ⟨status, e⟩ | ⟨kind, e⟩ | ⟨kind, args, hk, ha, e⟩ <;> rw [e]
  · exact (EngineMove.refuse (legal := False) s status).segmentsLegal k
  · rcases Acceptance.acceptExchange_cases (i := i) s kind record with ⟨status, e⟩ | ⟨entry, route, -, -, e⟩ <;> rw [e]
    · exact (EngineMove.refuse (legal := False) s status).segmentsLegal k
    · exact (Acceptance.launch (own := fun _ => False) (r := r) s kind record _ route hs).segmentsLegal k
  · have hargs : SegmentsLegal (s.setSlot i { s.slot i with args := some args }) := k
    refine (EngineMove.takeOperation (legal := False) _ i r args (Acceptance.isAdmin_argsOf ha hk)
      (fun named e => not_admin_of_hold (e ▸ ha) hk) ?_ False.elim False.elim).segmentsLegal hargs
    rw [State.slot_setSlot_self]
    exact hs

theorem SegmentsLegal.accept {s : State} (k : SegmentsLegal s) (i : SlotId) (record : Record) : SegmentsLegal (s.accept i record) := by
  unfold State.accept
  split
  · rename_i r hs _
    refine (k.arrive i r record).checkRecord ?_ r record
    rw [State.slot_arrive_self]
    exact hs
  · exact k

/-- A command of the dispatcher that runs on no one segment's record does work; one of an engine makes its moves. -/
theorem exec_engine_cases {c : Instr} (hc : isWork c = true) {legal : Prop} {s t : State} (h : exec c s = .next t)
    (hd : legal → DispatchLegal s) : t = s ∨ ∃ u, EngineMove legal s u ∧ t = u.refreshIdle := by
  have hrun : EngineMove.Runs legal s (exec c s) := by
    cases ho : ownSegment c with
    | none => exact EngineMove.of_works (exec_works hc (own := fun _ => False) (by rw [ho]; nofun) s hd)
    | some g => exact EngineMove.commands ho s
  rcases hrun with h' | ⟨u, hu, h'⟩
  · exact .inl (Host.Outcome.next.inj (h.symm.trans h'))
  · exact .inr ⟨u, hu, Host.Outcome.next.inj (h.symm.trans h')⟩

theorem exec_keeps_segmentsLegal (c : Instr) (s t : State) (hs : SegmentsLegal s) (h : exec c s = .next t) : SegmentsLegal t := by
  rcases instr_cases c with hc | hc | rfl | ⟨data, rfl⟩
  · rcases exec_engine_cases (legal := False) hc h False.elim with rfl | ⟨u, hu, rfl⟩
    · exact hs
    · exact (hu.segmentsLegal hs).refreshIdle
  · rcases exec_host_cases hc h with hk | hk
    · exact hs.of_segs hk.segs
    · exact .of_reset hk
  · exact Host.Outcome.next.inj h ▸ hs.of_segs (s.grantIf_linesKept true).segs
  · rcases exec_fetchComplete_cases h with rfl | ⟨f, -, ⟨-, rfl⟩ | ⟨-, u, hu, hk⟩⟩
    · exact hs
    · have hk := (((HostSide.fetchEnded s).trans (.freeSlotFrom _ .fetching f.slot)).toLinesKept).trans (State.grantIf_linesKept _ data.granted)
      exact hs.of_segs hk.segs
    · have hu : SegmentsLegal u := by
        rw [hu]
        exact SegmentsLegal.of_segs (s := s.fetchEnded.modRing f.ring RequestRing.consume) hs (State.grantIf_linesKept _ data.granted).segs
      rcases hk with ⟨-, rfl⟩ | rfl
      · exact (hu.accept f.slot data.record).refreshIdle
      · exact hu.refreshIdle

/-- Settles O5: every change of a record is one of the engines' moves, each of which leaves it legal. -/
theorem stepKeepsSegmentRecordsLegal : Obligations.StepKeepsSegmentRecordsLegal :=
  fun _ _ hs h => step_keeps (P := SegmentsLegal) (fun _ _ h => h) exec_keeps_segmentsLegal hs h

end Sys2Proof.Machine
end

/-! ### ON_WIRE legs and the frames in progress (R81) -/

section
namespace Sys2Proof.Machine

/-- The legs on segment `g` that are ON_WIRE, and what its record carries, are the same in `s` and `t`. -/
def SameWire (g : Seg) (s t : State) : Prop := ∀ i, (LegOnWire t g i ↔ LegOnWire s g i) ∧ ((t.seg g).Carries i ↔ (s.seg g).Carries i)

theorem SameWire.refl (g : Seg) (s : State) : SameWire g s s := fun _ => ⟨Iff.rfl, Iff.rfl⟩

theorem SameWire.trans {g : Seg} {s t u : State} (h : SameWire g s t) (k : SameWire g t u) : SameWire g s u :=
  fun i => ⟨(k i).1.trans (h i).1, (k i).2.trans (h i).2⟩

theorem SameWire.agree {g : Seg} {s t : State} (h : SameWire g s t) (k : ∀ i, LegOnWire s g i ↔ (s.seg g).Carries i) (i : SlotId) :
    LegOnWire t g i ↔ (t.seg g).Carries i := (h i).1.trans ((k i).trans (h i).2.symm)

theorem Segment.Eases.carries {x y : Segment} (h : x.Eases y) (i : SlotId) : y.Carries i ↔ x.Carries i := by
  have hf : y.frame = x.frame := by rw [h.rest]
  unfold Segment.Carries
  rw [hf]

/-- One slot changed, and it has the same legs ON_WIRE on segment `g`. -/
theorem SameWire.of_slot {g : Seg} {s t : State} {i : SlotId} (hne : ∀ j, j ≠ i → t.slot j = s.slot j)
    (hi : LegOnWire t g i ↔ LegOnWire s g i) (hg : (s.seg g).Eases (t.seg g)) : SameWire g s t := by
  intro j
  refine ⟨?_, hg.carries j⟩
  by_cases h : j = i
  · rw [h]; exact hi
  · unfold LegOnWire
    rw [hne j h]

theorem SameWire.of_slots {g : Seg} {s t : State} (h : t.slots = s.slots) (hg : (s.seg g).Eases (t.seg g)) : SameWire g s t :=
  .of_slot (i := 0) (fun j _ => State.slot_of_slots h j) (by unfold LegOnWire; rw [State.slot_of_slots h]) hg

/-- Slot `i` has no leg ON_WIRE before or after. -/
theorem SameWire.none_onWire {g : Seg} {s t : State} {i : SlotId} (hne : ∀ j, j ≠ i → t.slot j = s.slot j)
    (hs : ¬ LegOnWire s g i) (ht : ¬ LegOnWire t g i) (hg : (s.seg g).Eases (t.seg g)) : SameWire g s t :=
  .of_slot hne (iff_of_false ht hs) hg

theorem slots_postNotice (s : State) (c : Cq) (n : Notice) : (s.postNotice c n).slots = s.slots := by
  rw [State.postNotice_eq]
  split
  · rfl
  · split <;> rfl

/-! #### Answers and ends -/

theorem not_live_postSlot {s : State} {i : SlotId} (h : (s.slot i).state ≠ .live) : ((s.postSlot i).slot i).state ≠ .live := by
  have hfree : ((s.freeSlot i).slot i).state ≠ .live := by
    unfold State.freeSlot
    rw [State.slot_setSlot_self]
    nofun
  unfold State.postSlot
  split
  · exact hfree
  · split
    · exact h
    · exact hfree

theorem SameWire.completeSlot {s : State} {i : SlotId} (r : Result) (hi : (s.slot i).state = .live → ∀ l ∈ (s.slot i).legs, l.state = .finished)
    (g : Seg) : SameWire g s (s.completeSlot i r) := by
  refine .none_onWire (i := i) (fun j hj => slot_completeSlot_of_ne s (Ne.symm hj) r) ?_ ?_ (.of_segs (State.segs_completeSlot s i r) g)
  · rintro ⟨hlive, l, hl, -, hw⟩
    rw [hi hlive l hl] at hw
    cases hw
  · unfold State.completeSlot
    split
    · refine fun hw => not_live_postSlot ?_ hw.1
      rw [State.modSlot_eq, State.slot_setSlot_self]
      nofun
    · rename_i hn
      exact fun hw => hn (.inr hw.1)

theorem SameWire.answerResult {s : State} (hd : DispatchLegal s) (i : SlotId) (r : Result) (g : Seg) : SameWire g s (s.answerResult i r) := by
  unfold State.answerResult
  split
  · rename_i hx
    refine .completeSlot r (fun _ l hl => ?_) g
    rw [(hd.legs i).noExchange (Option.isNone_iff_eq_none.1 hx)] at hl
    cases hl
  · exact .refl g s

theorem SameWire.checkDone (s : State) (i : SlotId) (g : Seg) : SameWire g s (s.checkDone i) := by
  unfold State.checkDone
  split
  · exact .refl g s
  · split
    · rename_i hd
      exact .completeSlot _ (fun _ l hl => of_decide_eq_true (List.all_eq_true.1 hd.2 l hl)) g
    · exact .refl g s

/-! #### Legs -/

/-- No leg of the slot on `g` stays ON_WIRE when the ones there are changed to another state. -/
theorem not_onWire_mapLeg (t : Slot) (g : Seg) {f : Leg → Leg} (hf : ∀ l, (f l).state ≠ .onWire) : ¬ (t.mapLeg g f).HasLeg g .onWire := by
  rintro ⟨m, hm, hseg, hst⟩
  obtain ⟨l, -, rfl⟩ := List.mem_map.1 hm
  by_cases hl : l.segment = g
  · rw [if_pos hl] at hst
    exact hf l hst
  · rw [if_neg hl] at hseg
    exact hl hseg

/-- The legs of a slot that wait on `k` may change to any state other than ON_WIRE. -/
theorem onWire_mapLeg {t : Slot} (k g : Seg) {f : Leg → Leg} (hf : ∀ l, (f l).state ≠ .onWire) (hk : k = g → ¬ t.HasLeg g .onWire) :
    (t.mapLeg k f).HasLeg g .onWire ↔ t.HasLeg g .onWire := by
  by_cases hkg : k = g
  · subst hkg
    exact iff_of_false (not_onWire_mapLeg t k hf) (hk rfl)
  · constructor
    · rintro ⟨m, hm, hseg, hst⟩
      obtain ⟨l, hl, rfl⟩ := List.mem_map.1 hm
      by_cases hlk : l.segment = k
      · rw [if_pos hlk] at hst
        exact absurd hst (hf l)
      · rw [if_neg hlk] at hseg hst
        exact ⟨l, hl, hseg, hst⟩
    · rintro ⟨l, hl, hseg, hst⟩
      exact ⟨l, List.mem_map.2 ⟨l, hl, if_neg fun e => hkg (e.symm.trans hseg)⟩, hseg, hst⟩

theorem slot_setSlot_onWire {s : State} {i : SlotId} {x : Slot} {g : Seg} (hs : x.state = (s.slot i).state)
    (hx : x.HasLeg g .onWire ↔ (s.slot i).HasLeg g .onWire) : SameWire g s (s.setSlot i x) := by
  refine .of_slot (i := i) (fun j hj => State.slot_setSlot_of_ne _ _ _ _ hj.symm) ?_ (.refl _)
  rw [legOnWire_iff, legOnWire_iff, State.slot_setSlot_self, hs, hx]

/-- Legs on `k` leave for another state than ON_WIRE, where none is ON_WIRE or `k` is not the segment in question. -/
theorem SameWire.mapLeg (s : State) (i : SlotId) {k g : Seg} {f : Leg → Leg} (hf : ∀ l, (f l).state ≠ .onWire)
    (hk : k = g → ¬ (s.slot i).HasLeg g .onWire) (x : Slot) (hx : x = { (s.slot i).mapLeg k f with failoverUsed := x.failoverUsed }) :
    SameWire g s (s.setSlot i x) := by
  refine slot_setSlot_onWire (by rw [hx]; rfl) ?_
  rw [hx]
  exact onWire_mapLeg k g hf hk

theorem SameWire.leaveQueue (s : State) (i : SlotId) (k g : Seg) : SameWire g s (s.leaveQueue i k) := .of_slots rfl (.refl _)

theorem SameWire.joinQueue (s : State) (i : SlotId) (k g : Seg) : SameWire g s (s.joinQueue i k) :=
  .of_slots (State.slots_joinQueue s i k) ((LegOp.join (own := fun _ => False) (legal := False) s i k id).eases g)

theorem SameWire.finishLeg (s : State) (i : SlotId) {k g : Seg} (o : LegOutcome) (hk : k = g → ¬ (s.slot i).HasLeg g .onWire) :
    SameWire g s (s.finishLeg i k o) :=
  (SameWire.mapLeg s i (f := fun l => l.finish o) (fun _ => nofun) hk _ rfl).trans (.checkDone _ i g)

theorem SameWire.failover (s : State) (i : SlotId) {k g : Seg} (b : Seg) (hk : k = g → ¬ (s.slot i).HasLeg g .onWire) :
    SameWire g s (s.failover i k b) :=
  (SameWire.mapLeg s i (f := fun l => { l with segment := b, path := some .secondary, retriesLeft := (s.slot i).retryBudget, state := .waiting })
    (fun _ => nofun) hk _ rfl).trans (.joinQueue _ i b g)

theorem SameWire.setSeg_of_ne (s : State) {k g : Seg} (hk : k ≠ g) (x : Segment) : SameWire g s (s.setSeg k x) :=
  .of_slots rfl (by rw [State.seg_setSeg_of_ne _ _ _ _ hk]; exact .refl _)

theorem SameWire.retry (s : State) (i : SlotId) {k g : Seg} (hk : k ≠ g) : SameWire g s (s.retry i k) :=
  ((SameWire.mapLeg s i (f := fun l => { l with retriesLeft := l.retriesLeft - 1, state := .waiting }) (fun _ => nofun)
    (fun e => absurd e hk) _ rfl).trans (.setSeg_of_ne _ hk _)).trans (.joinQueue _ i k g)

theorem LegWaits.not_onWire {s : State} (hd : DispatchLegal s) {k g : Seg} {i : SlotId} (h : LegWaits s k i) (hk : k = g) :
    ¬ (s.slot i).HasLeg g .onWire := by
  subst hk
  intro hw
  cases (hd.legs i).hasLeg_state h.2 hw

/-- A leg operation changes what is ON_WIRE on segments of `own` only. -/
theorem LegOp.sameWire {own : Seg → Prop} {legal : Prop} {s t : State} (h : LegOp own legal s t) (hl : legal) (hd : DispatchLegal s) {g : Seg}
    (hg : ¬ own g) : SameWire g s t := by
  cases h with
  | checkDone i => exact .checkDone s i g
  | leaveQueue i k _ => exact .leaveQueue s i k g
  | finishWaiting i k o h => exact (SameWire.leaveQueue s i k g).trans (.finishLeg (s.leaveQueue i k) i o ((h hl).not_onWire hd))
  | displace i k b h _ => exact (SameWire.leaveQueue s i k g).trans (.failover (s.leaveQueue i k) i b ((h hl).not_onWire hd))
  | finishLeg i k o hk _ => exact .finishLeg s i o fun e => absurd (e ▸ hk) hg
  | failover i k b hk _ _ => exact .failover s i b fun e => absurd (e ▸ hk) hg
  | retry i k hk _ => exact .retry s i fun e => hg (e ▸ hk)
  | pick i k hk _ =>
    have hkg : k ≠ g := fun e => hg (e ▸ hk)
    refine (SameWire.leaveQueue s i k g).trans (slot_setSlot_onWire (by rfl) ?_)
    exact hasLeg_mapLeg_of_ne _ hkg (by exact fun _ => rfl) _
  | join i k h => exact absurd hl h

/-- Work changes what is ON_WIRE on segments of `own` only, and the frames there. -/
theorem Work.sameWire {own : Seg → Prop} {who : SlotId → Prop} {s t : State} (h : Work own who True s t) (hd : DispatchLegal s) {g : Seg}
    (hg : ¬ own g) : SameWire g s t := by
  induction h with
  | refl s => exact .refl g s
  | trans h _ h₁ h₂ => exact (h₁ hd).trans (h₂ (h.dispatch (fun _ => hd) trivial))
  | slot s i x hk hl _ =>
    refine slot_setSlot_onWire hk.1 ?_
    unfold Slot.HasLeg
    rw [hl]
  | ownSeg s k x hk _ => exact .setSeg_of_ne s (fun (e : k = g) => hg (e ▸ hk)) x
  | seg s k x hx => exact .of_slots rfl ((Work.seg (own := fun _ => False) (who := fun _ => False) (legal := False) s k x hx).eases id)
  | notice s c n => exact .of_slots (slots_postNotice s c n) (.of_segs (State.segs_postNotice s c n) g)
  | answerResult s i r _ => exact .answerResult hd i r g
  | legOp h => exact h.sameWire trivial hd hg

end Sys2Proof.Machine
end

/-! ### Frames and legs after the engines' moves (R81) -/

section
namespace Sys2Proof.Machine

theorem FramesLegal.of_same {s t : State} (h : FramesLegal s) (k : ∀ g, SameWire g s t) : FramesLegal t :=
  fun g => (k g).agree (h g)

/-- Work on one segment, where legs and frame agree after it. -/
theorem FramesLegal.of_work {s t : State} {g : Seg} {who : SlotId → Prop} (h : FramesLegal s) (hd : DispatchLegal s)
    (hw : Work (fun j => j = g) who True s t) (hg : ∀ i, LegOnWire t g i ↔ (t.seg g).Carries i) : FramesLegal t := by
  intro k
  by_cases hk : k = g
  · rw [hk]; exact hg
  · exact (hw.sameWire hd (by exact hk)).agree (h k)

theorem FramesLegal.work {s t : State} {who : SlotId → Prop} (h : FramesLegal s) (hd : DispatchLegal s)
    (hw : Work (fun _ => False) who True s t) : FramesLegal t := h.of_same fun _ => hw.sameWire hd id

/-- A record is replaced by one that carries the same. -/
theorem FramesLegal.setSeg {s : State} (h : FramesLegal s) {g : Seg} {y : Segment} (hy : ∀ i, y.Carries i ↔ (s.seg g).Carries i) :
    FramesLegal (s.setSeg g y) := by
  intro k i
  rw [State.seg_setSeg]
  split
  · rename_i e
    subst e
    exact (h g i).trans (hy i).symm
  · exact h k i

theorem FramesLegal.endPendingOp {s : State} (h : FramesLegal s) (hd : DispatchLegal s) (g : Seg) (status : Status) :
    FramesLegal (s.endPendingOp g status) := by
  unfold State.endPendingOp
  split
  · exact h
  · have hset : FramesLegal (s.setSeg g { s.seg g with pendingOp := none }) := h.setSeg fun _ => Iff.rfl
    dsimp only
    split
    · exact hset.work (hd.setSeg g _) (.answer (who := fun _ => True) _ _ _ (.inl trivial))
    · exact hset

theorem FramesLegal.endOp {s : State} (h : FramesLegal s) (hd : DispatchLegal s) (g : Seg) (op : SegOp) (status : Status) :
    FramesLegal (s.endOp g op status) := by
  unfold State.endOp
  split
  · split
    · exact h.endPendingOp hd g status
    · exact h
  · exact h

/-! #### The end of a frame -/

theorem not_onWire_finishLeg (s : State) (i : SlotId) (g : Seg) (o : LegOutcome) : ¬ LegOnWire (s.finishLeg i g o) g i := by
  rw [State.finishLeg, (SameWire.checkDone _ i g i).1, legOnWire_iff, State.modSlot_eq, State.slot_setSlot_self]
  exact fun h => not_onWire_mapLeg (s.slot i) g (f := fun l => l.finish o) (fun _ => nofun) h.2

/-- However the dispatcher decides, the leg is off the wire. -/
theorem not_onWire_applyDecision (s : State) (i : SlotId) (g : Seg) (bytes : List Byte) (d : LegDecision) :
    ¬ LegOnWire (s.applyDecision i g bytes d) g i := by
  cases d with
  | finishLate => exact not_onWire_finishLeg _ i g .ok
  | finishOk => exact not_onWire_finishLeg _ i g .ok
  | finish o => exact not_onWire_finishLeg s i g o
  | retry =>
    unfold State.applyDecision State.retry
    rw [(SameWire.joinQueue _ i g g i).1, legOnWire_iff, State.modSeg_eq, State.slot_setSeg, State.modSlot_eq, State.slot_setSlot_self]
    exact fun h => not_onWire_mapLeg (s.slot i) g (f := fun l => { l with retriesLeft := l.retriesLeft - 1, state := .waiting })
      (fun _ => nofun) h.2
  | failover b =>
    unfold State.applyDecision State.failover
    rw [(SameWire.joinQueue _ i b g i).1, legOnWire_iff, State.modSlot_eq, State.slot_setSlot_self]
    exact fun h => not_onWire_mapLeg (s.slot i) g (f := fun l =>
      { l with segment := b, path := some .secondary, retriesLeft := (s.slot i).retryBudget, state := .waiting }) (fun _ => nofun) h.2

theorem slot_applyDecision_of_ne (s : State) {i j : SlotId} (h : i ≠ j) (g : Seg) (bytes : List Byte) (d : LegDecision) :
    (s.applyDecision i g bytes d).slot j = s.slot j := by
  cases d with
  | finishLate => 
    unfold State.applyDecision State.finishOk
    rw [slot_finishLeg_of_ne _ h, State.modSlot_eq, State.slot_setSlot_of_ne _ _ _ _ h, State.modSlot_eq, State.slot_setSlot_of_ne _ _ _ _ h]
  | finishOk =>
    unfold State.applyDecision State.finishOk
    rw [slot_finishLeg_of_ne _ h, State.modSlot_eq, State.slot_setSlot_of_ne _ _ _ _ h]
  | finish o => exact slot_finishLeg_of_ne s h g o
  | retry =>
    unfold State.applyDecision State.retry
    rw [State.slot_joinQueue, State.modSeg_eq, State.slot_setSeg, State.modSlot_eq, State.slot_setSlot_of_ne _ _ _ _ h]
  | failover b => exact slot_failover_of_ne s h g b

/-- The frame in progress was exchange `i`'s: with its leg decided no leg on the segment is ON_WIRE. -/
theorem not_onWire_legFrameEnded {s : State} (hd : DispatchLegal s) {g : Seg} {i : SlotId} (honly : ∀ j, LegOnWire s g j ↔ j = i)
    (o : LegOutcome) (bytes : List Byte) (j : SlotId) : ¬ LegOnWire (s.legFrameEnded i g o bytes) g j := by
  have hw : LegOnWire s g i := (honly i).2 rfl
  unfold State.legFrameEnded
  split
  · rename_i l hl
    have hstate : l.state = .onWire := by
      obtain ⟨hmem, hseg⟩ := Slot.legOn_eq_some hl
      exact ((hd.legs i).hasLeg_state hw.2 ⟨l, hmem, hseg, rfl⟩).symm
    rw [if_pos hstate]
    by_cases hj : j = i
    · rw [hj]
      exact not_onWire_applyDecision _ i g bytes _
    · rw [legOnWire_iff, slot_applyDecision_of_ne _ (Ne.symm hj), State.modSlot_eq, State.slot_setSlot_of_ne _ _ _ _ (Ne.symm hj)]
      exact fun h => hj ((honly j).1 h)
  · rename_i hn
    exact absurd hn (Slot.HasLeg.legOn_ne_none hw.2)

theorem FramesLegal.frameEnded {s : State} (h : FramesLegal s) (hd : DispatchLegal s) {g : Seg} {i : SlotId} (hc : (s.seg g).Carries i)
    (y : Segment) (hy : y.frame = none) (hcfg : y.configured = (s.seg g).configured ∧ y.config = (s.seg g).config) (o : LegOutcome)
    (bytes : List Byte) : FramesLegal ((s.setSeg g y).legFrameEnded i g o bytes) := by
  have hw : Work (fun j => j = g) (fun _ => True) True s ((s.setSeg g y).legFrameEnded i g o bytes) :=
    (Work.ownSeg s g y (by exact rfl) hcfg).trans (.legFrameEnded (by exact rfl) _ i o bytes fun _ => hd.setSeg g y)
  have honly (j : SlotId) : LegOnWire (s.setSeg g y) g j ↔ j = i := by
    refine (h g j).trans ⟨?_, ?_⟩
    · rintro ⟨f, hf, hfj⟩
      obtain ⟨f', hf', hfi⟩ := hc
      obtain rfl := Option.some.inj (hf.symm.trans hf')
      rw [hfj] at hfi
      exact Carrier.exchange.inj hfi
    · rintro rfl
      exact hc
  refine h.of_work hd hw fun j => iff_of_false (not_onWire_legFrameEnded (hd.setSeg g y) honly o bytes j) ?_
  rw [(State.eases_legFrameEnded (s.setSeg g y) i g o bytes g).carries, State.seg_setSeg_self]
  exact Segment.not_carries_of_none hy j

theorem FramesLegal.enterDormant {s : State} (h : FramesLegal s) (hd : DispatchLegal s) (g : Seg) (o : DormancyOrigin) :
    FramesLegal (s.enterDormant g o) := by
  have hset : FramesLegal (s.setSeg g { s.seg g with lineState := .dormant, phase := .idle, phaseBits := none }) := h.setSeg fun _ => Iff.rfl
  have hrest (t : State) (ht : FramesLegal t) (hdt : DispatchLegal t) :
      FramesLegal ((t.endOp g .sleep (.outcome .ok)).wakeOnDemand g) := by
    have hop : Work (fun j => j = g) (fun _ => True) True t (t.endOp g .sleep (.outcome .ok)) := .endOp (by exact rfl) _ _ _
    exact (ht.endOp hdt g _ _).work (hop.dispatch (fun _ => hdt) trivial) (.wakeOnDemand (who := fun _ => True) _ g)
  unfold State.enterDormant
  cases o with
  | idleTimer =>
    have hdset := hd.setSeg g { s.seg g with lineState := .dormant, phase := .idle, phaseBits := none }
    exact hrest _ (hset.work hdset (.notice (who := fun _ => True) _ _ _)) (hdset.postNotice _ _)
  | sleep => exact hrest _ hset (hd.setSeg g _)

theorem FramesLegal.dormancyEnded {s : State} (h : FramesLegal s) (hd : DispatchLegal s) (g : Seg) (d : DormancyOrigin) (o : LegOutcome) :
    FramesLegal (s.dormancyEnded g d o) := by
  unfold State.dormancyEnded
  split
  · exact h
  · split
    · exact h.enterDormant hd g d
    · cases d with
      | idleTimer => exact h
      | sleep => exact h.endOp hd g _ _

/-- A dormancy command's frame carries no exchange. -/
theorem Segment.not_carries_of_dormancy {x : Segment} {f : Frame} {d : DormancyOrigin} (hf : x.frame = some f) (hc : f.carrier = .dormancy d)
    (i : SlotId) : ¬ x.Carries i := by
  rintro ⟨f', hf', hi⟩
  obtain rfl := Option.some.inj (hf.symm.trans hf')
  rw [hc] at hi
  cases hi

theorem FramesLegal.setFrameless {s : State} (h : FramesLegal s) {g : Seg} {y : Segment} (hy : y.frame = none)
    (hn : ∀ i, ¬ (s.seg g).Carries i) : FramesLegal (s.setSeg g y) :=
  h.setSeg fun i => iff_of_false (Segment.not_carries_of_none hy i) (hn i)

theorem FramesLegal.endFrame {s : State} (h : FramesLegal s) (hd : DispatchLegal s) (g : Seg) (o : LegOutcome) (bytes : List Byte) :
    FramesLegal (s.endFrame g o bytes) := by
  have hy : (((s.seg g).countFrame o).enterGuard).frame = none := rfl
  unfold State.endFrame
  split
  · exact h
  · rename_i f hf
    dsimp only
    split
    · rename_i i hc
      exact h.frameEnded hd ⟨f, hf, hc⟩ _ hy (Segment.countFrame_config _ _) o bytes
    · rename_i d hc
      exact (h.setFrameless hy (Segment.not_carries_of_dormancy hf hc)).dormancyEnded (hd.setSeg g _) g d o

theorem FramesLegal.cutFrame {s : State} (h : FramesLegal s) (hd : DispatchLegal s) (g : Seg) (cause : LegOutcome) :
    FramesLegal (s.cutFrame g cause) := by
  have hcfg : ((s.seg g).countFrame cause).configured = (s.seg g).configured ∧ ((s.seg g).countFrame cause).config = (s.seg g).config := by
    unfold Segment.countFrame
    split <;> exact ⟨rfl, rfl⟩
  unfold State.cutFrame
  split
  · exact h
  · rename_i f hf
    dsimp only
    split
    · rename_i i hc
      exact h.frameEnded hd ⟨f, hf, hc⟩ { (s.seg g).countFrame cause with frame := none, pendingOutcome := none, line := .released } rfl
        hcfg cause []
    · rename_i d hc
      exact h.setFrameless rfl (Segment.not_carries_of_dormancy hf hc)

theorem frame_cutFrame (s : State) (g : Seg) (cause : LegOutcome) : ((s.cutFrame g cause).seg g).frame = none := by
  have hset (y : Segment) (hy : y.frame = none) : ((s.setSeg g y).seg g).frame = none := by
    rw [State.seg_setSeg_self]
    exact hy
  unfold State.cutFrame
  split
  · assumption
  · dsimp only
    split
    · rw [(State.eases_legFrameEnded _ _ _ _ _ _).rest]
      exact hset _ rfl
    · exact hset _ rfl

theorem FramesLegal.enterFaulted {s : State} (h : FramesLegal s) (hd : DispatchLegal s) (g : Seg) (why : FaultReason) :
    FramesLegal (s.enterFaulted g why) := by
  have hdcut : DispatchLegal (s.cutFrame g .segmentFault) :=
    (Work.cutFrame (own := fun j => j = g) (who := fun _ => True) (legal := True) (by exact rfl) s _ fun _ => hd).dispatch (fun _ => hd) trivial
  obtain ⟨t, u, ht, hu, hfaulted⟩ := s.enterFaulted_eq g why
  have hset : FramesLegal t := ht ▸ (h.cutFrame hd g .segmentFault).setFrameless rfl (Segment.not_carries_of_none (frame_cutFrame s g _))
  have hdset : DispatchLegal t := ht ▸ hdcut.setSeg g _
  have hdu : DispatchLegal u := hu ▸ hdset.postNotice _ _
  have hfu : FramesLegal u := hu ▸ hset.work hdset (.notice (who := fun _ => True) _ _ _)
  have hw : Work (fun _ => False) (fun _ => True) True u ((u.displaceQueue g .segmentFault).loseHold g .fault) :=
    .trans (.displaceQueue u g _ fun _ => hdu) (.loseHold _ g _)
  rw [hfaulted]
  exact (hfu.work hdu hw).endPendingOp (hw.dispatch (fun _ => hdu) trivial) g _

theorem FramesLegal.stopSegment {s : State} (h : FramesLegal s) (hd : DispatchLegal s) {g : Seg} (hf : (s.seg g).frame = none) :
    FramesLegal (s.stopSegment g) := by
  have hset : FramesLegal (s.modSeg g Segment.quiet) := h.setFrameless rfl (Segment.not_carries_of_none hf)
  have hdset : DispatchLegal (s.modSeg g Segment.quiet) := hd.setSeg g _
  have hw : Work (fun _ => False) (fun _ => True) True (s.modSeg g Segment.quiet)
      (((s.modSeg g Segment.quiet).displaceQueue g .segmentStopped).loseHold g .stopped) :=
    .trans (.displaceQueue _ g _ fun _ => hdset) (.loseHold _ g _)
  have hframe : ((((s.modSeg g Segment.quiet).displaceQueue g .segmentStopped).loseHold g .stopped).seg g).frame = none := by
    rw [(hw.eases id).rest, State.modSeg_eq, State.seg_setSeg_self]
    rfl
  exact (hset.work hdset hw).setFrameless rfl (Segment.not_carries_of_none hframe)

theorem FramesLegal.resetSegment {s : State} (h : FramesLegal s) (hd : DispatchLegal s) (g : Seg) : FramesLegal (s.resetSegment g) := by
  have hdcut : DispatchLegal (s.cutFrame g .segmentReset) :=
    (Work.cutFrame (own := fun j => j = g) (who := fun _ => True) (legal := True) (by exact rfl) s _ fun _ => hd).dispatch (fun _ => hd) trivial
  obtain ⟨u, hu⟩ : ∃ u, u = (s.cutFrame g .segmentReset).modSeg g Segment.quiet := ⟨_, rfl⟩
  have hset : FramesLegal u := hu ▸ (h.cutFrame hd g .segmentReset).setFrameless rfl (Segment.not_carries_of_none (frame_cutFrame s g _))
  have hdset : DispatchLegal u := hu ▸ hdcut.setSeg g _
  have hw : Work (fun _ => False) (fun _ => True) True u ((u.displaceQueue g .segmentReset).loseHold g .reset) :=
    .trans (.displaceQueue _ g _ fun _ => hdset) (.loseHold _ g _)
  have hend := (hset.work hdset hw).endPendingOp (hw.dispatch (fun _ => hdset) trivial) g (.outcome .segmentReset)
  have hframe : ((((u.displaceQueue g .segmentReset).loseHold g .reset).endPendingOp g (.outcome .segmentReset)).seg g).frame = none := by
    rw [State.seg_endPendingOp]
    change (((u.displaceQueue g .segmentReset).loseHold g .reset).seg g).frame = none
    rw [(hw.eases id).rest, hu, State.modSeg_eq, State.seg_setSeg_self]
    rfl
  have hreset : s.resetSegment g = (((u.displaceQueue g .segmentReset).loseHold g .reset).endPendingOp g (.outcome .segmentReset)).modSeg g
      fun x => { x.quiet with lineState := .off } := by rw [hu]; rfl
  rw [hreset]
  exact hend.setFrameless rfl (Segment.not_carries_of_none hframe)

/-! #### The pick -/

/-- The picked leg is ON_WIRE, and its frame in progress. -/
theorem FramesLegal.pickLeg {s : State} (h : FramesLegal s) (hd : DispatchLegal s) {g : Seg} {i : SlotId} (hf : (s.seg g).frame = none)
    (hi : LegWaits s g i) : FramesLegal (s.pickLeg g i) := by
  refine h.of_work hd (.pickLeg (who := fun _ => True) (by exact rfl) s i fun _ => hi) fun j => ?_
  obtain ⟨hlive, l, hl, hseg, hst⟩ := hi
  cases hx : (s.slot i).exchange with
  | none =>
    rw [(hd.legs i).noExchange hx] at hl
    cases hl
  | some x =>
    have hpick : s.pickLeg g i = ((s.leaveQueue i g).modSlot i fun t => t.mapLeg g fun l => l.picked g).startFrame g
        (exchangeFrame i x (s.slot i).payload) := by
      unfold State.pickLeg
      rw [hx]
    have hseg' : ((s.pickLeg g i).seg g).Carries j ↔ j = i := by
      rw [hpick, State.startFrame, State.modSeg_eq, State.seg_setSeg_self]
      constructor
      · rintro ⟨f, hf, hc⟩
        obtain rfl := Option.some.inj hf
        exact (Carrier.exchange.inj hc).symm
      · rintro rfl
        exact ⟨_, rfl, rfl⟩
    have hslot (j : SlotId) : (s.pickLeg g i).slot j = if i = j then (s.slot i).mapLeg g fun l => l.picked g else s.slot j := by
      rw [hpick]
      exact State.slot_setSlot _ _ _ _
    rw [hseg', legOnWire_iff, hslot]
    by_cases hj : i = j
    · subst hj
      rw [if_pos rfl]
      exact iff_of_true ⟨hlive, (hasLeg_mapLeg_self _ g (by exact fun _ => rfl) _).2 ⟨l, hl, hseg, rfl⟩⟩ rfl
    · rw [if_neg hj]
      exact iff_of_false (fun hw => Segment.not_carries_of_none hf j ((h g j).1 hw)) (Ne.symm hj)

end Sys2Proof.Machine
end

/-! ### Every step keeps one frame for each leg ON_WIRE (R81) -/

section
namespace Sys2Proof.Machine

/-- Moves of the engines keep legs and frames in agreement. -/
theorem EngineMove.dispatch {s t : State} (h : EngineMove True s t) (k : DispatchLegal s) : DispatchLegal t := by
  have hwork {g : Seg} {s t : State} (k : DispatchLegal s) (h : Work (fun j => j = g) (fun _ => True) True s t) : DispatchLegal t :=
    h.dispatch (fun _ => k) trivial
  induction h with
  | trans _ _ h₁ h₂ => exact h₂ (h₁ k)
  | work h => exact h.dispatch (fun _ => k) trivial
  | accept h => exact h.dispatch (fun _ => k) trivial
  | record s g y _ _ => exact k.setSeg g y
  | operation s g y op status hc _ => exact hwork (g := g) (k.setSeg g y) (.endOp (by exact rfl) _ op status)
  | pick s g i _ hi => exact hwork (g := g) k (.pickLeg (by exact rfl) s i fun _ => (k.queued g i).1 hi)
  | endFrame s g o bytes => exact hwork (g := g) k (.endFrame (by exact rfl) s o bytes fun _ => k)
  | fault s g why => exact hwork (g := g) k (.enterFaulted (by exact rfl) s why fun _ => k)
  | stop s g _ => exact hwork (g := g) k (.actStop (by exact rfl) s fun _ => k)
  | halt s g _ _ => exact hwork (g := g) k (.stopSegment (by exact rfl) s fun _ => k)
  | reset s g => exact hwork (g := g) k (.resetSegment (by exact rfl) s fun _ => k)

/-- A slot that is not LIVE has no leg ON_WIRE, before it is LIVE or after. -/
theorem SameWire.setSlot {s : State} {i : SlotId} {x : Slot} (hs : (s.slot i).state ≠ .live)
    (hx : x.state = .live → ∀ l ∈ x.legs, l.state ≠ .onWire) (g : Seg) : SameWire g s (s.setSlot i x) := by
  refine .none_onWire (i := i) (fun j hj => State.slot_setSlot_of_ne _ _ _ _ hj.symm) (fun h => hs h.1) ?_ (.refl _)
  rintro ⟨hl, l, hmem, -, hw⟩
  rw [State.slot_setSlot_self] at hl hmem
  exact hx hl l hmem hw

theorem SameWire.freeSlotFrom (s : State) {st : SlotState} (hst : st ≠ .live) (i : SlotId) (g : Seg) :
    SameWire g s (s.freeSlotFrom st i) := by
  unfold State.freeSlotFrom
  split
  · rename_i hs
    exact .setSlot (by rw [hs]; exact hst) (by exact nofun) g
  · exact .refl g s

theorem SameWire.discardPostings (s : State) (l : List Posting) (g : Seg) : SameWire g s (s.discardPostings l) := by
  induction l generalizing s with
  | nil => exact .refl g s
  | cons p l ih =>
    cases p with
    | slot i => exact (SameWire.freeSlotFrom s (by decide) i g).trans (ih _)
    | notice n => exact ih s

theorem SameWire.of_eq {s t : State} (hs : t.slots = s.slots) (hg : t.segs = s.segs) (g : Seg) : SameWire g s t :=
  .of_slots hs (.of_segs hg g)

theorem SameWire.deleteCq (s : State) (c : Cq) (g : Seg) : SameWire g s (s.deleteCq c) := by
  unfold State.deleteCq
  rw [State.withdrawWrite_eq]
  exact (SameWire.of_eq (t := s.setCq c CompletionRing.empty) rfl rfl g).trans
    ((SameWire.discardPostings _ (s.cq c).backlog g).trans (.of_eq rfl rfl g))

/-- What acceptance does besides an exchange changes nothing on a wire. -/
theorem Acceptance.sameWire {r : Ring} {i : SlotId} {s t : State} (h : Acceptance (fun _ => False) True r i s t) (hd : DispatchLegal s)
    (g : Seg) : SameWire g s t := by
  induction h with
  | work h => exact h.sameWire hd id
  | trans h _ h₁ h₂ => exact (h₁ hd).trans (h₂ (h.dispatch (fun _ => hd) trivial))
  | live s x hs _ _ hl =>
    obtain ⟨-, -, -, hlegs, -⟩ := hl trivial
    have hn : (s.slot i).state ≠ .live := by rw [hs]; nofun
    refine .setSlot hn (fun _ l hl hw => ?_) g
    rw [hlegs] at hl
    rw [(hd.legs i).ended hn l hl] at hw
    cases hw
  | deleting s q _ _ =>
    rw [State.markDiscard_eq]
    exact .of_eq rfl rfl g
  | deleteCq s c _ => exact .deleteCq s c g
  | config s k c =>
    intro j
    refine ⟨Iff.rfl, ?_⟩
    rw [State.seg_setSeg]
    split
    · rename_i e; rw [← e]; exact Iff.rfl
    · exact Iff.rfl
  | createRing | deleted | createCq | map | limits => exact .of_eq rfl rfl g

theorem EngineMove.framesLegal {s t : State} (h : EngineMove True s t) (hs : SegmentsLegal s) (hd : DispatchLegal s) (hf : FramesLegal s) :
    FramesLegal t := by
  induction h with
  | trans h _ h₁ h₂ => exact h₂ (h.segmentsLegal hs) (h.dispatch hd) (h₁ hs hd hf)
  | work h => exact hf.work hd h
  | accept h => exact hf.of_same fun g => h.sameWire hd g
  | record s g y _ h => exact hf.setSeg (h (hs g)).2
  | operation s g y op status _ h => exact (hf.setSeg (h (hs g)).2).endOp (hd.setSeg g y) g op status
  | pick s g i hm hi =>
    obtain ⟨-, hp⟩ := Segment.mayStart_iff hm
    exact hf.pickLeg hd ((hs g).frameInPhase.2 (.inl hp)) ((hd.queued g i).1 hi)
  | endFrame s g o bytes => exact hf.endFrame hd g o bytes
  | fault s g why => exact hf.enterFaulted hd g why
  | stop s g h =>
    unfold Segment.stopMayAct at h
    simp only [Bool.and_eq_true, Option.isNone_iff_eq_none] at h
    have hstop : Work (fun j => j = g) (fun _ => True) True s (s.stopSegment g) := .stopSegment (by exact rfl) s fun _ => hd
    exact (hf.stopSegment hd h.1.2).endOp (hstop.dispatch (fun _ => hd) trivial) g _ _
  | halt s g hn _ => exact hf.stopSegment hd (hn (hs g))
  | reset s g => exact hf.resetSegment hd g

/-! #### The host side, grants and arrivals -/

theorem HostMove.sameWire {s t : State} (h : HostMove s t) (hd : DispatchLegal s) (g : Seg) : SameWire g s t := by
  induction h with
  | trans h _ h₁ h₂ => exact (h₁ hd).trans (h₂ (h.dispatchLegal hd))
  | side h _ hs => exact .of_eq hs h.segs g
  | free s st i hst => exact .freeSlotFrom s hst i g
  | notice s c n => exact .of_eq (slots_postNotice s c n) (State.segs_postNotice s c n) g
  | answerResult s i r => exact .answerResult hd i r g
  | producer | failed | deleted | broughtUp | cq | request => exact .of_eq rfl rfl g

theorem FramesLegal.of_reset {s t : State} (h : WasReset s t) : FramesLegal t := by
  intro g i
  refine iff_of_false ?_ (Segment.not_carries_of_none ?_ i)
  · rintro ⟨hl, -⟩
    rw [h.slots i] at hl
    cases hl
  · rcases h.segs g with e | e <;> rw [e] <;> rfl

theorem SameWire.grantIf (s : State) (granted : Bool) (g : Seg) : SameWire g s (s.grantIf granted) := by
  rcases s.grantIf_cases granted with e | ⟨gr, i, -, -, hi, e⟩ <;> rw [e]
  · exact .refl g s
  · have hfree : (s.slot i).state = .free := of_decide_eq_true (List.find?_some (p := fun i => (s.slot i).state = .free) hi)
    have hset : SameWire g s (s.setSlot i { Slot.empty with state := .fetching, ring := some gr.ring }) :=
      .setSlot (by rw [hfree]; nofun) (fun hl => by cases hl) g
    exact hset.trans (.of_eq rfl rfl g)

/-- No leg of a route is ON_WIRE. -/
theorem State.pathChoice_not_onWire {s : State} {e : MapEntry} {n : Nat} {route : Route} (h : s.pathChoice e n = .ok route) :
    ∀ l ∈ route.legs, l.state ≠ .onWire := by
  have hfan (g : Seg) (x : LineState) : (fanLeg g x n).state ≠ .onWire := by cases x <;> nofun
  have hwaiting (g : Seg) (p : Option Path) (l : Leg) (hl : l ∈ [waitingLeg g p n]) : l.state ≠ .onWire := by
    rw [List.mem_singleton.1 hl]
    nofun
  unfold State.pathChoice at h
  split at h
  · split at h <;> cases h <;> exact hwaiting _ _
  · split at h
    · cases h
      exact hwaiting _ _
    · split at h
      · cases h
        exact hwaiting _ _
      · cases h
  · cases h
    intro l hl
    obtain ⟨g, -, rfl⟩ := List.mem_map.1 hl
    exact hfan _ _

theorem SameWire.launch {s : State} {i : SlotId} (hs : (s.slot i).state ≠ .live) {route : Route} (hr : ∀ l ∈ route.legs, l.state ≠ .onWire)
    (k : Kind) (record : Record) (id : Nat) (g : Seg) : SameWire g s (s.launch i k record id route) := by
  have hjoin (gs : List Seg) (u : State) : SameWire g u (gs.foldl (fun s g => s.joinQueue i g) u) := by
    induction gs generalizing u with
    | nil => exact .refl g u
    | cons k gs ih => exact (SameWire.joinQueue u i k g).trans (ih _)
  rw [State.launch_eq]
  exact ((SameWire.setSlot hs (fun _ => hr) g).trans (hjoin _ _)).trans (.checkDone _ i g)

theorem FramesLegal.checkRecord {s : State} (hf : FramesLegal s) (hs : SegmentsLegal s) (hd : DispatchLegal s) {i : SlotId}
    (hi : (s.slot i).state = .fetching) (ha : FreshArrival s i) (r : Ring) (record : Record) : FramesLegal (s.checkRecord i r record) := by
  rcases Acceptance.checkRecord_cases (i := i) (r := r) s record with ⟨status, e⟩ | ⟨kind, e⟩ | ⟨kind, args, hk, hargs, e⟩ <;> rw [e]
  · exact (EngineMove.refuse s status).framesLegal hs hd hf
  · rcases Acceptance.acceptExchange_cases (i := i) s kind record with ⟨status, e⟩ | ⟨entry, route, hroute, -, e⟩ <;> rw [e]
    · exact (EngineMove.refuse s status).framesLegal hs hd hf
    · exact hf.of_same fun g => .launch (by rw [hi]; nofun) (State.pathChoice_not_onWire hroute) kind record _ g
  · have hw : Work (fun _ => False) (fun _ => True) True s (s.setSlot i { s.slot i with args := some args }) :=
      .minor s i _ ⟨rfl, rfl, rfl, rfl, rfl, rfl⟩ rfl rfl
    have hslot : (s.setSlot i { s.slot i with args := some args }).slot i = { s.slot i with args := some args } :=
      State.slot_setSlot_self _ _ _
    have hd' := hw.dispatch (fun _ => hd) trivial
    refine (EngineMove.takeOperation _ i r args (Acceptance.isAdmin_argsOf hargs hk)
      (fun named e => not_admin_of_hold (e ▸ hargs) hk) ?_ (fun _ => ?_) fun _ => hd').framesLegal (by exact hs) hd' (hf.work hd hw)
    · rw [hslot]; exact hi
    · obtain ⟨hn, hne⟩ := ha
      refine ⟨by rw [hslot]; exact hn, fun j hj => ?_⟩
      rw [hslot, State.slot_setSlot_of_ne _ _ _ _ hj.symm]
      exact hne j hj

theorem FramesLegal.accept {s : State} (hf : FramesLegal s) (hs : SegmentsLegal s) (hd : DispatchLegal s) (i : SlotId) (record : Record) :
    FramesLegal (s.accept i record) := by
  unfold State.accept
  split
  · rename_i r hi _
    obtain ⟨hd', ha⟩ := hd.arrive hi r record
    have hsame (g : Seg) : SameWire g s (s.arrive i r record) := by
      refine .none_onWire (i := i) (fun j hj => State.slot_arrive_of_ne s hj.symm r record) ?_ ?_ (.refl _)
      · exact fun hw => by cases hi.symm.trans hw.1
      · rw [legOnWire_iff, State.slot_arrive_self]
        exact fun hw => by cases hi.symm.trans hw.1
    refine FramesLegal.checkRecord (hf.of_same hsame) (hs.arrive i r record) hd' ?_ ha r record
    rw [State.slot_arrive_self]
    exact hi
  · exact hf

theorem FramesLegal.refreshIdle {s : State} (h : FramesLegal s) : FramesLegal s.refreshIdle := by
  intro g i
  rw [State.seg_refreshIdle]
  exact h g i

/-- Segment records, queues and frames in agreement (R38, R60, R81). -/
structure EnginesLegal (s : State) : Prop where
  segments : SegmentsLegal s
  dispatch : DispatchLegal s
  frames : FramesLegal s

theorem exec_keeps_framesLegal (c : Instr) (s t : State) (hs : EnginesLegal s) (h : exec c s = .next t) : FramesLegal t := by
  obtain ⟨hseg, hd, hf⟩ := hs
  rcases instr_cases c with hc | hc | rfl | ⟨data, rfl⟩
  · rcases exec_engine_cases (legal := True) hc h fun _ => hd with rfl | ⟨u, hu, rfl⟩
    · exact hf
    · exact (hu.framesLegal hseg hd hf).refreshIdle
  · rcases exec_host_moves hc h with hk | hk
    · exact hf.of_same fun g => hk.sameWire hd g
    · exact .of_reset hk
  · exact Host.Outcome.next.inj h ▸ hf.of_same fun g => .grantIf s true g
  · have hended (g : Seg) : SameWire g s s.fetchEnded := .of_eq rfl rfl g
    have hdended : DispatchLegal s.fetchEnded := hd.of_eq rfl rfl rfl rfl
    rcases exec_fetchComplete_cases h with rfl | ⟨f, -, ⟨-, rfl⟩ | ⟨-, u, hu, hk⟩⟩
    · exact hf
    · exact hf.of_same fun g => ((hended g).trans (.freeSlotFrom _ (by decide) f.slot g)).trans (.grantIf _ data.granted g)
    · have hcons : DispatchLegal (s.fetchEnded.modRing f.ring RequestRing.consume) := hdended.of_eq rfl rfl rfl rfl
      have hdu : DispatchLegal u := hu ▸ hcons.grantIf _
      have hfu : FramesLegal u := hu ▸ hf.of_same fun g => ((hended g).trans (.of_eq rfl rfl g)).trans (.grantIf _ data.granted g)
      have hsu : SegmentsLegal u := by
        rw [hu]
        exact SegmentsLegal.of_segs (s := s.fetchEnded.modRing f.ring RequestRing.consume) hseg (State.grantIf_linesKept _ data.granted).segs
      rcases hk with ⟨-, rfl⟩ | rfl
      · exact (hfu.accept hsu hdu f.slot data.record).refreshIdle
      · exact hfu.refreshIdle

/-- Settles O10: what leaves or joins the wire does so with the frame that carries it. -/
theorem stepKeepsOneFrameForEachLegOnWire : Obligations.StepKeepsOneFrameForEachLegOnWire := by
  intro s t hs hd hf h
  unfold step at h
  split at h
  · exact Host.Outcome.next.inj h ▸ hf
  · rename_i c rest _
    exact exec_keeps_framesLegal c { s with pending := rest } t ⟨hs, hd.of_eq rfl rfl rfl rfl, hf⟩ h

end Sys2Proof.Machine
end

/-! ### The resets and what they leave (R7, R161, R164) -/

section
namespace Sys2Proof.Machine

/-- Settles O3: each invariant holds after any reset, and the reset state is one. -/
theorem resetStateIsLegal : Obligations.ResetStateIsLegal := by
  have h : WasReset State.reset State.reset := .cold State.reset none
  have hentries (e : EntryId) : (State.reset.map.get e).kind = .pair → (State.reset.map.get e).segA ≠ (State.reset.map.get e).segB := by
    simp [State.map_reset, MapEntry.empty]
  exact ⟨.of_reset h, .of_reset h, .of_reset h, .of_reset h, .of_reset h, .of_reset h, .of_reset h hentries, .of_reset h⟩

/-- After a reset no ring is ERRORED: STATUS shows READY and ADMIN_FAULT alone. -/
theorem WasReset.status {s t : State} (h : WasReset s t) :
    t.status = BitVec.ofNat 32 (t.ready.toNat + 2 * t.adminFault.toNat) := by
  have hrings (r : Ring) : t.ringErrored r = false := by
    rw [State.ringErrored, State.rings_get, h.rings r]; rfl
  have hcqs (c : Cq) : t.cqErrored c = false := by
    rw [State.cqErrored, State.cqs_get, h.cqs c]; rfl
  simp [State.status, hrings, hcqs]

theorem State.messages_reset (c : Cq) : State.reset.msgPending.get c = false ∧ State.reset.msgHeld.get c = none := by
  simp [State.reset, Vector.get_eq_getElem]

/-- Settles O13: the cold values are those of `State.reset`, beside the link and the queue of commands. -/
theorem coldResetPutsColdValues : Obligations.ColdResetPutsColdValues := by
  intro s
  have h := WasReset.cold s (some .cold)
  exact ⟨_, rfl, h.slots, rfl, rfl, State.map_reset, h.queues, State.seg_reset, rfl, h.rings, rfl, rfl, rfl, h.cqs, rfl, rfl, rfl,
    h.status, rfl, rfl, rfl, rfl, rfl, rfl, State.messages_reset, rfl, rfl, rfl, _, rfl, rfl, (WasReset.cold s none).status⟩

/-- While a reset is in progress every register but STATUS reads 0 (R159). -/
theorem State.readRegister_of_resetting {s : State} {kind : ResetKind} (h : s.resetting = some kind) (hs : s.status = 0)
    (offset : Nat) : s.readRegister offset = 0 := by
  unfold State.readRegister
  split
  · rfl
  · exact hs
  · exact if_neg (by simp [State.not_ready_of_resetting h])

theorem exec_controlReset_of_ready {s : State} (h : s.resetting = none) : exec .controlReset s = .next s.beginFunctionReset := by
  change execControlReset s = _
  rw [execControlReset, State.startFunctionReset, h]

theorem exec_cqRelease_of_resetting {s : State} {kind : ResetKind} (h : s.resetting = some kind) (c : Cq) (v : Word) :
    exec (.cqRelease c v) s = .next s :=
  congrArg Host.Outcome.next (if_neg (by simp [State.not_ready_of_resetting h]))

/-- Settles O14: `State.beginFunctionReset` keeps the configuration, and with a reset in progress nothing is written or read. -/
theorem functionResetKeepsConfiguration : Obligations.FunctionResetKeepsConfiguration := by
  intro s hr
  have h := WasReset.function s
  have hend : WasReset s { s.beginFunctionReset with resetting := none } := ⟨h.1, h.2, h.3, h.4, h.5, h.6, h.7, h.8⟩
  have hstart := exec_controlReset_of_ready hr
  exact ⟨s.beginFunctionReset, hstart, hstart, h.slots, rfl, rfl, rfl, h.queues, s.seg_beginFunctionReset, rfl, h.rings, rfl, rfl, rfl,
    h.cqs, rfl, rfl, rfl, rfl, rfl, rfl, rfl, rfl, State.messages_reset, rfl, rfl, State.readRegister_of_resetting rfl h.status,
    exec_registerWrite_of_resetting rfl, exec_rqPost_of_resetting rfl, exec_cqRelease_of_resetting rfl, rfl, rfl,
    _, rfl, rfl, hend.status⟩

end Sys2Proof.Machine
end

/-! ### The register window: bring-up and ENABLE (R162, R163) -/

section
namespace Sys2Proof.Machine

theorem State.adminRegistersValid_iff (s : State) : s.adminRegistersValid = true ↔
    s.adminRqBase.toNat % 64 = 0 ∧ s.adminCqBase.toNat % 64 = 0 ∧
      s.adminSizes.toNat % 65536 ∈ [16, 32, 64, 128, 256, 512, 1024] ∧
      s.adminSizes.toNat / 65536 ∈ [16, 32, 64, 128, 256, 512, 1024, 2048, 4096] := by
  simp only [State.adminRegistersValid, aligned64, requestSizes, completionSizes, adminRqSize, adminCqSize, Bool.and_eq_true,
    beq_iff_eq, List.contains_iff_mem, and_assoc]

theorem exec_adminBringUp_of_ready {s : State} (hr : s.resetting = none) (he : s.enable = false) (hs : (s.ring 0).state = .unconfigured) :
    exec .adminBringUp s = .next s.bringUp :=
  congrArg Host.Outcome.next (if_pos ⟨s.ready_iff.2 hr, he, decide_eq_true hs⟩)

/-- A 32-bit write to CONTROL in a part that takes writes (R160). -/
theorem exec_writeControl {s : State} (hr : s.resetting = none) (v : BitVec 64) :
    exec (.registerWrite 0 .bits32 v) s = .next (s.writeControl (lowWord v)) := by
  change Host.Outcome.next (s.writeWord 0 (lowWord v)) = _
  rw [State.writeWord, if_neg (by simp [s.ready_iff.2 hr])]
  rfl

/-- A sum over the rings of which ring 0 alone has a share. -/
theorem sum_rings_of_admin {f : Ring → Nat} (h : ∀ r, r ≠ 0 → f r = 0) : ((List.finRange 8).map f).sum = f 0 := by
  rw [sum_rings]
  exact Finset.sum_eq_single 0 (fun r _ hr => h r hr) (by simp)

/-- Settles O15: the four checks are `State.adminRegistersValid_iff`; ring 0 is then the one ring with a reserve. -/
theorem bringUpChecksAdminRegisters : Obligations.BringUpChecksAdminRegisters := by
  intro s hr he hrings hslots
  have hexec : exec .adminBringUp s = .next s.bringUp := exec_adminBringUp_of_ready hr he (by rw [hrings 0]; rfl)
  have hbefore : s.beforeBringUp = true := by rw [State.beforeBringUp, hrings 0]; rfl
  have hcontrol : s.writeControl (lowWord 1) = s.bringUp := by
    simp [State.writeControl, controlResetBit, controlEnable, lowWord, he, hbefore]
  refine ⟨by rw [exec_writeControl hr, hcontrol, hexec], ?_⟩
  rw [hexec, State.bringUp]
  split
  next hv =>
    rw [if_pos (s.adminRegistersValid_iff.2 hv)]
    have hring (r : Ring) (h : r ≠ 0) : ((s.setRing 0 (RequestRing.created s.adminRingConfig)).ring r) = RequestRing.empty := by
      rw [State.ring_setRing_of_ne _ _ _ _ (Ne.symm h), hrings r]
    have hring0 := State.ring_setRing_self s 0 (RequestRing.created s.adminRingConfig)
    have hsum : (s.setRing 0 (RequestRing.created s.adminRingConfig)).reserveSum = 4 := by
      rw [State.reserveSum, sum_rings_of_admin fun r h => by rw [hring r h]; rfl, hring0]
      rfl
    refine ⟨_, rfl, ?_, ?_, ?_, hsum, ?_, ?_⟩
    · rw [State.ring_mk, State.rings_get, State.cq_mk, State.cqs_get, State.cq_setCq_self]
      exact congrArg (fun x : RequestRing => ({ (s.setRing 0 x).setCq 0 (CompletionRing.created s.adminCqConfig) with
        enable := true, adminFault := false } : State)) hring0.symm
    · exact hring0
    · exact State.cq_setCq_self _ 0 _
    · exact congrArg (64 - ·) hsum
    · have hpending : (RequestRing.created s.adminRingConfig).pendingCount = 0 := by
        simp [RequestRing.pendingCount, RequestRing.created, RequestRing.size, State.adminRingConfig]
      have hzero : State.eligible ({ (s.setRing 0 (RequestRing.created s.adminRingConfig)).setCq 0 (CompletionRing.created s.adminCqConfig)
          with enable := true, adminFault := false }) 0 = false := by
        rw [State.eligible, State.ring_mk]
        simp [hpending]
      exact hzero
  next hv => rw [if_neg (fun h => hv (s.adminRegistersValid_iff.1 h))]

/-- A CONTROL write without RESET compares its ENABLE with the present one (R162, R163). -/
theorem State.writeControl_of_no_reset {s : State} {v : Word} (h : controlResetBit v = false) : s.writeControl v =
    if controlEnable v = s.enable then s
    else if controlEnable v then (if s.beforeBringUp then s.bringUp else { s with enable := true })
    else { s with enable := false } := by
  rw [State.writeControl, if_neg (by simp [h])]

theorem State.eq_enable {s : State} {b : Bool} (h : s.enable = b) : s = { s with enable := b } := by rw [← h]

/-- Settles O16: a CONTROL write of the present ENABLE and one of the other both end in the ENABLE written. -/
theorem enableSwitchesGrantsOnly : Obligations.EnableSwitchesGrantsOnly := by
  intro s hr hs
  have hready : s.ready = true := s.ready_iff.2 hr
  have hbefore : s.beforeBringUp = false := decide_eq_false hs
  have hset : exec .enableSet s = .next { s with enable := true } := congrArg Host.Outcome.next (if_pos ⟨hready, hbefore⟩)
  have hclear : exec .enableClear s = .next { s with enable := false } := congrArg Host.Outcome.next (if_pos hready)
  have hone : s.writeControl (lowWord 1) = { s with enable := true } := by
    rw [State.writeControl_of_no_reset rfl, hbefore, show controlEnable (lowWord 1) = true from rfl]
    exact ite_eq_right_iff.2 fun he => State.eq_enable he.symm
  have hzero : s.writeControl (lowWord 0) = { s with enable := false } := by
    rw [State.writeControl_of_no_reset rfl, show controlEnable (lowWord 0) = false from rfl]
    exact ite_eq_right_iff.2 fun he => State.eq_enable he.symm
  refine ⟨hset, hclear, ?_, ?_, fun r => ?_⟩
  · rw [exec_writeControl hr, hone, hset]
  · rw [exec_writeControl hr, hzero, hclear]
  · simp [State.eligible]

end Sys2Proof.Machine
end

/-! ### The register window: writes and reads (R159 to R161, R173) -/

section
namespace Sys2Proof.Machine

theorem registerAt_cqRelease (c : Cq) : registerAt (0x200 + 4 * c.val) = some (.cqRelease c) := by
  revert c
  decide

/-- An offset that is none of the registers' holds none. -/
theorem registerAt_of_none {offset : Nat} (hadmin : offset ∉ [0x000, 0x004, 0x010, 0x014, 0x018, 0x01C, 0x020])
    (hrq : ∀ r : Ring, offset ≠ 0x100 + 4 * r.val) (hcq : ∀ c : Cq, offset ≠ 0x200 + 4 * c.val) : registerAt offset = none := by
  simp only [List.mem_cons, List.not_mem_nil, or_false, not_or] at hadmin
  obtain ⟨h0, h1, h2, h3, h4, h5, h6⟩ := hadmin
  have hr : ¬ (offset % 4 = 0 ∧ 0x100 ≤ offset ∧ offset < 0x120) := fun ⟨h, hl, hu⟩ =>
    hrq ⟨(offset - 0x100) / 4, by omega⟩ (by simp only; omega)
  have hc : ¬ (offset % 4 = 0 ∧ 0x200 ≤ offset ∧ offset < 0x210) := fun ⟨h, hl, hu⟩ =>
    hcq ⟨(offset - 0x200) / 4, by omega⟩ (by simp only; omega)
  simp only [registerAt, h0, h1, h2, h3, h4, h5, h6, hr, hc, if_false]

/-! #### Writes -/

theorem exec_registerWrite_32 (s : State) (offset : Nat) (v : BitVec 64) :
    exec (.registerWrite offset .bits32 v) s = .next (s.writeWord offset (lowWord v)) := rfl

theorem exec_registerWrite_64 (s : State) (offset : Nat) (v : BitVec 64) :
    exec (.registerWrite offset .bits64 v) s = .next ((s.writeWord offset (lowWord v)).writeWord (offset + 4) (highWord v)) := rfl

section
variable {s : State} (hr : s.resetting = none)
include hr

theorem State.writeWord_none {offset : Nat} (h : registerAt offset = none) (v : Word) : s.writeWord offset v = s := by
  rw [State.writeWord, if_neg (by simp [s.ready_iff.2 hr]), h]

theorem State.writeWord_status (v : Word) : s.writeWord 0x004 v = s := by
  rw [State.writeWord, if_neg (by simp [s.ready_iff.2 hr])]
  rfl

theorem State.writeWord_rqPost (r : Ring) (v : Word) : s.writeWord (0x100 + 4 * r.val) v = s.postProducer r v := by
  rw [State.writeWord, if_neg (by simp [s.ready_iff.2 hr]), registerAt_rqPost]

theorem State.writeWord_cqRelease (c : Cq) (v : Word) : s.writeWord (0x200 + 4 * c.val) v = s.releaseEntries c v := by
  rw [State.writeWord, if_neg (by simp [s.ready_iff.2 hr]), registerAt_cqRelease]

/-- The admin registers, taken as they are written (R160). -/
theorem State.writeWord_admin (h : s.adminWritable = true) (v : Word) :
    s.writeWord 0x010 v = { s with adminRqBase := withLowWord s.adminRqBase v } ∧
    s.writeWord 0x014 v = { s with adminRqBase := withHighWord s.adminRqBase v } ∧
    s.writeWord 0x018 v = { s with adminCqBase := withLowWord s.adminCqBase v } ∧
    s.writeWord 0x01C v = { s with adminCqBase := withHighWord s.adminCqBase v } ∧
    s.writeWord 0x020 v = { s with adminSizes := v } := by
  have hready : ¬ s.ready = false := by simp [s.ready_iff.2 hr]
  simp only [State.writeWord, if_neg hready]
  exact ⟨if_pos h, if_pos h, if_pos h, if_pos h, if_pos h⟩

/-- The admin registers once they are taken no longer (R160). -/
theorem State.writeWord_admin_ignored (h : ¬ s.adminWritable = true) {offset : Nat}
    (ho : offset ∈ [0x010, 0x014, 0x018, 0x01C, 0x020]) (v : Word) : s.writeWord offset v = s := by
  have hready : ¬ s.ready = false := by simp [s.ready_iff.2 hr]
  simp only [List.mem_cons, List.not_mem_nil, or_false] at ho
  rcases ho with rfl | rfl | rfl | rfl | rfl <;> exact (if_neg hready).trans (if_neg h)

end

theorem State.adminWritable_iff (s : State) : s.adminWritable = true ↔ s.enable = false ∧ (s.ring 0).state = .unconfigured := by
  simp [State.adminWritable, State.beforeBringUp]

theorem lowWord_withLowWord (a : Addr) (v : Word) : lowWord (withLowWord a v) = v := by
  apply BitVec.eq_of_getLsbD_eq
  intro i hi
  simp only [lowWord, withLowWord, BitVec.getLsbD_setWidth, BitVec.getLsbD_append, hi, decide_true, Bool.true_and, if_true]

/-- A register written as two words holds the value written. -/
theorem withHighWord_withLowWord (a : Addr) (v : BitVec 64) : withHighWord (withLowWord a (lowWord v)) (highWord v) = v := by
  rw [withHighWord, lowWord_withLowWord]
  apply BitVec.eq_of_getLsbD_eq
  intro i hi
  simp only [BitVec.getLsbD_append, lowWord, highWord, BitVec.getLsbD_setWidth, BitVec.getLsbD_ushiftRight]
  by_cases h : i < 32
  · simp [h]
  · rw [if_neg h, show 32 + (i - 32) = i by omega]
    simp [show i - 32 < 32 by omega]

/-- Settles O19. -/
theorem registerWritesByWidthAndOffset : Obligations.RegisterWritesByWidthAndOffset := by
  refine ⟨fun s offset v => ⟨rfl, rfl, _, rfl, rfl⟩, fun s offset v hr => ⟨?_, ?_, ?_, ?_⟩, fun s v hr => ?_⟩
  · rintro ⟨hadmin, hrq, hcq⟩
    rw [exec_registerWrite_32]
    by_cases h4 : offset = 0x004
    · rw [h4, State.writeWord_status hr]
    · have hnone : offset ∉ [0x000, 0x004, 0x010, 0x014, 0x018, 0x01C, 0x020] := by simp_all
      rw [State.writeWord_none hr (registerAt_of_none hnone hrq hcq)]
  · intro r
    rw [exec_registerWrite_32, State.writeWord_rqPost hr, exec_rqPost_of_ready hr]
    rfl
  · intro c
    rw [exec_registerWrite_32, State.writeWord_cqRelease hr, exec_cqRelease_of_ready hr]
    rfl
  · intro hv
    rw [exec_writeControl hr, State.writeControl, if_pos (by simpa [controlResetBit, lowWord] using hv)]
    rfl
  · intro open_
    refine ⟨fun ho => ?_, fun ho offset hoff => ?_⟩
    · have hw := s.adminWritable_iff.2 ho
      obtain ⟨h10, h14, h18, h1C, h20⟩ := State.writeWord_admin hr hw (lowWord v)
      obtain ⟨-, k14, -, -, -⟩ := State.writeWord_admin (s := { s with adminRqBase := withLowWord s.adminRqBase (lowWord v) }) hr hw (highWord v)
      obtain ⟨-, -, -, k1C, -⟩ := State.writeWord_admin (s := { s with adminCqBase := withLowWord s.adminCqBase (lowWord v) }) hr hw (highWord v)
      simp only [exec_registerWrite_32, exec_registerWrite_64, h10, h14, h18, h1C, h20, k14, k1C, withHighWord_withLowWord,
        true_and]
      exact ⟨rfl, rfl, rfl, rfl, rfl⟩
    · rw [exec_registerWrite_32, State.writeWord_admin_ignored hr (fun h => ho (s.adminWritable_iff.1 h)) hoff]

/-! #### Reads -/

/-- The bytes of a field, as a record or a narrow read gives them. -/
theorem byteOf_word {n : Nat} (w : BitVec n) (j : Nat) : byteOf (w.toNat / 256 ^ j) = (w >>> (8 * j)).setWidth 8 := by
  apply BitVec.eq_of_toNat_eq
  simp only [byteOf, BitVec.toNat_ofNat, BitVec.toNat_setWidth, BitVec.toNat_ushiftRight, Nat.shiftRight_eq_div_pow, pow_mul]
  norm_num

theorem State.readByte_of_aligned (s : State) {offset j : Nat} (h : offset % 4 = 0) (hj : j < 4) :
    s.readByte (offset + j) = (s.readRegister offset >>> (8 * j)).setWidth 8 := by
  have hm : (offset + j) % 4 = j := by omega
  rw [State.readByte, hm, Nat.add_sub_cancel, byteOf_word]

theorem State.readWindow_of_aligned (s : State) {offset : Nat} (h : offset % 4 = 0) : s.readWindow offset 4 =
    [(s.readRegister offset).setWidth 8, (s.readRegister offset >>> 8).setWidth 8, (s.readRegister offset >>> 16).setWidth 8,
      (s.readRegister offset >>> 24).setWidth 8] := by
  have hb (j : Nat) (hj : j < 4) := s.readByte_of_aligned h hj
  simp only [State.readWindow, List.range_succ, List.range_zero, List.nil_append, List.map_cons, List.map_nil,
    List.cons_append, hb 0 (by omega), hb 1 (by omega), hb 2 (by omega), hb 3 (by omega)]
  simp

/-- A narrower read is a part of the word's. -/
theorem State.readWindow_part (s : State) (offset : Nat) {k n : Nat} (h : k + n ≤ 4) :
    s.readWindow (offset + k) n = ((s.readWindow offset 4).drop k).take n := by
  have hrange : List.drop k (List.range (k + n)) = (List.range n).map fun i => k + i := by
    rw [List.range_eq_range', List.drop_range', Nat.add_sub_cancel_left, Nat.mul_one, Nat.zero_add, List.range'_eq_map_range]
  rw [State.readWindow, State.readWindow, ← List.map_drop, ← List.map_take, List.take_drop, List.take_range, min_eq_left h, hrange,
    List.map_map]
  simp only [Function.comp_def, Nat.add_assoc]

theorem State.readWindow_double (s : State) (offset : Nat) :
    s.readWindow offset 8 = s.readWindow offset 4 ++ s.readWindow (offset + 4) 4 := by
  simp only [State.readWindow, show (8 : Nat) = 4 + 4 from rfl, List.range_add, List.map_append, List.map_map]
  simp [Function.comp_def, Nat.add_assoc]

/-- Weighted bits add up to the number they spell. -/
theorem sum_weighted_bits (k : Nat) : ∀ {n : Nat} (f : Fin n → Bool),
    ((List.finRange n).map fun i => 2 ^ (k + i.val) * (f i).toNat).sum = 2 ^ k * Nat.ofBits f
  | 0, _ => rfl
  | n + 1, f => by
    have ih := sum_weighted_bits (k + 1) (f ∘ Fin.succ)
    rw [List.finRange_succ, List.map_cons, List.map_map, List.sum_cons, Nat.ofBits_succ]
    have hshift : ((List.finRange n).map ((fun i : Fin (n + 1) => 2 ^ (k + i.val) * (f i).toNat) ∘ Fin.succ)).sum =
        2 ^ (k + 1) * Nat.ofBits (f ∘ Fin.succ) := by
      rw [← ih]
      congr 2
      funext i
      simp [Function.comp, Nat.add_assoc, Nat.add_comm 1]
    rw [hshift]
    simp only [Fin.val_zero, Nat.add_zero, pow_succ]
    ring

/-- STATUS as one number of disjoint fields (R161). -/
theorem State.status_eq (s : State) : s.status = BitVec.ofNat 32
    (2 ^ 8 * (2 ^ 8 * Nat.ofBits s.cqErrored + Nat.ofBits s.ringErrored) + (2 ^ 1 * s.adminFault.toNat + s.ready.toNat)) := by
  rw [State.status, sum_weighted_bits 8, sum_weighted_bits 16]
  congr 1
  ring

theorem State.status_getLsbD (s : State) (n : Fin 32) : s.status.getLsbD n.val =
    if n.val = 0 then s.ready
    else if n.val = 1 then s.adminFault
    else if h : 8 ≤ n.val ∧ n.val < 16 then s.ringErrored ⟨n.val - 8, by omega⟩
    else if h : 16 ≤ n.val ∧ n.val < 20 then s.cqErrored ⟨n.val - 16, by omega⟩
    else false := by
  have hlow : 2 ^ 1 * s.adminFault.toNat + s.ready.toNat < 2 ^ 8 := by
    have := s.adminFault.toNat_lt
    have := s.ready.toNat_lt
    omega
  have hready : s.ready.toNat < 2 ^ 1 := s.ready.toNat_lt
  have hn := n.isLt
  rw [State.status_eq, BitVec.getLsbD_ofNat, Nat.testBit_two_pow_mul_add _ hlow, Nat.testBit_two_pow_mul_add _ hready,
    Nat.testBit_two_pow_mul_add _ (Nat.ofBits_lt_two_pow _), Nat.testBit_bool_toNat, Nat.testBit_bool_toNat]
  by_cases h8 : n.val < 8
  · by_cases h0 : n.val = 0
    · simp [h0]
    · by_cases h1 : n.val = 1
      · simp [h1]
      · simp [h0, h1, h8, show ¬ n.val < 1 by omega, show ¬ n.val - 1 = 0 by omega, show ¬ 8 ≤ n.val by omega,
          show ¬ 16 ≤ n.val by omega]
  · have h0 : ¬ n.val = 0 := by omega
    have h1 : ¬ n.val = 1 := by omega
    rw [if_neg h0, if_neg h1, if_neg h8]
    by_cases h16 : n.val < 16
    · rw [dif_pos ⟨by omega, h16⟩, if_pos (by omega), Nat.testBit_ofBits_lt _ _ (by omega)]
      simp
    · rw [dif_neg (by omega), if_neg (by omega)]
      by_cases h20 : n.val < 20
      · rw [dif_pos ⟨by omega, h20⟩, Nat.testBit_ofBits_lt _ _ (by omega)]
        simp [show n.val - 8 - 8 = n.val - 16 by omega]
      · rw [dif_neg (by omega), Nat.testBit_ofBits_ge _ _ (by omega), Bool.and_false]

/-- A register other than STATUS, read while no reset is in progress. -/
theorem State.readRegister_of_ready {s : State} (hr : s.resetting = none) {offset : Nat} {r : Register}
    (h : registerAt offset = some r) : s.readRegister offset = s.registerValue r := by
  unfold State.readRegister
  rw [h]
  cases r
  case status => rfl
  all_goals exact if_pos (s.ready_iff.2 hr)

theorem highWord_append_lowWord (a : Addr) : highWord a ++ lowWord a = a := by
  have h := withHighWord_withLowWord a a
  rwa [withHighWord, lowWord_withLowWord] at h

/-- Settles O20. -/
theorem registerReadsReflectState : Obligations.RegisterReadsReflectState := by
  constructor
  · intro s offset h bytes
    refine ⟨fun k n hkn => ?_, ?_⟩
    · rw [State.readWindow_part s offset hkn, State.readWindow_of_aligned s h]
    · rw [State.readWindow_double, State.readWindow_of_aligned s h, State.readWindow_of_aligned s (by omega)]
  intro s hr
  refine ⟨fun n => ?_, ?_, ?_, ?_, ?_, ?_, ?_, ?_⟩
  · rw [State.readRegister_of_ready hr (r := .status) rfl, State.registerValue, State.status_getLsbD, s.ready_iff.2 hr]
    rfl
  · rw [State.readRegister_of_ready hr (r := .control) rfl, State.registerValue]
    cases s.enable <;> rfl
  · rw [State.readRegister_of_ready hr (r := .adminRqBaseHigh) rfl, State.readRegister_of_ready hr (r := .adminRqBaseLow) rfl]
    exact highWord_append_lowWord _
  · rw [State.readRegister_of_ready hr (r := .adminCqBaseHigh) rfl, State.readRegister_of_ready hr (r := .adminCqBaseLow) rfl]
    exact highWord_append_lowWord _
  · rw [State.readRegister_of_ready hr (r := .adminSizes) rfl, State.registerValue]
  · exact State.readRegister_rqPost hr
  · intro c
    rw [State.readRegister_of_ready hr (registerAt_cqRelease c)]
    rfl
  · intro offset hadmin hrq hcq
    rw [State.readRegister, registerAt_of_none hadmin hrq hcq]

end Sys2Proof.Machine
end

/-! ### The completion writer (R133, R135, R138 to R141) -/

section
namespace Sys2Proof.Machine

/-- Settles O39. -/
theorem noticesJoinUpToEight : Obligations.NoticesJoinUpToEight := State.postNotice_eq

/-- Settles O41. -/
theorem delayExpirySignalsArmedRing : Obligations.DelayExpirySignalsArmedRing := by
  intro s c us h
  change execCoalescingDelayExpiry c s = _
  rw [execCoalescingDelayExpiry, h]
  rfl

/-! #### The write request -/

/-- The completion rings in rotation are all of them, in the order of their distance from the one served last. -/
theorem cqsAfter_pairwise (last : Cq) :
    (cqsAfter last).Pairwise (fun c d => (c.val + 4 - last.val - 1) % 4 < (d.val + 4 - last.val - 1) % 4) ∧
      ∀ c : Cq, c ∈ cqsAfter last := by
  revert last
  decide

/-- In a list that a distance orders strictly, the member that satisfies a test and none nearer does is found first. -/
theorem find?_eq_some_of_nearest {α : Type} {f : α → Nat} {p : α → Bool} {a : α} :
    ∀ {l : List α}, l.Pairwise (fun x y => f x < f y) → a ∈ l → p a = true → (∀ b ∈ l, f b < f a → p b = false) →
      l.find? p = some a
  | [], _, h, _, _ => absurd h List.not_mem_nil
  | x :: l, hl, h, ha, hb => by
    obtain ⟨hx, hl⟩ := List.pairwise_cons.1 hl
    rcases List.mem_cons.1 h with rfl | h
    · exact List.find?_cons_of_pos ha
    · rw [List.find?_cons_of_neg (by simp [hb x List.mem_cons_self (hx a h)])]
      exact find?_eq_some_of_nearest hl h ha fun b hbl => hb b (List.mem_cons_of_mem _ hbl)

theorem CompletionRing.entryAddr_of_config {q : CompletionRing} {cfg : CqConfig} (h : q.config = some cfg) :
    q.entryAddr = cfg.base + BitVec.ofNat 64 (16 * q.producer) := by
  simp [CompletionRing.entryAddr, CompletionRing.base, h, Config.completionBytes]

/-- Settles O36. -/
theorem recordWriteRequestRotates : Obligations.RecordWriteRequestRotates := by
  intro s c cfg hw hc ha hb hu hfirst
  obtain ⟨hpair, hmem⟩ := cqsAfter_pairwise s.cqLast
  have hnext : s.nextWritable = some c :=
    find?_eq_some_of_nearest hpair (hmem c) ((CompletionRing.writable_iff hc ha hb).2 hu) fun d _ hd => hfirst d hd
  change execRecordWriteRequest s = _
  rw [execRecordWriteRequest, hw, hnext]
  simp only [CompletionRing.entryAddr_of_config hc]

/-! #### The arbiter's turn for the writer -/

theorem State.writerTurn_iff (s : State) : s.writerTurn = true ↔ ∀ a, s.read = .waiting a → s.arbLast = .ringUnit := by
  cases h : s.read <;> simp [State.writerTurn, State.readWaits, h]

/-- A waiting write in its turn, with no message waiting and room in its ring, is served (R165). -/
theorem exec_recordWriteIssue_of_turn {s : State} {p : PcieConfig} {w : WriteRequest} (hw : s.write = some w)
    (hwr : (s.cq w.cq).writable = true)
    (hm : ∀ c : Cq, s.msgPending.get c = false ∧ (s.msgHeld.get c ≠ none → p.mask.getLsbD c.val = true))
    (ht : ∀ a, s.read = .waiting a → s.arbLast = .ringUnit) :
    exec (.recordWriteIssue p) s = .next (
      if p.busMaster then
        match (s.cq w.cq).backlog.head? with
        | some q => { s with write := none, arbLast := .completionWriter }.writeRecord w.cq w.addr q
        | none => { s with write := none, arbLast := .completionWriter }
      else { s with write := none, arbLast := .completionWriter }.writeFailed w.cq) := by
  change execRecordWriteIssue p s = _
  simp only [execRecordWriteIssue, hw]
  rw [if_pos ⟨s.writerTurn_iff.2 ht, (s.messageWaits_eq_false p).2 hm, hwr⟩]
  rfl

end Sys2Proof.Machine
end

/-! ### Record writes, issued or not (R133, R138, R140, R141, R167) -/

section
namespace Sys2Proof.Machine

/-- A ring that has counted one more entry (R140). -/
def CompletionRing.counted (q : CompletionRing) : CompletionRing := { q with sinceMessage := q.sinceMessage + 1 }

/-- The entry just counted sends the ring's message: the count is reached, or the delay of 0 runs out as it starts (R140, R141). -/
def CompletionRing.Signals (q : CompletionRing) : Prop :=
  q.armed = true ∧ (q.count ≤ q.sinceMessage ∨ q.sinceMessage = 1 ∧ q.delay = 0)

/-- The delay timer once an entry that sends no message has been counted (R140). -/
def CompletionRing.delayAfter (q : CompletionRing) : Timer :=
  if q.sinceMessage = 1 then (if q.delay = 0 then .stopped else .running q.delay) else q.delayTimer

theorem State.entryWritten_of_signals {s : State} {c : Cq} {q : CompletionRing} (h : q.counted.Signals) :
    (s.setCq c q).entryWritten c =
      { s.setCq c q.counted.signalled with msgPending := s.msgPending.set c.val true c.isLt } := by
  obtain ⟨ha, hs⟩ := h
  rw [← State.sendMessage_setCq]
  simp only [State.entryWritten, State.modCq_eq, State.cq_setCq_self, State.setCq_setCq]
  change (if q.counted.armed = true ∧ q.counted.count ≤ q.counted.sinceMessage then _ else _) = _
  by_cases hc : q.counted.count ≤ q.counted.sinceMessage
  · exact if_pos ⟨ha, hc⟩
  · obtain ⟨h1, hd⟩ := hs.resolve_left hc
    rw [if_neg fun k => hc k.2]
    refine (if_pos h1).trans ?_
    exact (State.startDelay_setCq_of_armed s c (q := q.counted) ha).trans (if_pos hd)

theorem State.entryWritten_of_not_signals {s : State} {c : Cq} {q : CompletionRing} (h : ¬ q.counted.Signals) :
    (s.setCq c q).entryWritten c = s.setCq c { q.counted with delayTimer := q.counted.delayAfter } := by
  have hcount : ¬ (q.counted.armed = true ∧ q.counted.count ≤ q.counted.sinceMessage) := fun k => h ⟨k.1, .inl k.2⟩
  simp only [State.entryWritten, State.modCq_eq, State.cq_setCq_self, State.setCq_setCq]
  refine (if_neg hcount).trans ?_
  by_cases h1 : q.counted.sinceMessage = 1
  · refine (if_pos h1).trans ?_
    rw [CompletionRing.delayAfter, if_pos h1]
    by_cases hd : q.counted.delay = 0
    · have ha : ¬ q.counted.armed = true := fun ha => h ⟨ha, .inr ⟨h1, hd⟩⟩
      rw [if_pos hd, State.startDelay, State.cq_setCq_self]
      refine (if_pos hd).trans ?_
      rw [State.delayRunsOut, State.cq_setCq_self, State.modCq_eq, State.cq_setCq_self, State.setCq_setCq]
      exact if_neg ha
    · rw [if_neg hd, State.startDelay, State.cq_setCq_self, State.modCq_eq, State.cq_setCq_self, State.setCq_setCq]
      exact if_neg hd
  · refine (if_neg h1).trans ?_
    rw [CompletionRing.delayAfter, if_neg h1]
    rfl

/-- The producer index modulo the size, and the phase that changes with its wrap (R133). -/
theorem CompletionRing.advance_eq {q : CompletionRing} {cfg : CqConfig} (hc : q.config = some cfg) (hp : q.producer < cfg.size) :
    q.advance = { q with
      producer := (q.producer + 1) % cfg.size, phase := if q.producer + 1 = cfg.size then !q.phase else q.phase
      unreleased := q.unreleased + 1 } := by
  rw [CompletionRing.advance, CompletionRing.size_of_config hc]
  by_cases h : q.producer + 1 < cfg.size
  · rw [if_pos h, if_pos h, Nat.mod_eq_of_lt h, if_neg h.ne]
  · have he : q.producer + 1 = cfg.size := by omega
    rw [if_neg h, if_neg h, if_pos he, he, Nat.mod_self]

theorem State.freeSlotFrom_of_state {s : State} {st : SlotState} {i : SlotId} (h : (s.slot i).state = st) :
    s.freeSlotFrom st i = s.setSlot i Slot.empty := if_pos h

/-- The state once the posting written has let go of its slot (R133). -/
def State.letGo (s : State) : Posting → State
  | .slot i => s.setSlot i Slot.empty
  | .notice _ => s

/-- The ring once its head posting has been taken for a write (R133, R135). -/
def CompletionRing.taken (q : CompletionRing) : Posting → CompletionRing
  | .slot _ => { q with backlog := q.backlog.tail }
  | .notice _ => { q with backlog := q.backlog.tail, noticesWaiting := q.noticesWaiting - 1, noticesLost := false }

theorem State.takePosting_eq {s : State} {p : Posting} (h : ∀ i, p = .slot i → (s.slot i).state = .done) (c : Cq) :
    s.takePosting c p = (s.letGo p).setCq c ((s.cq c).taken p) := by
  cases p with
  | slot i => exact State.freeSlotFrom_of_state (h i rfl)
  | notice n => rfl

theorem State.writeRecord_eq {s : State} {p : Posting} (h : ∀ i, p = .slot i → (s.slot i).state = .done) (c : Cq) (a : Addr) :
    s.writeRecord c a p = (({ s with link := s.link ++ [LinkOp.recordWrite a (s.postingRecord c p)] }.letGo p).setCq c
      ((s.cq c).taken p).advance).entryWritten c := by
  rw [State.writeRecord, State.takePosting_eq (s := { s with link := s.link ++ [LinkOp.recordWrite a (s.postingRecord c p)] }) h,
    State.modCq_eq, State.cq_setCq_self, State.setCq_setCq]
  rfl

/-- Settles O37: coalescing counts the entry written and either sends the ring's message or leaves its delay timer (R140, R141). -/
theorem recordWriteAdvancesRing : Obligations.RecordWriteAdvancesRing := by
  intro s pcie w cfg p rest hw hbm hc ha hb hu hp hm ht hdone q n sends
  have hwr : (s.cq w.cq).writable = true := (CompletionRing.writable_iff hc ha (by simp [hb])).2 hu
  rw [exec_recordWriteIssue_of_turn hw hwr hm ht, if_pos hbm, hb]
  have htail : q.backlog.tail = rest := congrArg List.tail hb
  have hconfig : (q.taken p).config = some cfg := by cases p <;> exact hc
  have hproducer : (q.taken p).producer < cfg.size := by cases p <;> exact hp
  have hadvance := CompletionRing.advance_eq hconfig hproducer
  have hcount : (q.taken p).advance.counted.count = cfg.count := by rw [hadvance]; exact CompletionRing.count_of_config hconfig
  have hdelay : (q.taken p).advance.counted.delay = cfg.delay := by rw [hadvance]; exact CompletionRing.delay_of_config hconfig
  have hsince : (q.taken p).advance.counted.sinceMessage = n := by rw [hadvance]; cases p <;> rfl
  have harmed : (q.taken p).advance.counted.armed = q.armed := by rw [hadvance]; cases p <;> rfl
  have hsignals : (q.taken p).advance.counted.Signals ↔ sends := by
    rw [CompletionRing.Signals, hcount, hdelay, hsince, harmed]
  rw [show (p :: rest).head? = some p from rfl]
  refine congrArg Host.Outcome.next ((State.writeRecord_eq (s := { s with write := none, arbLast := .completionWriter }) hdone _ _).trans ?_)
  change (State.setCq _ _ (q.taken p).advance).entryWritten _ = _
  have hlink : State.postingRecord { s with write := none, arbLast := .completionWriter } w.cq p = s.postingRecord w.cq p := by
    cases p <;> rfl
  rw [hlink]
  by_cases hs : sends
  · rw [State.entryWritten_of_signals (hsignals.2 hs), CompletionRing.signalled, CompletionRing.counted, hadvance]
    simp only [if_pos hs]
    cases p with
    | slot i => simp only [CompletionRing.taken, State.letGo, htail]; rfl
    | notice m => simp only [CompletionRing.taken, State.letGo, htail]; rfl
  · rw [State.entryWritten_of_not_signals (fun h => hs (hsignals.1 h)), CompletionRing.delayAfter, hsince, hdelay,
      CompletionRing.counted, hadvance]
    simp only [if_neg hs]
    cases p with
    | slot i => simp only [CompletionRing.taken, State.letGo, htail]; rfl
    | notice m => simp only [CompletionRing.taken, State.letGo, htail]; rfl

end Sys2Proof.Machine
end

/-! ### Postings discarded and notices posted (R132, R135, R138) -/

section
namespace Sys2Proof.Machine

theorem State.slot_freeSlotFrom (s : State) (st : SlotState) (i j : SlotId) :
    (s.freeSlotFrom st i).slot j = if i = j ∧ (s.slot j).state = st then Slot.empty else s.slot j := by
  unfold State.freeSlotFrom
  by_cases h : i = j
  · subst h
    by_cases hs : (s.slot i).state = st <;> simp [hs, State.freeSlot]
  · split <;> simp [State.freeSlot, State.slot_setSlot_of_ne _ _ _ _ h, h]

/-- The DONE slots of a discarded backlog are FREE, every other slot as it was (R138, R149). -/
theorem State.slot_discardPostings (l : List Posting) (s : State) (j : SlotId) : (s.discardPostings l).slot j =
    if Posting.slot j ∈ l ∧ (s.slot j).state = .done then Slot.empty else s.slot j := by
  induction l generalizing s with
  | nil => simp [State.discardPostings]
  | cons p l ih =>
    cases p with
    | notice n =>
      rw [State.discardPostings_notice, ih]
      simp
    | slot i =>
      rw [State.discardPostings_slot, ih, State.slot_freeSlotFrom]
      by_cases hd : (s.slot j).state = .done
      · by_cases hij : i = j
        · simp [hij, hd, Slot.empty]
        · simp [hij, hd, Ne.symm hij]
      · simp [hd]

/-- A discarded backlog changes the slots alone. -/
theorem State.discardPostings_eq (l : List Posting) (s : State) :
    s.discardPostings l = { s with slots := (s.discardPostings l).slots } := by
  induction l generalizing s with
  | nil => rfl
  | cons p l ih =>
    cases p with
    | notice n => exact ih s
    | slot i =>
      rw [State.discardPostings_slot, ih, State.freeSlotFrom]
      split <;> rfl

/-- The record of a completion ring that a notice has been posted to (R132, R135). -/
def CompletionRing.noticed (q : CompletionRing) (n : Notice) : CompletionRing :=
  if q.state ≠ .active then q
  else if q.noticesWaiting < 8 then { q with backlog := q.backlog ++ [.notice n], noticesWaiting := q.noticesWaiting + 1 }
  else { q with noticesLost := true }

theorem State.postNotice_eq_setCq (s : State) (c : Cq) (n : Notice) : s.postNotice c n = s.setCq c ((s.cq c).noticed n) := by
  rw [State.postNotice_eq, CompletionRing.noticed]
  split
  · rw [State.setCq_self]
  · split <;> rfl

theorem State.cq_postNotice (s : State) (c d : Cq) (n : Notice) :
    (s.postNotice c n).cq d = if c = d then (s.cq c).noticed n else s.cq d := by
  rw [State.postNotice_eq_setCq, State.cq_setCq]

/-- A completion ring whose record write could not be issued (R138). -/
def CompletionRing.failed (q : CompletionRing) : CompletionRing :=
  { q with
    state := .errored, backlog := [], noticesWaiting := 0, noticesLost := false, delayTimer := .stopped, sinceMessage := 0
    armed := false }

/-- The five steps of R138. -/
theorem State.writeFailed_eq (s : State) (c : Cq) : s.writeFailed c =
    if c = 0 then (s.setCq c (s.cq c).failed).discardPostings (s.cq c).backlog
    else ((s.setCq c (s.cq c).failed).discardPostings (s.cq c).backlog).postNotice 0 (.cqError c) := rfl

theorem State.slot_writeFailed (s : State) (c : Cq) (i : SlotId) : (s.writeFailed c).slot i =
    if Posting.slot i ∈ (s.cq c).backlog ∧ (s.slot i).state = .done then Slot.empty else s.slot i := by
  rw [State.writeFailed_eq]
  split
  · exact State.slot_discardPostings _ _ i
  · rw [slot_postNotice]
    exact State.slot_discardPostings _ _ i

theorem State.cq_discardPostings (l : List Posting) (s : State) (c : Cq) : (s.discardPostings l).cq c = s.cq c := by
  rw [State.discardPostings_eq]; rfl

theorem State.cq_writeFailed_self (s : State) (c : Cq) : (s.writeFailed c).cq c = (s.cq c).failed := by
  rw [State.writeFailed_eq]
  split
  · rw [State.cq_discardPostings, State.cq_setCq_self]
  · next h => rw [State.cq_postNotice, if_neg (Ne.symm h), State.cq_discardPostings, State.cq_setCq_self]

theorem State.cq_writeFailed_of_ne (s : State) {c d : Cq} (h : d ≠ c) :
    (s.writeFailed c).cq d = if d = 0 then (s.postNotice 0 (.cqError c)).cq 0 else s.cq d := by
  rw [State.writeFailed_eq]
  by_cases hc : c = 0
  · rw [if_pos hc, if_neg (hc ▸ h), State.cq_discardPostings, State.cq_setCq_of_ne _ _ _ _ (Ne.symm h)]
  · rw [if_neg hc, State.cq_postNotice, State.cq_postNotice, State.cq_discardPostings, State.cq_discardPostings,
      State.cq_setCq_of_ne _ _ _ _ hc, State.cq_setCq_of_ne _ _ _ _ (Ne.symm h)]
    by_cases hd : d = 0
    · rw [if_pos hd, if_pos hd.symm, if_pos rfl]
    · rw [if_neg hd, if_neg (Ne.symm hd)]

theorem State.writeFailed_only (s : State) (c : Cq) :
    s.writeFailed c = { s with slots := (s.writeFailed c).slots, cqs := (s.writeFailed c).cqs } := by
  rw [State.writeFailed_eq, State.postNotice_eq_setCq, State.discardPostings_eq]
  split <;> rfl

theorem State.status_of_cqErrored {s : State} {c : Cq} (h : (s.cq c).state = .errored) : s.status.getLsbD (16 + c.val) = true := by
  have hc := c.isLt
  have hbit := s.status_getLsbD ⟨16 + c.val, by omega⟩
  simp only at hbit
  rw [hbit, if_neg (by omega), if_neg (by omega), dif_neg (by omega), dif_pos ⟨by omega, by omega⟩]
  simp [State.cqErrored, h]

/-- Settles O38. -/
theorem unissuableWriteErrorsRing : Obligations.UnissuableWriteErrorsRing := by
  intro s p w hw hbm hwr hm ht
  refine ⟨_, (exec_recordWriteIssue_of_turn hw hwr hm ht).trans (congrArg _ (if_neg (by simp [hbm]))), fun i => ?_, ?_, fun d hd => ?_, ?_, ?_⟩
  · exact State.slot_writeFailed _ w.cq i
  · exact State.cq_writeFailed_self _ w.cq
  · refine (State.cq_writeFailed_of_ne _ hd).trans ?_
    rw [State.cq_postNotice, State.cq_postNotice]
    rfl
  · exact State.writeFailed_only _ w.cq
  · exact State.status_of_cqErrored (congrArg CompletionRing.state (State.cq_writeFailed_self _ w.cq))

end Sys2Proof.Machine
end

/-! ### Interrupt messages in their turn (R165, R168) -/

section
namespace Sys2Proof.Machine

theorem findSome?_eq_some_of_nearest {α β : Type} {f : α → Nat} {p : α → Option β} {a : α} {b : β} :
    ∀ {l : List α}, l.Pairwise (fun x y => f x < f y) → a ∈ l → p a = some b → (∀ x ∈ l, f x < f a → p x = none) →
      l.findSome? p = some b
  | [], _, h, _, _ => absurd h List.not_mem_nil
  | x :: l, hl, h, ha, hb => by
    obtain ⟨hx, hl⟩ := List.pairwise_cons.1 hl
    rcases List.mem_cons.1 h with rfl | h
    · exact List.findSome?_cons_of_isSome (by simp [ha]) |>.trans ha
    · rw [List.findSome?_cons, hb x List.mem_cons_self (hx a h)]
      exact findSome?_eq_some_of_nearest hl h ha fun y hy => hb y (List.mem_cons_of_mem _ hy)

theorem pairwise_val_finRange (n : Nat) : (List.finRange n).Pairwise fun i j => i.val < j.val := List.pairwise_lt_finRange n

/-- Among all completion rings or message numbers, the lowest that satisfies a test is found first. -/
theorem find?_finRange_eq_some {n : Nat} {p : Fin n → Bool} {a : Fin n} (ha : p a = true) (h : ∀ b, b < a → p b = false) :
    (List.finRange n).find? p = some a :=
  find?_eq_some_of_nearest (pairwise_val_finRange n) (List.mem_finRange a) ha fun b _ hb => h b hb

theorem messageNumber_val {p : PcieConfig} (h : p.enabled = 1 ∨ p.enabled = 2 ∨ p.enabled = 4) (c : Cq) :
    (messageNumber p c).val = c.val % p.enabled := by
  have hc := c.isLt
  simp only [messageNumber, Fin.val_ofNat]
  rcases h with h | h | h <;> rw [h] <;> omega

theorem messageNumber_eq_iff {p : PcieConfig} (h : p.enabled = 1 ∨ p.enabled = 2 ∨ p.enabled = 4) (c n : Cq) :
    messageNumber p c = n ↔ c.val % p.enabled = n.val := by
  rw [Fin.ext_iff, messageNumber_val h]

theorem State.heldReady_iff (s : State) (p : PcieConfig) (c n : Cq) :
    s.heldReady p c n = true ↔ s.msgHeld.get n = some c ∧ p.mask.getLsbD n.val = false := by
  simp [State.heldReady, numberMasked]

theorem State.heldReady_eq_false_iff (s : State) (p : PcieConfig) (c n : Cq) :
    s.heldReady p c n = false ↔ ¬ (s.msgHeld.get n = some c ∧ p.mask.getLsbD n.val = false) := by
  rw [← State.heldReady_iff, Bool.not_eq_true]

/-- Settles O40: the ring served is the first with a message, its number that of the message held or else its own, and the message
stands for the lowest ring that waits for the number. -/
theorem messageIsIssuedHeldOrDropped : Obligations.MessageIsIssuedHeldOrDropped := by
  intro s p c hp ht ready waits hc hfirst n hn standsFor e he hlowest masked sends
  have hring : s.ringMessage p c = some n := by
    rcases hn with ⟨hready, hlow⟩ | ⟨hnone, hval⟩
    · rw [State.ringMessage, find?_finRange_eq_some ((s.heldReady_iff p c n).2 hready) fun m hm => (s.heldReady_eq_false_iff p c m).2 (hlow m hm)]
    · have hpending : s.msgPending.get c = true := hc.resolve_left fun ⟨m, hm⟩ => hnone m hm
      have hfind : (List.finRange 4).find? (s.heldReady p c) = none :=
        List.find?_eq_none.2 fun m _ => by rw [State.heldReady_iff]; exact hnone m
      rw [State.ringMessage, hfind]
      simp only [hpending, if_true, Option.some.injEq]
      exact (messageNumber_eq_iff hp c n).2 hval.symm
  have hnext : s.nextMessage p = some n := by
    refine findSome?_eq_some_of_nearest (pairwise_val_finRange 4) (List.mem_finRange c) hring fun d _ hd => ?_
    rw [State.ringMessage_eq_none]
    have hd' := hfirst d hd
    refine ⟨by simpa using fun h => hd' (.inr h), fun m hm => ?_⟩
    by_contra hmask
    exact hd' (.inl ⟨m, hm, by simpa using hmask⟩)
  have hstands (d : Cq) : (decide (s.msgHeld.get n = some d) || s.msgPending.get d && decide (messageNumber p d = n)) = true ↔ standsFor d := by
    simp [standsFor, messageNumber_eq_iff hp]
  have hmessage : s.messageRing p n = some e := by
    refine find?_finRange_eq_some ((hstands e).2 he) fun d hd => ?_
    rw [← Bool.not_eq_true, hstands]
    exact hlowest d hd
  have hpendings : (fun d : Cq => s.msgPending.get d && decide (messageNumber p d ≠ n)) =
      fun d => s.msgPending.get d && decide (d.val % p.enabled ≠ n.val) := by
    funext d
    simp only [ne_eq, messageNumber_eq_iff hp]
  change execInterruptMessageIssue p s = _
  rw [execInterruptMessageIssue, hnext]
  simp only [s.writerTurn_iff.2 ht, if_true]
  have hring' : State.messageRing { s with arbLast := .completionWriter } p n = some e := hmessage
  rw [State.takeMessage, hring']
  simp only [hpendings]
  rfl

end Sys2Proof.Machine
end

/-! ### The ring unit: reads and fetches that end without a record (R127, R128, R165, R166) -/

section
namespace Sys2Proof.Machine

theorem State.readTurn_iff {s : State} {a : Addr} (h : s.read = .waiting a) (p : PcieConfig) : s.readTurn p = true ↔
    (s.write = none ∧ ∀ c : Cq, s.msgPending.get c = false ∧ (s.msgHeld.get c ≠ none → p.mask.getLsbD c.val = true)) ∨
      s.arbLast = .completionWriter := by
  rw [← State.messageWaits_eq_false]
  simp [State.readTurn, State.readWaits, State.writerWaits, h]

/-- Settles O22. -/
theorem readIssueFollowsArbiter : Obligations.ReadIssueFollowsArbiter := by
  intro s f a p hread hfetch
  have hexec : exec (.readIssue p) s = .next (if s.readTurn p then
      (if p.busMaster then { s with
        read := .outstanding a (.running 50000), link := s.link ++ [.readRequest a], arbLast := .ringUnit }
      else { s with arbLast := .ringUnit }.fetchFailed f .readError) else s) := by
    change execReadIssue p s = _
    rw [execReadIssue, hread, hfetch]
    rfl
  rw [hexec]
  split
  next h =>
    rw [if_pos ((State.readTurn_iff hread p).2 h)]
    refine ⟨fun hb => by rw [if_pos hb], fun hb => ?_⟩
    rw [if_neg (by simp [hb])]
    change _ = execFetchError _
    rw [execFetchError, hfetch]
    rfl
  next h => rw [if_neg fun k => h ((State.readTurn_iff hread p).1 k)]

theorem State.status_of_ringErrored {s : State} {r : Ring} (h : (s.ring r).state = .errored) : s.status.getLsbD (8 + r.val) = true := by
  have hr := r.isLt
  have hbit := s.status_getLsbD ⟨8 + r.val, by omega⟩
  simp only at hbit
  rw [hbit, if_neg (by omega), if_neg (by omega), dif_pos ⟨by omega, by omega⟩]
  simp [State.ringErrored, h]

theorem State.ring_postNotice (s : State) (c : Cq) (n : Notice) (r : Ring) : (s.postNotice c n).ring r = s.ring r := by
  rw [State.postNotice_eq_setCq]; rfl

/-- A fetch that failed leaves its slot FREE and its ring, where it was not marked for discard, ERRORED with a notice (R128). -/
theorem State.fetchFailed_eq {s : State} {f : Fetch} (h : (s.slot f.slot).state = .fetching) (why : FetchFailure) :
    s.fetchFailed f why =
      if f.discard then { s.setSlot f.slot Slot.empty with fetch := none, read := .idle }
      else ({ s.setSlot f.slot Slot.empty with fetch := none, read := .idle }.setRing f.ring
        { s.ring f.ring with state := .errored, error := some why }).postNotice 0 (.ringError f.ring why) := by
  rw [State.fetchFailed, State.freeSlotFrom_of_state (s := { s with fetch := none, read := .idle }) h]
  rfl

/-- Settles O23. -/
theorem fetchesEndWithoutRecord : Obligations.FetchesEndWithoutRecord := by
  intro s f why hread hfetch hslot u
  obtain ⟨a, timer, hread⟩ := hread
  refine ⟨fun record granted hdrop => ?_, s.fetchFailed f why, ?_, rfl, ?_, ?_⟩
  · have hd : s.dropsRecord f = true := by simpa [State.dropsRecord] using hdrop
    change execFetchComplete _ s = _
    rw [execFetchComplete, hread, hfetch]
    simp only [hd, if_true]
    rw [State.freeSlotFrom_of_state (s := { s with fetch := none, read := .idle }) hslot]
    rfl
  · cases why
    · change execFetchError s = _
      rw [execFetchError, hread, hfetch]
    · change execFetchTimeout s = _
      rw [execFetchTimeout, hread, hfetch]
  · rw [State.fetchFailed_eq hslot]
    split
    · rfl
    · rw [State.ring_postNotice, State.ring_setRing_self]
  · rw [State.fetchFailed_eq hslot]
    split
    · rfl
    · refine ⟨rfl, State.status_of_ringErrored ?_⟩
      rw [State.ring_postNotice, State.ring_setRing_self]

end Sys2Proof.Machine
end

/-! ### The next grant (R4, R5, R124 to R126) -/

section
namespace Sys2Proof.Machine

theorem RequestRing.cap_of_config {q : RequestRing} {cfg : RingConfig} (hs : q.state ≠ .unconfigured) (h : q.config = some cfg) :
    q.cap = cfg.cap := by
  rw [RequestRing.cap, if_pos ((RequestRing.configured_iff q).2 hs), h]

theorem RequestRing.reserve_of_config {q : RequestRing} {cfg : RingConfig} (h : q.config = some cfg) :
    q.reserve = if q.state = .unconfigured then 0 else cfg.reserve := by
  by_cases hs : q.state = .unconfigured
  · rw [if_pos hs, RequestRing.reserve_unconfigured hs]
  · rw [if_neg hs, RequestRing.reserve, if_pos ((RequestRing.configured_iff q).2 hs), h]

/-- A ring without a configuration has a cap of 0, and so no allowance (R4). -/
theorem State.config_of_hasAllowance {s : State} {r : Ring} (h : s.hasAllowance r = true) : ∃ cfg, (s.ring r).config = some cfg := by
  obtain ⟨⟨-, hcap⟩, -⟩ := (s.hasAllowance_iff r).1 h
  refine Option.ne_none_iff_exists'.1 fun hn => ?_
  simp [RequestRing.cap, hn] at hcap

/-- The five conditions of R124. -/
theorem State.eligible_iff (s : State) (r : Ring) : s.eligible r = true ↔
    s.enable = true ∧ (s.ring r).state = .active ∧ (s.ring r).pendingCount ≠ 0 ∧ s.hasAllowance r = true ∧
      ∀ f, s.fetch = some f → f.ring ≠ r := by
  cases hf : s.fetch <;> simp [State.eligible, hf, and_assoc, Nat.one_le_iff_ne_zero]

/-- The conditions of R124 and R4 in the fields of the ring's record. -/
theorem State.eligible_iff_config (s : State) (r : Ring) : s.eligible r = true ↔
    s.enable = true ∧ (s.ring r).state = .active ∧ (∀ f, s.fetch = some f → f.ring ≠ r) ∧
    ∃ cfg, (s.ring r).config = some cfg ∧
      ((s.ring r).producer + cfg.size - (s.ring r).consumer) % cfg.size ≠ 0 ∧
      s.held r < cfg.cap ∧ (s.held r < cfg.reserve ∨ s.sharedInUse < 64 - s.reserveSum) := by
  have hroom (cfg : RingConfig) (hc : (s.ring r).config = some cfg) (ha : (s.ring r).state = .active) :
      s.hasAllowance r = true ↔ s.held r < cfg.cap ∧ (s.held r < cfg.reserve ∨ s.sharedInUse < 64 - s.reserveSum) := by
    have hne : (s.ring r).state ≠ .unconfigured := by simp [ha]
    rw [State.hasAllowance_iff, RequestRing.cap_of_config hne hc, RequestRing.reserve_of_config hc, if_neg hne,
      and_iff_right ((RequestRing.configured_iff _).2 hne)]
  rw [State.eligible_iff]
  constructor
  · rintro ⟨he, ha, hp, hr, hf⟩
    obtain ⟨cfg, hc⟩ := State.config_of_hasAllowance hr
    refine ⟨he, ha, hf, cfg, hc, ?_, (hroom cfg hc ha).1 hr⟩
    rwa [RequestRing.pendingCount, RequestRing.size_of_config hc] at hp
  · rintro ⟨he, ha, hf, cfg, hc, hp, hr⟩
    refine ⟨he, ha, ?_, (hroom cfg hc ha).2 hr, hf⟩
    rwa [RequestRing.pendingCount, RequestRing.size_of_config hc]

/-- The rings after the rotation pointer are rings 1 to 7 in cyclic order, the pointer's own last (R125). -/
theorem ringsAfter_pairwise {p : Ring} (hp : p ≠ 0) :
    (ringsAfter p).Pairwise (fun q r => (q.val + 7 - p.val - 1) % 7 < (r.val + 7 - p.val - 1) % 7) ∧
      ∀ q : Ring, q ∈ ringsAfter p ↔ q ≠ 0 := by
  revert p
  decide

theorem RequestRing.weight_of_config {q : RequestRing} {cfg : RingConfig} (h : q.config = some cfg) :
    q.weight = cfg.weight.getD 0 := by
  simp [RequestRing.weight, h]

theorem State.chooseRing_of_admin {s : State} (h : s.eligible 0 = true) : s.chooseRing = some ⟨0, s.rotPtr, s.grantCount⟩ := if_pos h

theorem State.chooseRing_of_run {s : State} (h0 : s.eligible 0 = false) (h : s.eligible s.rotPtr = true)
    (hw : s.grantCount < (s.ring s.rotPtr).weight) : s.chooseRing = some ⟨s.rotPtr, s.rotPtr, s.grantCount + 1⟩ := by
  rw [State.chooseRing, if_neg (by simp [h0]), if_pos ⟨h, hw⟩]

theorem State.chooseRing_of_next {s : State} (h0 : s.eligible 0 = false)
    (hrun : ¬ (s.eligible s.rotPtr = true ∧ s.grantCount < (s.ring s.rotPtr).weight)) :
    s.chooseRing = ((ringsAfter s.rotPtr).find? s.eligible).map fun r => ⟨r, r, 1⟩ := by
  rw [State.chooseRing, if_neg (by simp [h0]), if_neg hrun]

theorem State.chooseRing_of_none {s : State} (h : ∀ r, s.eligible r = false) : s.chooseRing = none := by
  rw [State.chooseRing_of_next (h 0) (by simp [h]), List.find?_eq_none.2 fun r _ => by simp [h r]]
  rfl

/-- With a weight of a ring's record written out: the run of the rotation pointer's ring lasts. -/
theorem RequestRing.lt_weight_iff (q : RequestRing) (n : Nat) :
    n < q.weight ↔ ∃ c w, q.config = some c ∧ c.weight = some w ∧ n < w := by
  cases hc : q.config with
  | none => simp [RequestRing.weight, hc]
  | some c =>
    rw [RequestRing.weight_of_config hc]
    cases hw : c.weight <;> simp [hw]

theorem RequestRing.recordAddr_of_config {q : RequestRing} {cfg : RingConfig} (h : q.config = some cfg) (n : Nat) :
    q.recordAddr n = cfg.base + BitVec.ofNat 64 (32 * n) := by
  simp [RequestRing.recordAddr, h, Config.requestBytes]

/-- Settles O21: the grant's ring is `State.chooseRing`, its slot `State.lowestFree`. -/
theorem fetchGrantChoosesRingAndSlot : Obligations.FetchGrantChoosesRingAndSlot := by
  refine ⟨State.eligible_iff_config, fun s => ⟨fun r => ?_, rfl, rfl, fun r cfg hc => RequestRing.reserve_of_config hc⟩,
    fun s => ⟨rfl, rfl, ?_⟩, ?_⟩
  · rw [State.held, List.countP_eq_length_filter]
  · intro h
    change s.nextGrant = s
    rcases h with h | h
    · obtain ⟨f, hf⟩ := Option.ne_none_iff_exists'.1 h
      rw [State.nextGrant, hf]
    · rw [State.nextGrant, State.chooseRing_of_none h]
      split
      · next hc _ => cases hc
      · rfl
  · intro s r p n i cfg hf he hc hi hlow hchoice
    have hslot : s.lowestFree = some i :=
      find?_finRange_eq_some (decide_eq_true hi) fun j hj => decide_eq_false (hlow j hj)
    have hring : s.chooseRing = some ⟨r, p, n⟩ := by
      rcases hchoice with ⟨rfl, rfl, rfl⟩ | ⟨h0, rfl, ⟨w, hw, hlt⟩, rfl, rfl⟩ | ⟨h0, hp, hrun, hr, hnear, hpr, rfl⟩
      · exact State.chooseRing_of_admin he
      · exact State.chooseRing_of_run h0 he ((RequestRing.lt_weight_iff _ _).2 ⟨cfg, w, hc, hw, hlt⟩)
      · obtain ⟨hpair, hmem⟩ := ringsAfter_pairwise hp
        rw [State.chooseRing_of_next h0 fun h => hrun ⟨h.1, (RequestRing.lt_weight_iff _ _).1 h.2⟩,
          find?_eq_some_of_nearest hpair ((hmem r).2 hr) he fun q hq => hnear q ((hmem q).1 hq), hpr]
        rfl
    change Host.Outcome.next s.nextGrant = _
    rw [State.nextGrant, hf, hring, hslot]
    simp only [State.grantFetch, RequestRing.recordAddr_of_config hc]

end Sys2Proof.Machine
end

/-! ### Requests answered in their acceptance step: limits, the map and counters read (R28, R29, R101, R152, R154) -/

section
namespace Sys2Proof.Machine

/-- The slot of an arrival, its arguments copied, answered OK with eight bytes in a state `u` whose timers follow. -/
theorem settled_answerWith_arrivedSlot {u : State} (hu : IdleTimersFollow u) (s : State) (f : Fetch) (cfg : RingConfig)
    (record : Record) (args : Option OpArgs) (area : List Byte) :
    settled ((u.setSlot f.slot { arrivedSlot s f cfg record with args := args }).answerWith f.slot area) =
      .next (u.answered f.slot (answerRing f cfg)
        (doneWith { arrivedSlot s f cfg record with args := args } (plainResult (.outcome .ok) 8 area))) := by
  rw [State.answerWith_eq (c := answerRing f cfg) area (by simp [arrivedSlot, Slot.empty]) (by simp [arrivedSlot])
    (by simp [arrivedSlot]), State.slot_setSlot_self, State.setSlot_answered, settled,
    State.refreshIdle_of_follow (hu.answered _ _ _)]

/-! #### SET_LIMITS -/

theorem State.answered_limits (s : State) (l : Vector Half 4) (n : Half) (i : SlotId) (c : Cq) (x : Slot) :
    State.answered { s with lifetimes := l, holdLimit := n } i c x =
      { s.answered i c x with lifetimes := l, holdLimit := n } := by
  by_cases h : (s.cq c).state = .active
  · rw [State.answered_pos h, State.answered_pos (s := { s with lifetimes := l, holdLimit := n }) h]; rfl
  · rw [State.answered_neg h, State.answered_neg (s := { s with lifetimes := l, holdLimit := n }) h]; rfl

/-- Settles O26. -/
theorem setLimitsWritesFiveValues : Obligations.SetLimitsWritesFiveValues := by
  refine ⟨?_, fun s t h => ?_, fun s t h => ?_⟩
  · intro s f cfg record granted a h hi hr hk hz ha x
    rw [h.exec_eq_takeOperation granted hk (by simp [hr, Kind.allowedOn]) hz ha, ← answerRing_of_admin hr cfg]
    change settled (State.takeSetLimits _ _ _) = _
    rw [State.takeSetLimits]
    split
    · exact Arriving.refuse hi record granted .badRequest _
    · have hu : IdleTimersFollow { s.consumed f cfg.size granted with
          lifetimes := #v[a.class0, a.class1, a.class2, a.class3], holdLimit := a.holdLimit } := hi.consumed f cfg.size granted
      exact (settled_answer_arrivedSlot hu s f cfg record _ _).trans (congrArg _ (State.answered_limits _ _ _ _ _ _))
  · obtain rfl := Host.Outcome.next.inj h
    rcases hs : s.resetting with _ | k <;> simp only [State.startFunctionReset, hs]
    · exact ⟨rfl, rfl⟩
    · exact ⟨trivial, trivial⟩
  · obtain rfl := Host.Outcome.next.inj h
    exact ⟨rfl, rfl⟩

/-! #### MAP_READ -/

theorem leBytes_two (w : Half) : leBytes 2 w.toNat = [w.setWidth 8, (w >>> 8).setWidth 8] := by
  simp only [leBytes, List.range_succ, List.range_zero, List.nil_append, List.cons_append, List.map_cons, List.map_nil, byteOf_word]
  simp

theorem leBytes_three (w : Word) : leBytes 3 w.toNat = [w.setWidth 8, (w >>> 8).setWidth 8, (w >>> 16).setWidth 8] := by
  simp only [leBytes, List.range_succ, List.range_zero, List.nil_append, List.cons_append, List.map_cons, List.map_nil, byteOf_word]
  simp

theorem MapEntry.flags_eq (e : MapEntry) :
    e.flags = (if e.valid then 1 else 0) + (if e.readOk then 2 else 0) + (if e.writeOk then 4 else 0) := by
  rw [MapEntry.flags]
  cases e.valid <;> cases e.readOk <;> cases e.writeOk <;> rfl

theorem imageHalf_eq (image : List Byte) (half : Byte) :
    imageHalf image half = if half = 0 then image.take 8 else image.drop 4 := by
  simp [imageHalf]

/-! #### SEGMENT_QUERY -/

theorem Segment.counter_eq (x : Segment) (n : Byte) : x.counter n =
    if n = 0 then x.framesOk else if n = 1 then x.framesFailed else if n = 2 then x.retries else x.lineEvents := by
  simp only [Segment.counter, ← BitVec.toNat_inj]
  split <;> simp_all

theorem Segment.clearCounter_eq (x : Segment) {n : Byte} (h : n.toNat ≤ 3) : x.clearCounter n = { x with
    framesOk := if n.toNat = 0 then 0 else x.framesOk, framesFailed := if n.toNat = 1 then 0 else x.framesFailed
    retries := if n.toNat = 2 then 0 else x.retries, lineEvents := if n.toNat = 3 then 0 else x.lineEvents } := by
  obtain h | h | h | h : n.toNat = 0 ∨ n.toNat = 1 ∨ n.toNat = 2 ∨ n.toNat = 3 := by omega
  all_goals simp [Segment.clearCounter, h]

theorem firstFailure_queryChecks (a : SegQueryArgs) : firstFailure (queryChecks a) =
    if 7 < a.seg.toNat ∨ 3 < a.first.toNat ∨ 3 < a.second.toNat ∨ 1 < a.clear.toNat then some .badRequest else none := by
  simp only [queryChecks, firstFailure_cons, decide_eq_false_iff_not, not_le, firstFailure]
  simp only [ite_or]

/-- The eight bytes of a SEGMENT_QUERY, written out (R152, R171). -/
theorem queryArea_eq (x : Segment) (n : Nat) (a : SegQueryArgs) : queryArea x n a =
    [byteOf (x.lineState.code + 8 * x.hold.code + 32 * (x.hold.holder.getD 0).val), byteOf n] ++
      [(x.counter a.first).setWidth 8, (x.counter a.first >>> 8).setWidth 8, (x.counter a.first >>> 16).setWidth 8] ++
      [(x.counter a.second).setWidth 8, (x.counter a.second >>> 8).setWidth 8, (x.counter a.second >>> 16).setWidth 8] := by
  simp only [queryArea, leBytes_three]

/-- The counters once the selected ones are cleared as asked (R101). -/
theorem Segment.clearedCounters_eq (x : Segment) {a : SegQueryArgs} (h1 : a.first.toNat ≤ 3) (h2 : a.second.toNat ≤ 3) :
    (if a.clear = 1 then (x.clearCounter a.first).clearCounter a.second else x) = { x with
      framesOk := if a.clear = 1 ∧ (a.first.toNat = 0 ∨ a.second.toNat = 0) then 0 else x.framesOk
      framesFailed := if a.clear = 1 ∧ (a.first.toNat = 1 ∨ a.second.toNat = 1) then 0 else x.framesFailed
      retries := if a.clear = 1 ∧ (a.first.toNat = 2 ∨ a.second.toNat = 2) then 0 else x.retries
      lineEvents := if a.clear = 1 ∧ (a.first.toNat = 3 ∨ a.second.toNat = 3) then 0 else x.lineEvents } := by
  by_cases hc : a.clear = 1
  · rw [if_pos hc, Segment.clearCounter_eq _ h2, Segment.clearCounter_eq _ h1]
    simp only [hc, true_and, ite_or]
    congr 1 <;> split <;> split <;> rfl
  · simp only [hc, false_and, if_false]

theorem State.takeSegQuery_of_fails {a : SegQueryArgs} {status : Status} (h : firstFailure (queryChecks a) = some status)
    (s : State) (i : SlotId) : s.takeSegQuery i a = s.refuse i status := by
  rw [State.takeSegQuery, h]

theorem State.takeSegQuery_of_passes {a : SegQueryArgs} (h : firstFailure (queryChecks a) = none) (s : State) (i : SlotId) :
    s.takeSegQuery i a = (s.setSeg (segOf a.seg) (if a.clear = 1 then
      ((s.seg (segOf a.seg)).clearCounter a.first).clearCounter a.second else s.seg (segOf a.seg))).answerWith i
        (queryArea (s.seg (segOf a.seg)) (s.queue (segOf a.seg)).length a) := by
  rw [State.takeSegQuery, h]
  by_cases hc : a.clear = 1
  · simp only [hc, if_true, State.modSeg_eq]
  · simp only [hc, if_false, State.setSeg_self]

/-- Settles O28: MAP_READ takes the half of `MapEntry.image` named, SEGMENT_QUERY `queryArea` before the counters are cleared. -/
theorem readRequestsReturnEightBytes : Obligations.ReadRequestsReturnEightBytes := by
  constructor
  · intro s f cfg record granted entry half h hi hr hk hz ha x m image
    have himage : m.image = image := by
      rw [MapEntry.image, leBytes_two, leBytes_two, MapEntry.flags_eq]
      rcases m with ⟨_, _, _, kind, _⟩
      cases kind <;> rfl
    rw [h.exec_eq_takeOperation granted hk (by simp [hr, Kind.allowedOn]) hz ha, ← answerRing_of_admin hr cfg]
    change settled (State.takeMapRead _ _ _ _) = _
    rw [State.takeMapRead]
    by_cases hc : entry.toNat ≤ 31 ∧ half.toNat ≤ 1
    · rw [if_pos hc, if_neg (by omega), settled_answerWith_arrivedSlot (hi.consumed f cfg.size granted), State.setSlot_map,
        State.map_consumed, imageHalf_eq, ← himage]
      rfl
    · rw [if_neg hc, if_pos (by omega)]
      exact Arriving.refuse hi record granted .badRequest _
  · intro s f cfg record granted a h hi hr hk hz ha x y line hold counter low24 area cleared
    rw [h.exec_eq_takeOperation granted hk (by simp [hr, Kind.allowedOn]) hz ha, ← answerRing_of_admin hr cfg]
    change settled (State.takeSegQuery _ _ _) = _
    have hchecks := firstFailure_queryChecks a
    split
    next hf =>
      rw [if_pos hf] at hchecks
      rw [State.takeSegQuery_of_fails hchecks]
      exact Arriving.refuse hi record granted .badRequest _
    next hp =>
      rw [if_neg hp] at hchecks
      have hy : ((s.consumed f cfg.size granted).setSlot f.slot { arrivedSlot s f cfg record with args := some (.segQuery a) }).seg (segOf a.seg) = y :=
        State.seg_consumed s f cfg.size granted _
      have hq : ((s.consumed f cfg.size granted).setSlot f.slot { arrivedSlot s f cfg record with args := some (.segQuery a) }).queue (segOf a.seg) =
          s.queue (segOf a.seg) := State.queue_consumed s f cfg.size granted _
      have harea : queryArea y (s.queue (segOf a.seg)).length a = area := by
        rw [queryArea_eq, y.counter_eq, y.counter_eq]
        have hcode : byteOf (y.lineState.code + 8 * y.hold.code + 32 * (y.hold.holder.getD 0).val) = BitVec.ofNat 8 (line + hold) := by
          have hline : line = y.lineState.code := by
            simp only [line]
            cases y.lineState with
            | faulted why => cases why <;> rfl
            | _ => rfl
          have hhold : hold = 8 * y.hold.code + 32 * (y.hold.holder.getD 0).val := by
            simp only [hold]
            cases y.hold with
            | none => rfl
            | _ => simp [Hold.code, Hold.holder, Nat.mul_comm]
          rw [hline, hhold, byteOf, Nat.add_assoc]
        rw [hcode]
        rfl
      rw [State.takeSegQuery_of_passes hchecks, hy, hq, harea, y.clearedCounters_eq (by omega) (by omega), State.setSlot_setSeg]
      have hu := hi.consumed f cfg.size granted
      have htimer : y.idleTimer = y.idleTimerFor ((s.consumed f cfg.size granted).queue (segOf a.seg)) := by
        rw [State.queue_consumed]
        exact (idleTimersFollow_iff s).1 hi (segOf a.seg)
      refine (settled_answerWith_arrivedSlot (hu.setSeg (by exact htimer)) s f cfg record _ _).trans ?_
      rw [State.setSeg_answered]
      rfl

end Sys2Proof.Machine
end

/-! ### RING_CREATE and CQ_CREATE (R131, R145, R146, R148) -/

section
namespace Sys2Proof.Machine

/-- The checks of R145 in their order, each by what fails it. -/
theorem State.firstFailure_ringCreateChecks (s : State) (a : RingCreateArgs) : firstFailure (s.ringCreateChecks a) =
    if a.ring.toNat < 1 ∨ 7 < a.ring.toNat then some .badRequest
    else if a.base.toNat % 64 ≠ 0 then some .badRequest
    else if a.size.toNat ∉ [16, 32, 64, 128, 256, 512, 1024] then some .badRequest
    else if a.weight.toNat < 1 ∨ 15 < a.weight.toNat then some .badRequest
    else if 16 < a.reserve.toNat then some .badRequest
    else if a.cap.toNat < 1 ∨ 64 < a.cap.toNat ∨ a.cap.toNat < a.reserve.toNat then some .badRequest
    else if 3 < a.cq.toNat then some .badRequest
    else if (s.ring (ringOf a.ring)).state ≠ .unconfigured then some .inUse
    else if (s.cq (cqOf a.cq)).state ≠ .active then some .notFound
    else if 64 < s.reserveSum + a.reserve.toNat + s.sharedInUse then some .noSpace
    else none := by
  have hsize : requestSizes.contains a.size.toNat = false ↔ a.size.toNat ∉ [16, 32, 64, 128, 256, 512, 1024] := by
    rw [← Bool.not_eq_true, List.contains_iff_mem]; rfl
  simp only [State.ringCreateChecks, firstFailure_cons, Bool.and_eq_false_iff, decide_eq_false_iff_not, not_le, firstFailure, ne_eq,
    hsize, aligned64, beq_eq_false_iff_ne, or_assoc]
  rfl

/-- The checks of R148 in their order, each by what fails it. -/
theorem State.firstFailure_cqCreateChecks (s : State) (a : CqCreateArgs) : firstFailure (s.cqCreateChecks a) =
    if a.cq.toNat < 1 ∨ 3 < a.cq.toNat then some .badRequest
    else if a.base.toNat % 64 ≠ 0 then some .badRequest
    else if a.size.toNat ∉ [16, 32, 64, 128, 256, 512, 1024, 2048, 4096] then some .badRequest
    else if a.count.toNat < 1 then some .badRequest
    else if (s.cq (cqOf a.cq)).state ≠ .unconfigured then some .inUse
    else none := by
  have hsize : completionSizes.contains a.size.toNat = false ↔
      a.size.toNat ∉ [16, 32, 64, 128, 256, 512, 1024, 2048, 4096] := by
    rw [← Bool.not_eq_true, List.contains_iff_mem]; rfl
  simp only [State.cqCreateChecks, firstFailure_cons, Bool.and_eq_false_iff, decide_eq_false_iff_not, not_le, firstFailure, ne_eq,
    hsize, aligned64, beq_eq_false_iff_ne]

/-! #### What an arrival leaves of the slots that rings hold -/

/-- A slot that keeps its state and its ring counts as before. -/
theorem State.held_setSlot {s : State} {i : SlotId} {x : Slot} (hs : x.state = (s.slot i).state) (hr : x.ring = (s.slot i).ring)
    (r : Ring) : (s.setSlot i x).held r = s.held r := by
  rw [State.held, State.held]
  congr 2
  funext j
  rw [State.slot_setSlot]
  split
  next h => rw [← h, hs, hr]
  next => rfl

theorem State.sharedInUse_setSlot {s : State} {i : SlotId} {x : Slot} (hs : x.state = (s.slot i).state)
    (hr : x.ring = (s.slot i).ring) : (s.setSlot i x).sharedInUse = s.sharedInUse := by
  simp only [State.sharedInUse, State.beyond, State.held_setSlot hs hr, State.ring_setSlot]

theorem Arriving.slot_consumed {s : State} {f : Fetch} {cfg : RingConfig} (h : Arriving s f cfg) (n : Nat) (granted : Bool) :
    (s.consumed f n granted).slot f.slot = { Slot.empty with state := .fetching, ring := some f.ring } := by
  rw [State.slot_consumed s f n granted (by rw [h.reserved]; nofun), h.reserved]

/-- Consuming a record moves an index: no ring's state, configuration or reserve changes. -/
theorem State.reserveSum_consumed (s : State) (f : Fetch) (n : Nat) (granted : Bool) : (s.consumed f n granted).reserveSum = s.reserveSum := by
  rw [State.reserveSum, State.reserveSum]
  congr 2
  funext r
  rw [State.ring_consumed]
  split
  next h => rw [← h]; rfl
  next => rfl

theorem State.ring_state_consumed (s : State) (f : Fetch) (n : Nat) (granted : Bool) (r : Ring) :
    ((s.consumed f n granted).ring r).state = (s.ring r).state := by
  rw [State.ring_consumed]
  split
  next h => rw [← h]
  next => rfl

section
variable {s : State} {f : Fetch} {cfg : RingConfig} {record : Record}

theorem Arriving.firstFailure_ringCreateChecks (h : Arriving s f cfg) (granted : Bool) (args : Option OpArgs) (a : RingCreateArgs) :
    firstFailure (((s.consumed f cfg.size granted).setSlot f.slot { arrivedSlot s f cfg record with args := args }).ringCreateChecks a) =
    if a.ring.toNat < 1 ∨ 7 < a.ring.toNat then some .badRequest
    else if a.base.toNat % 64 ≠ 0 then some .badRequest
    else if a.size.toNat ∉ [16, 32, 64, 128, 256, 512, 1024] then some .badRequest
    else if a.weight.toNat < 1 ∨ 15 < a.weight.toNat then some .badRequest
    else if 16 < a.reserve.toNat then some .badRequest
    else if a.cap.toNat < 1 ∨ 64 < a.cap.toNat ∨ a.cap.toNat < a.reserve.toNat then some .badRequest
    else if 3 < a.cq.toNat then some .badRequest
    else if (s.ring (ringOf a.ring)).state ≠ .unconfigured then some .inUse
    else if (s.cq (cqOf a.cq)).state ≠ .active then some .notFound
    else if 64 < s.reserveSum + a.reserve.toNat + (s.consumed f cfg.size granted).sharedInUse then some .noSpace
    else none := by
  have hslot := h.slot_consumed cfg.size granted
  have hshared : ((s.consumed f cfg.size granted).setSlot f.slot { arrivedSlot s f cfg record with args := args }).sharedInUse =
      (s.consumed f cfg.size granted).sharedInUse :=
    State.sharedInUse_setSlot (by rw [hslot]; rfl) (by rw [hslot]; rfl)
  have hsum : ((s.consumed f cfg.size granted).setSlot f.slot { arrivedSlot s f cfg record with args := args }).reserveSum = s.reserveSum :=
    State.reserveSum_consumed s f cfg.size granted
  rw [State.firstFailure_ringCreateChecks, hshared, hsum, State.ring_setSlot, State.ring_state_consumed, State.cq_setSlot,
    State.cq_consumed]

end

/-- Settles O29. -/
theorem ringCreateChecksInOrder : Obligations.RingCreateChecksInOrder := by
  constructor
  · intro s f cfg record granted a h hi hr hk hz ha x r refusal
    have hchecks := h.firstFailure_ringCreateChecks (record := record) granted (some (.ringCreate a)) a
    change firstFailure _ = refusal at hchecks
    rw [h.exec_eq_takeOperation granted hk (by simp [hr, Kind.allowedOn]) hz ha, ← answerRing_of_admin hr cfg]
    change settled (State.takeRingCreate _ _ _) = _
    rw [State.takeRingCreate, hchecks]
    clear_value refusal
    cases refusal with
    | some status => exact Arriving.refuse hi record granted status _
    | none =>
      have hu := (hi.consumed f cfg.size granted).setRing r (RequestRing.created a.config)
      exact (settled_answer_arrivedSlot hu s f cfg record _ _).trans (congrArg _ (State.setRing_answered _ _ _ _ _ _))
  · intro s f cfg record granted a h hi hr hk hz ha x c refusal
    have hchecks := State.firstFailure_cqCreateChecks
      ((s.consumed f cfg.size granted).setSlot f.slot { arrivedSlot s f cfg record with args := some (.cqCreate a) }) a
    rw [State.cq_setSlot, State.cq_consumed] at hchecks
    change firstFailure _ = refusal at hchecks
    rw [h.exec_eq_takeOperation granted hk (by simp [hr, Kind.allowedOn]) hz ha, ← answerRing_of_admin hr cfg]
    change settled (State.takeCqCreate _ _ _) = _
    rw [State.takeCqCreate, hchecks]
    clear_value refusal
    cases refusal with
    | some status => exact Arriving.refuse hi record granted status _
    | none =>
      have hu := (hi.consumed f cfg.size granted).setCq c (CompletionRing.created a.config)
      exact settled_answer_arrivedSlot hu s f cfg record _ _

end Sys2Proof.Machine
end

/-! ### Records refused by the checks of R9 (R10, R30, R31, R34, R35) -/

section
namespace Sys2Proof.Machine

/-- A record refused in its acceptance step, by whichever of the checks (R10). -/
theorem Arriving.exec_refused {s : State} {f : Fetch} {cfg : RingConfig} (h : Arriving s f cfg) (hi : IdleTimersFollow s)
    {record : Record} {granted : Bool} {status : Status}
    (hc : (s.arrived f cfg record granted).checkRecord f.slot f.ring record = (s.arrived f cfg record granted).refuse f.slot status) :
    exec (.fetchComplete ⟨record, granted⟩) s = .next ((s.consumed f cfg.size granted).answered f.slot (answerRing f cfg)
      (doneWith (arrivedSlot s f cfg record) (plainResult status 0 zeroArea))) := by
  rw [exec_fetchComplete h, hc]
  exact Arriving.refuse hi record granted status none

/-! #### Checks 1 to 4 -/

theorem Kind.allowedOn_iff (k : Kind) (r : Ring) :
    k.allowedOn r = true ↔ if k.isExchange = true ∨ k ∈ [.abort, .hold, .release] then r ≠ 0 else r = 0 := by
  cases k <;> simp [Kind.allowedOn, Kind.isExchange]

theorem argsOf_of_isExchange {k : Kind} (h : k.isExchange = true) (record : Record) : argsOf k record = none := by
  cases k <;> simp_all [argsOf, Kind.isExchange]

section
variable (s : State) (i : SlotId) {r : Ring} {record : Record} {k : Kind}

theorem State.checkRecord_of_no_kind (hk : kindOf record = none) : s.checkRecord i r record = s.refuse i .badRequest := by
  rw [State.checkRecord, hk]

theorem State.checkRecord_of_not_allowed (hk : kindOf record = some k) (h : k.allowedOn r = false) :
    s.checkRecord i r record = s.refuse i .badRequest := by
  simp only [State.checkRecord, hk, h, if_true]

theorem State.checkRecord_of_reserved (hk : kindOf record = some k) (hz : record[7] ≠ 0) :
    s.checkRecord i r record = s.refuse i .badRequest := by
  have hrz : reservedZero record = false := by simpa [reservedZero] using hz
  cases ha : k.allowedOn r
  · exact s.checkRecord_of_not_allowed i hk ha
  · simp only [State.checkRecord, hk, ha, hrz, Bool.true_eq_false, if_false, if_true]

/-- A READ or WRITE that passes checks 1 to 3 is taken as an exchange. -/
theorem State.checkRecord_of_exchange (hk : kindOf record = some k) (hx : k.isExchange = true) (hr : r ≠ 0) (hz : record[7] = 0) :
    s.checkRecord i r record = s.acceptExchange i k record := by
  have ha : k.allowedOn r = true := by simp [Kind.allowedOn_iff, hx, hr]
  have hrz : reservedZero record = true := by simpa [reservedZero] using hz
  simp only [State.checkRecord, hk, ha, hrz, argsOf_of_isExchange hx, Bool.true_eq_false, if_false]

theorem exchangeHeaderOk_iff : exchangeHeaderOk record = true ↔ record[6].toNat ≤ 8 ∧ record[1].toNat < 64 := by
  have h64 : record[1].toNat / 64 = 0 ↔ record[1].toNat < 64 := by omega
  have hlen : decide (lengthOf record ≤ 8) = true ↔ record[6].toNat ≤ 8 := decide_eq_true_iff
  simp only [exchangeHeaderOk, Bool.and_eq_true, beq_iff_eq, hlen, h64]

theorem State.checkRecord_of_header (hk : kindOf record = some k) (hx : k.isExchange = true)
    (h : 8 < record[6].toNat ∨ 64 ≤ record[1].toNat) : s.checkRecord i r record = s.refuse i .badRequest := by
  by_cases hz : record[7] = 0
  · by_cases hr : r = 0
    · exact s.checkRecord_of_not_allowed i hk (by simp [← Bool.not_eq_true, Kind.allowedOn_iff, hx, hr])
    · have hh : exchangeHeaderOk record = false := by
        rw [← Bool.not_eq_true, exchangeHeaderOk_iff]
        omega
      rw [s.checkRecord_of_exchange i hk hx hr hz, State.acceptExchange, if_pos hh]
  · exact s.checkRecord_of_reserved i hk hz

/-- What refuses a record with BAD_REQUEST: checks 1 to 4 of R9. -/
theorem State.checkRecord_badRequest (h : kindOf record = none ∨ ∃ k, kindOf record = some k ∧
    ((k.isExchange = false ∧ k ∉ [.abort, .hold, .release] ∧ r ≠ 0) ∨
      ((k.isExchange = true ∨ k ∈ [.abort, .hold, .release]) ∧ r = 0) ∨ record[7] ≠ 0 ∨
      (k.isExchange = true ∧ (8 < record[6].toNat ∨ 64 ≤ record[1].toNat)))) :
    s.checkRecord i r record = s.refuse i .badRequest := by
  rcases h with hk | ⟨k, hk, ⟨hx, hm, hr⟩ | ⟨hx, hr⟩ | hz | ⟨hx, hh⟩⟩
  · exact s.checkRecord_of_no_kind i hk
  · exact s.checkRecord_of_not_allowed i hk (by rw [← Bool.not_eq_true, Kind.allowedOn_iff, if_neg (by simp [hx, hm])]; exact hr)
  · exact s.checkRecord_of_not_allowed i hk (by rw [← Bool.not_eq_true, Kind.allowedOn_iff, if_pos hx]; exact not_not.2 hr)
  · exact s.checkRecord_of_reserved i hk hz
  · exact s.checkRecord_of_header i hk hx hh

end

/-! #### Check 5: the node map -/

theorem MapEntry.covers_iff (e : MapEntry) (node : Half) :
    e.covers node = true ↔ e.valid = true ∧ e.first.toNat ≤ node.toNat ∧ node.toNat ≤ e.last.toNat := by
  simp [MapEntry.covers, and_assoc]

theorem State.matchingEntry_of_none {s : State} {node : Half}
    (h : ∀ e : EntryId, ¬ ((s.map.get e).valid = true ∧ (s.map.get e).first.toNat ≤ node.toNat ∧ node.toNat ≤ (s.map.get e).last.toNat)) :
    s.matchingEntry node = none := by
  rw [State.matchingEntry, List.find?_eq_none.2 fun e _ => (MapEntry.covers_iff _ _).not.2 (h e)]
  rfl

theorem State.matchingEntry_of_matches {s : State} {e : EntryId} {node : Half} (h : Matches s e node) :
    s.matchingEntry node = some (s.map.get e) := by
  obtain ⟨he, hlow⟩ := h
  rw [State.matchingEntry, find?_finRange_eq_some ((MapEntry.covers_iff _ _).2 he) fun d hd =>
    Bool.not_eq_true _ ▸ (MapEntry.covers_iff _ _).not.2 (hlow d hd)]
  rfl

/-- Whether an entry permits a READ or WRITE (R31). -/
theorem MapEntry.permits_iff (e : MapEntry) {k : Kind} (hk : k.isExchange = true) : e.permits k = true ↔
    (k = .read → e.readOk = true ∧ e.kind ≠ .fan) ∧ (k = .write → e.writeOk = true) := by
  cases k <;> simp_all [MapEntry.permits, Kind.isExchange]

section
variable {s : State} (i : SlotId) {k : Kind} {record : Record} {e : MapEntry} (hh : exchangeHeaderOk record = true)
include hh

theorem State.acceptExchange_of_no_entry (h : s.matchingEntry (nodeOf record) = none) :
    s.acceptExchange i k record = s.refuse i .badTarget := by
  simp only [State.acceptExchange, hh, Bool.true_eq_false, if_false, h]

theorem State.acceptExchange_of_not_permitted (h : s.matchingEntry (nodeOf record) = some e) (hp : e.permits k = false) :
    s.acceptExchange i k record = s.refuse i .badTarget := by
  simp only [State.acceptExchange, hh, Bool.true_eq_false, if_false, h, hp, if_true]

theorem State.acceptExchange_of_no_path (h : s.matchingEntry (nodeOf record) = some e) (hp : e.permits k = true) {status : Status}
    (hr : s.pathChoice e (retryBudgetOf record) = .error status) : s.acceptExchange i k record = s.refuse i status := by
  simp only [State.acceptExchange, hh, Bool.true_eq_false, if_false, h, hp, hr]

theorem State.acceptExchange_of_route (h : s.matchingEntry (nodeOf record) = some e) (hp : e.permits k = true) {route : Route}
    (hr : s.pathChoice e (retryBudgetOf record) = .ok route) :
    s.acceptExchange i k record = s.launch i k record (e.frameId (nodeOf record)) route := by
  simp only [State.acceptExchange, hh, Bool.true_eq_false, if_false, h, hp, hr]

end

/-! #### Check 6: the path choice -/

theorem LineState.usable_iff (x : LineState) : x.usable = true ↔ x ∈ ([.syncing, .active, .dormant, .waking] : List LineState) := by
  cases x <;> simp [LineState.usable]

section
variable (s : State) (e : MapEntry) (n : Nat)

/-- What path choice refuses (R34, R35). -/
theorem State.pathChoice_of_single_off (hk : e.kind = .single) (h : (s.seg e.segA).lineState = .off) :
    s.pathChoice e n = .error (.outcome .segmentOff) := by
  rw [State.pathChoice, hk, h]

theorem State.pathChoice_of_single_faulted (hk : e.kind = .single) {why : FaultReason} (h : (s.seg e.segA).lineState = .faulted why) :
    s.pathChoice e n = .error (.outcome .segmentFault) := by
  rw [State.pathChoice, hk, h]

theorem State.pathChoice_of_pair (hk : e.kind = .pair) : s.pathChoice e n =
    if (s.seg e.segA).lineState.usable then .ok ⟨.pair e.segA e.segB, [waitingLeg e.segA (some .primary) n], false⟩
    else if (s.seg e.segB).lineState.usable then .ok ⟨.pair e.segA e.segB, [waitingLeg e.segB (some .secondary) n], true⟩
    else .error .noPath := by
  rw [State.pathChoice, hk]

end

section
variable (s : State) (f : Fetch) (cfg : RingConfig) (record : Record) (granted : Bool)

theorem State.map_arrived : (s.arrived f cfg record granted).map = s.map := State.map_consumed s f cfg.size granted

theorem State.seg_arrived (g : Seg) : (s.arrived f cfg record granted).seg g = s.seg g := State.seg_consumed s f cfg.size granted g

theorem State.matchingEntry_arrived (node : Half) : (s.arrived f cfg record granted).matchingEntry node = s.matchingEntry node := by
  rw [State.matchingEntry, State.matchingEntry, State.map_arrived]

theorem State.pathChoice_arrived (e : MapEntry) (n : Nat) : (s.arrived f cfg record granted).pathChoice e n = s.pathChoice e n := by
  simp only [State.pathChoice, State.seg_arrived]

end

/-- Settles O24. -/
theorem refusedRecordIsAnswered : Obligations.RefusedRecordIsAnswered := by
  constructor
  · intro s f cfg record granted status h hi hfail
    refine h.exec_refused hi ?_
    rcases hfail with ⟨rfl, hbad⟩ | ⟨rfl, hr, hz, hlen, hone, k, hk, hx, htarget⟩
    · exact State.checkRecord_badRequest _ _ hbad
    · have hh := exchangeHeaderOk_iff.2 ⟨hlen, hone⟩
      rw [State.checkRecord_of_exchange _ _ hk hx hr hz]
      rcases htarget with hnone | ⟨e, hv, hf, hl, hlow, hperm⟩
      · exact State.acceptExchange_of_no_entry _ hh ((s.matchingEntry_arrived f cfg record granted _).trans (State.matchingEntry_of_none hnone))
      · have he := (s.matchingEntry_arrived f cfg record granted (nodeOf record)).trans
          (State.matchingEntry_of_matches (e := e) ⟨⟨hv, hf, hl⟩, hlow⟩)
        have hp : (s.map.get e).permits k = false := by
          rw [← Bool.not_eq_true, MapEntry.permits_iff _ hx]
          rintro ⟨hread, hwrite⟩
          rcases hperm with ⟨rfl, hro | hfan⟩ | ⟨rfl, hwo⟩
          · exact absurd (hread rfl).1 (by simp [hro])
          · exact (hread rfl).2 hfan
          · exact absurd (hwrite rfl) (by simp [hwo])
        exact State.acceptExchange_of_not_permitted _ hh he hp
  · intro s f cfg record granted k e status h hi hr hk hx hz hlen hone hm hread hwrite a b hfail
    refine h.exec_refused hi ?_
    have hh := exchangeHeaderOk_iff.2 ⟨hlen, hone⟩
    have he := (s.matchingEntry_arrived f cfg record granted (nodeOf record)).trans (State.matchingEntry_of_matches hm)
    have hp : (s.map.get e).permits k = true := (MapEntry.permits_iff _ hx).2 ⟨hread, hwrite⟩
    have hpath : s.pathChoice (s.map.get e) (retryBudgetOf record) = .error status := by
      rcases hfail with ⟨hs, ha, rfl⟩ | ⟨hs, ⟨why, ha⟩, rfl⟩ | ⟨hs, ha, hb, rfl⟩
      · exact State.pathChoice_of_single_off _ _ _ hs ha
      · exact State.pathChoice_of_single_faulted _ _ _ hs ha
      · rw [State.pathChoice_of_pair _ _ _ hs, if_neg (by rw [LineState.usable_iff]; exact ha),
          if_neg (by rw [LineState.usable_iff]; exact hb)]
    rw [State.checkRecord_of_exchange _ _ hk hx hr hz]
    exact State.acceptExchange_of_no_path _ hh he hp ((s.pathChoice_arrived f cfg record granted _ _).trans hpath)

end Sys2Proof.Machine
end

/-! ### Records accepted as exchanges (R11, R12, R15, R30 to R37, R40, R93) -/

section
namespace Sys2Proof.Machine

/-! #### The place of the newest leg in a queue -/

/-- In a list whose keys do not rise, an entry that goes before the lower keys alone stands after all others (R40). -/
theorem insertOrdered_of_keys {α : Type} {before : α → α → Bool} {key : α → Nat} {x : α} {n : Nat} :
    ∀ {l : List α}, l.Pairwise (fun a b => key b ≤ key a) → (∀ y ∈ l, before x y = decide (key y < n)) →
      insertOrdered before x l = l.filter (fun y => decide (n ≤ key y)) ++ x :: l.filter (fun y => decide (key y < n))
  | [], _, _ => rfl
  | y :: l, hp, hb => by
    obtain ⟨hy, hp⟩ := List.pairwise_cons.1 hp
    rw [insertOrdered, hb y List.mem_cons_self]
    by_cases h : key y < n
    · have hlow (z : α) (hz : z ∈ y :: l) : key z < n := by
        rcases List.mem_cons.1 hz with rfl | hz
        · exact h
        · exact (hy z hz).trans_lt h
      have hnone : (y :: l).filter (fun z => decide (n ≤ key z)) = [] :=
        List.filter_eq_nil_iff.2 fun z hz => by simp [hlow z hz]
      have hall : (y :: l).filter (fun z => decide (key z < n)) = y :: l :=
        List.filter_eq_self.2 fun z hz => by simp [hlow z hz]
      rw [if_pos (decide_eq_true h), hnone, hall, List.nil_append]
    · rw [if_neg (by simpa using h), insertOrdered_of_keys hp fun z hz => hb z (List.mem_cons_of_mem _ hz),
        List.filter_cons_of_pos (by simpa using h), List.filter_cons_of_neg (by simpa using h), List.cons_append]

/-! #### Legs that join their queues -/

/-- The segment record once a leg waits in its queue: a DORMANT segment with wake_on_demand and no pulse starts one (R93). -/
def Segment.demanded (x : Segment) : Segment :=
  if x.lineState = .dormant ∧ x.config.wakeOnDemand = true ∧ x.wakePulse = none then
    { x with wakePulse := some .onDemand, line := .wakePulse }
  else x

theorem Segment.demanded_stopped (x : Segment) : { x.demanded with idleTimer := .stopped } = joinedRecord x := by
  rw [Segment.demanded, joinedRecord]
  split
  · rfl
  · rfl

theorem Segment.idleTimerFor_cons (x : Segment) {q : List SlotId} (h : q ≠ []) : x.idleTimerFor q = .stopped := by
  simp [Segment.idleTimerFor, Segment.idleRuns, h]

theorem State.wakeOnDemand_of_queued {s : State} {g : Seg} (h : s.queue g ≠ []) :
    s.wakeOnDemand g = s.setSeg g (s.seg g).demanded := by
  rw [State.wakeOnDemand_eq, Segment.demanded]
  simp only [ne_eq, h, not_false_eq_true, and_true]
  split
  · rfl
  · rw [State.setSeg_self]

theorem insertOrdered_ne_nil {α : Type} (before : α → α → Bool) (x : α) (l : List α) : insertOrdered before x l ≠ [] := fun h => by
  have hm := (mem_insertOrdered before x x l).2 (.inl rfl)
  rw [h] at hm
  exact List.not_mem_nil hm

/-- A leg that joins a queue changes the queue and its segment's record. -/
theorem State.joinQueue_eq (s : State) (i : SlotId) (g : Seg) : s.joinQueue i g =
    (s.setQueue g (insertOrdered s.ordersBefore i (s.queue g))).setSeg g (s.seg g).demanded := by
  rw [State.joinQueue, State.wakeOnDemand_of_queued (by rw [State.queue_setQueue_self]; exact insertOrdered_ne_nil _ _ _)]
  rfl

theorem State.seg_joinQueue (s : State) (i : SlotId) (g k : Seg) :
    (s.joinQueue i g).seg k = if g = k then (s.seg k).demanded else s.seg k := by
  rw [State.joinQueue_eq, State.seg_setSeg]
  split
  next h => rw [← h]
  next => rfl

/-- Legs that join several queues change these queues and their segments' records. -/
theorem State.foldl_joinQueue_only (i : SlotId) (gs : List Seg) (u : State) :
    gs.foldl (fun s g => s.joinQueue i g) u =
      { u with queues := (gs.foldl (fun s g => s.joinQueue i g) u).queues, segs := (gs.foldl (fun s g => s.joinQueue i g) u).segs } := by
  induction gs generalizing u with
  | nil => rfl
  | cons g gs ih =>
    rw [List.foldl_cons, ih, State.joinQueue_eq]
    rfl

theorem State.seg_foldl_joinQueue (i : SlotId) (gs : List Seg) (hn : gs.Nodup) (u : State) (k : Seg) :
    (gs.foldl (fun s g => s.joinQueue i g) u).seg k = if k ∈ gs then (u.seg k).demanded else u.seg k := by
  induction gs generalizing u with
  | nil => rfl
  | cons g gs ih =>
    obtain ⟨hg, hn⟩ := List.nodup_cons.1 hn
    rw [List.foldl_cons, ih hn, State.seg_joinQueue]
    by_cases hk : g = k
    · subst hk
      simp [hg]
    · simp [hk, Ne.symm hk]

/-- The joined segments' records once the timers are settled: a leg waits, so that the idle timer is stopped (R89, R93). -/
theorem State.seg_refreshIdle_joined {u : State} (hu : IdleTimersFollow u) (i : SlotId) {gs : List Seg} (hn : gs.Nodup) (k : Seg) :
    (gs.foldl (fun s g => s.joinQueue i g) u).refreshIdle.seg k = if k ∈ gs then joinedRecord (u.seg k) else u.seg k := by
  have hq := (State.foldl_joinQueue i gs hn u).2.2.2 k
  rw [State.seg_refreshIdle, State.seg_foldl_joinQueue i gs hn, hq]
  by_cases hk : k ∈ gs
  · simp only [if_pos hk]
    rw [Segment.idleTimerFor_cons _ (insertOrdered_ne_nil _ _ _), Segment.demanded_stopped]
  · simp only [if_neg hk]
    rw [← (idleTimersFollow_iff u).1 hu k]

end Sys2Proof.Machine
end

/-! ### Exchanges accepted over a SINGLE, PAIR or FAN entry (R11, R12, R34 to R37) -/

section
namespace Sys2Proof.Machine

theorem State.lifetimes_consumed (s : State) (f : Fetch) (n : Nat) (granted : Bool) : (s.consumed f n granted).lifetimes = s.lifetimes := by
  rw [State.consumed, State.grantIf_eq]; rfl

/-- The slot of fetch `f` once its record has been accepted over a route (R11, R12, R15). -/
def acceptedSlot (s : State) (f : Fetch) (cfg : RingConfig) (record : Record) (k : Kind) (id : Nat) (route : Route) : Slot :=
  { arrivedSlot s f cfg record with
    state := .live
    exchange := some (exchangeOf k record route.target id)
    payload := if k = .write then some (payloadOf record) else none
    deadline := deadlineFor (s.lifetimes.get (timeoutClassOf record))
    deadlineTimer := deadlineTimerFor (s.lifetimes.get (timeoutClassOf record))
    alternatePath := route.alternate
    failoverUsed := route.alternate
    legs := route.legs }

section
variable {s : State} {f : Fetch} {cfg : RingConfig} {record : Record} {granted : Bool}

theorem State.launched_arrived (k : Kind) (id : Nat) (route : Route) :
    (s.arrived f cfg record granted).launched f.slot k record id route = acceptedSlot s f cfg record k id route := by
  have hslot : (s.arrived f cfg record granted).slot f.slot = arrivedSlot s f cfg record := State.slot_setSlot_self _ _ _
  have hlife : (s.arrived f cfg record granted).lifetimes = s.lifetimes := State.lifetimes_consumed s f cfg.size granted
  rw [State.launched, hslot, hlife]
  rfl

/-- FETCH_COMPLETE of a READ or WRITE that passes the checks of R9: its slot is LIVE and its WAITING legs join their queues. -/
theorem Arriving.exec_exchange (h : Arriving s f cfg) {k : Kind} (hk : kindOf record = some k) (hx : k.isExchange = true)
    (hr : f.ring ≠ 0) (hz : record[7] = 0) (hlen : record[6].toNat ≤ 8) (hone : record[1].toNat < 64) {e : EntryId}
    (hm : Matches s e (nodeOf record)) (hp : (s.map.get e).permits k = true) {route : Route}
    (hroute : s.pathChoice (s.map.get e) (retryBudgetOf record) = .ok route) {y : Slot}
    (hy : y = acceptedSlot s f cfg record k ((s.map.get e).frameId (nodeOf record)) route) :
    exec (.fetchComplete ⟨record, granted⟩) s =
      settled ((y.waitingOn.foldl (fun s g => s.joinQueue f.slot g) ((s.consumed f cfg.size granted).setSlot f.slot y)).checkDone f.slot) := by
  have he := (s.matchingEntry_arrived f cfg record granted (nodeOf record)).trans (State.matchingEntry_of_matches hm)
  rw [exec_fetchComplete h, State.checkRecord_of_exchange _ _ hk hx hr hz,
    State.acceptExchange_of_route _ (exchangeHeaderOk_iff.2 ⟨hlen, hone⟩) he hp ((s.pathChoice_arrived f cfg record granted _ _).trans hroute),
    State.launch_eq, State.launched_arrived, ← hy, State.joinWaiting, State.slot_setSlot_self, State.arrived, State.setSlot_setSlot]

/-! #### The newest exchange stands behind its own priority -/

theorem acceptedSlot_waits_last (h : Arriving s f cfg) (hd : DispatchLegal s) {y : Slot} {x : Exchange} (hx : y.exchange = some x)
    (ha : y.arrival = some (s.lastArrival + 1)) (g : Seg) :
    insertOrdered ((s.consumed f cfg.size granted).setSlot f.slot y).ordersBefore f.slot (s.queue g) =
      (s.queue g).filter (fun j => decide (x.priority ≤ s.priorityOf j)) ++ f.slot ::
        (s.queue g).filter (fun j => decide (s.priorityOf j < x.priority)) := by
  have hmember (j : SlotId) (hj : j ∈ s.queue g) : (s.slot j).state = .live := ((hd.queued g j).1 hj).1
  have hkept (j : SlotId) (hj : j ∈ s.queue g) :
      ((s.consumed f cfg.size granted).setSlot f.slot y).slot j = s.slot j := by
    have hne : f.slot ≠ j := by
      rintro rfl
      have hl := hmember _ hj
      rw [h.reserved] at hl
      cases hl
    rw [State.slot_setSlot_of_ne _ _ _ _ hne, State.slot_consumed _ _ _ _ (by rw [hmember j hj]; nofun)]
  refine insertOrdered_of_keys ((hd.ordered g).imp fun hab => ?_) fun j hj => ?_
  · rw [State.ordersBefore_iff] at hab
    omega
  · obtain ⟨n, hn, hle⟩ := hd.arrived j (hmember j hj)
    have hself : ((s.consumed f cfg.size granted).setSlot f.slot y).slot f.slot = y := State.slot_setSlot_self _ _ _
    rw [Bool.eq_iff_iff, State.ordersBefore_iff, decide_eq_true_eq]
    simp only [State.priorityOf, State.arrivalOf, hself, hkept j hj, hx, ha, hn, Option.getD_some]
    omega

end

end Sys2Proof.Machine
end

/-! ### What an accepted exchange leaves of its queues, segments and slot (R12, R18, R40, R93) -/

section
namespace Sys2Proof.Machine

/-- Two states that differ in no queue, no segment record and in no other field are equal. -/
theorem State.eq_of_lines {s t : State} (h : t = { s with queues := t.queues, segs := t.segs }) (hq : ∀ g, s.queue g = t.queue g)
    (hg : ∀ g, s.seg g = t.seg g) : s = t := by
  have hqueues : s.queues = t.queues := by
    apply Vector.ext
    intro i hi
    simpa [State.queue, Vector.get_eq_getElem] using hq ⟨i, hi⟩
  refine State.eq_of_segs ?_ hg
  rw [h]
  simp only [hqueues]

theorem Slot.mem_waitingOn (y : Slot) (g : Seg) : g ∈ y.waitingOn ↔ ∃ l ∈ y.legs, l.segment = g ∧ l.state = .waiting := by
  simp only [Slot.waitingOn, List.mem_map, List.mem_filter, decide_eq_true_eq]
  constructor
  · rintro ⟨l, ⟨hl, hw⟩, hg⟩
    exact ⟨l, hl, hg, hw⟩
  · rintro ⟨l, hl, hg, hw⟩
    exact ⟨l, ⟨hl, hw⟩, hg⟩

section
variable {s : State} {f : Fetch} {cfg : RingConfig} {granted : Bool} {y : Slot} {x : Exchange}

/-- An exchange with a WAITING leg: its queues and their segments' records change, and no other field. -/
theorem Arriving.settled_waiting (h : Arriving s f cfg) (hi : IdleTimersFollow s) (hd : DispatchLegal s) (hx : y.exchange = some x)
    (ha : y.arrival = some (s.lastArrival + 1)) (hn : y.waitingOn.Nodup) (hw : ∃ l ∈ y.legs, l.state = .waiting) :
    ∃ t, settled ((y.waitingOn.foldl (fun s g => s.joinQueue f.slot g) ((s.consumed f cfg.size granted).setSlot f.slot y)).checkDone
        f.slot) = .next t ∧
      t = { (s.consumed f cfg.size granted).setSlot f.slot y with queues := t.queues, segs := t.segs } ∧
      ∀ g, (g ∈ y.waitingOn → t.queue g = (s.queue g).filter (fun j => decide (x.priority ≤ s.priorityOf j)) ++ f.slot ::
          (s.queue g).filter (fun j => decide (s.priorityOf j < x.priority)) ∧ t.seg g = joinedRecord (s.seg g)) ∧
        (g ∉ y.waitingOn → t.queue g = s.queue g ∧ t.seg g = s.seg g) := by
  obtain ⟨u, hu⟩ : ∃ u, u = (s.consumed f cfg.size granted).setSlot f.slot y := ⟨_, rfl⟩
  obtain ⟨v, hv⟩ : ∃ v, v = y.waitingOn.foldl (fun s g => s.joinQueue f.slot g) u := ⟨_, rfl⟩
  have honly : v = { u with queues := v.queues, segs := v.segs } := hv ▸ State.foldl_joinQueue_only f.slot y.waitingOn u
  obtain ⟨hslots, -, -, hqueue⟩ := State.foldl_joinQueue f.slot y.waitingOn hn u
  have hself : v.slot f.slot = y := by
    rw [hv, State.slot_of_slots hslots, hu, State.slot_setSlot_self]
  obtain ⟨l, hl, hlw⟩ := hw
  have hdone : v.checkDone f.slot = v := State.checkDone_of_hasLeg (g := l.segment) (by rw [hself]; exact ⟨l, hl, rfl, hlw⟩)
  have huq (g : Seg) : u.queue g = s.queue g := by rw [hu]; exact State.queue_consumed s f cfg.size granted g
  have hus (g : Seg) : u.seg g = s.seg g := by rw [hu]; exact State.seg_consumed s f cfg.size granted g
  have hfollow : IdleTimersFollow u := hu ▸ hi.consumed f cfg.size granted
  rw [← hu, ← hv, hdone]
  refine ⟨v.refreshIdle, rfl, by rw [honly]; rfl, fun g => ?_⟩
  have hseg := State.seg_refreshIdle_joined hfollow f.slot hn g
  have hq := hqueue g
  rw [← hv, hus] at hseg
  rw [← hv, huq] at hq
  refine ⟨fun hg => ?_, fun hg => ?_⟩
  · rw [hseg, if_pos hg, State.queue_refreshIdle, hq, if_pos hg, hu]
    exact ⟨acceptedSlot_waits_last h hd hx ha g, rfl⟩
  · rw [hseg, if_neg hg, State.queue_refreshIdle, hq, if_neg hg]
    exact ⟨rfl, rfl⟩

/-- An exchange all of whose legs were created FINISHED goes DONE at once (R18). -/
theorem settled_finished (hi : IdleTimersFollow s) {c : Cq} (hx : y.exchange = some x) (hl : y.state = .live) (hc : y.cq = some c)
    (hw : ∀ l ∈ y.legs, l.state = .finished) :
    settled ((y.waitingOn.foldl (fun s g => s.joinQueue f.slot g) ((s.consumed f cfg.size granted).setSlot f.slot y)).checkDone
        f.slot) = .next ((s.consumed f cfg.size granted).answered f.slot c (doneWith y (exchangeResult y x))) := by
  have hnone : y.waitingOn = [] := List.eq_nil_iff_forall_not_mem.2 fun g hg => by
    obtain ⟨l, hl, -, hlw⟩ := (y.mem_waitingOn g).1 hg
    rw [hw l hl] at hlw
    cases hlw
  have hfin : y.legsFinished = true := List.all_eq_true.2 fun l hl => decide_eq_true (hw l hl)
  have hself : ((s.consumed f cfg.size granted).setSlot f.slot y).slot f.slot = y := State.slot_setSlot_self _ _ _
  have hdone : ((s.consumed f cfg.size granted).setSlot f.slot y).checkDone f.slot =
      (s.consumed f cfg.size granted).answered f.slot c (doneWith y (exchangeResult y x)) := by
    simp only [State.checkDone, hself, hx, hl, hfin, and_self, if_true]
    rw [State.completeSlot_eq (c := c) _ (.inr (by rw [hself, hl])) (by rw [hself, hc]), hself, State.setSlot_answered]
  rw [hnone, List.foldl_nil, hdone, settled, State.refreshIdle_of_follow ((hi.consumed f cfg.size granted).answered _ _ _)]

end

/-! #### The routes -/

theorem State.pathChoice_of_single (s : State) {e : MapEntry} (n : Nat) (hk : e.kind = .single) (h : (s.seg e.segA).lineState.usable = true) :
    s.pathChoice e n = .ok ⟨.single e.segA, [waitingLeg e.segA none n], false⟩ := by
  rw [State.pathChoice, hk]
  cases hl : (s.seg e.segA).lineState <;> simp_all [LineState.usable]

theorem State.pathChoice_of_fan (s : State) {e : MapEntry} (n : Nat) (hk : e.kind = .fan) :
    s.pathChoice e n = .ok ⟨.fan e.fanMask, (setMembers e.fanMask).map (fun g => fanLeg g (s.seg g).lineState n), false⟩ := by
  rw [State.pathChoice, hk]

/-- A FAN leg by whether its segment is usable (R36). -/
theorem fanLeg_eq (g : Seg) (x : LineState) (n : Nat) : fanLeg g x n =
    if x.usable then waitingLeg g none n
    else { waitingLeg g none n with
      state := .finished, outcome := some (if x = .off then .segmentOff else .segmentFault) } := by
  cases x <;> rfl

theorem Route.Legal.nodup_waitingOn {route : Route} (h : route.Legal) {y : Slot} (hy : y.legs = route.legs) : y.waitingOn.Nodup := by
  rw [Slot.waitingOn, hy]
  exact List.pairwise_map.2 (List.Pairwise.filter _ h.distinct)

/-- Settles O25: the route decides the slot's legs, `Arriving.settled_waiting` what the WAITING ones change. -/
theorem singleExchangeIsAccepted : Obligations.SingleExchangeIsAccepted := by
  constructor
  · intro s f cfg record granted k e h hi hd _ hr hk hx hz hlen hone hv hf hl hlow hkind hread hwrite husable g id life slot wakes
    have hm : Matches s e (nodeOf record) := ⟨⟨hv, hf, hl⟩, hlow⟩
    have hp : (s.map.get e).permits k = true :=
      (MapEntry.permits_iff _ hx).2 ⟨fun hk => ⟨hread hk, by rw [hkind]; nofun⟩, hwrite⟩
    have hroute := s.pathChoice_of_single (retryBudgetOf record) hkind ((LineState.usable_iff _).2 husable)
    have hy : slot = acceptedSlot s f cfg record k ((s.map.get e).frameId (nodeOf record))
      ⟨.single g, [waitingLeg g none (retryBudgetOf record)], false⟩ := rfl
    have hon : slot.waitingOn = [g] := rfl
    rw [h.exec_exchange hk hx hr hz hlen hone hm hp hroute hy]
    obtain ⟨t, ht, honly, hlines⟩ := h.settled_waiting (granted := granted) (y := slot) hi hd rfl rfl (by rw [hon]; exact List.nodup_singleton g)
      ⟨_, List.mem_singleton_self _, rfl⟩
    rw [ht]
    refine congrArg Host.Outcome.next (State.eq_of_lines (by rw [honly]; rfl) (fun j => ?_) fun j => ?_)
    · rw [State.queue_setSeg, State.queue_setQueue]
      by_cases hj : g = j
      · subst hj
        rw [if_pos rfl, ((hlines g).1 (by rw [hon]; exact List.mem_singleton_self g)).1]
      · rw [if_neg hj, State.queue_setSlot, State.queue_consumed,
          ((hlines j).2 (by rw [hon]; exact fun hm => hj (List.mem_singleton.1 hm).symm)).1]
    · rw [State.seg_setSeg]
      by_cases hj : g = j
      · subst hj
        rw [if_pos rfl, ((hlines g).1 (by rw [hon]; exact List.mem_singleton_self g)).2]
        rfl
      · rw [if_neg hj, State.seg_setQueue, State.seg_setSlot, State.seg_consumed,
          ((hlines j).2 (by rw [hon]; exact fun hm => hj (List.mem_singleton.1 hm).symm)).2]
  · intro s f cfg record granted k e h hi hd _ hr hk hx hz hlen hone hm hread hwrite m usable htarget id life alternate leg legs x slot u
    have hp : m.permits k = true := (MapEntry.permits_iff _ hx).2 ⟨hread, hwrite⟩
    have husable (g : Seg) : usable g = (s.seg g).lineState.usable := by
      rw [Bool.eq_iff_iff, LineState.usable_iff]
      exact decide_eq_true_iff
    have hroute : s.pathChoice m (retryBudgetOf record) = .ok ⟨x.target, legs, alternate⟩ := by
      rcases htarget with ⟨hkind, hab⟩ | hkind
      · rw [State.pathChoice_of_pair _ _ _ hkind, ← husable, ← husable]
        have hne : ¬ m.kind = .fan := by rw [hkind]; nofun
        simp only [x, legs, alternate, if_neg hne, hkind, decide_true, Bool.true_and]
        cases ha : usable m.segA
        · have hb : usable m.segB = true := hab.resolve_left (by simp [ha])
          simp [hb]
          rfl
        · rfl
      · rw [State.pathChoice_of_fan _ _ hkind]
        simp only [x, legs, alternate, if_pos hkind, show decide (m.kind = .pair) = false from decide_eq_false (by rw [hkind]; nofun),
          Bool.false_and]
        congr 2
        refine List.map_congr_left fun g _ => ?_
        rw [fanLeg_eq, husable]
        rfl
    have hlegal : Route.Legal ⟨x.target, legs, alternate⟩ := State.pathChoice_legal (hd.entries e) hroute
    have hy : slot = acceptedSlot s f cfg record k (m.frameId (nodeOf record)) ⟨x.target, legs, alternate⟩ := rfl
    rw [h.exec_exchange hk hx hr hz hlen hone hm hp hroute hy]
    refine ⟨fun hw => ?_, fun hfin => settled_finished (y := slot) hi rfl rfl rfl hfin⟩
    obtain ⟨t, ht, honly, hlines⟩ := h.settled_waiting (granted := granted) (y := slot) hi hd rfl rfl (hlegal.nodup_waitingOn rfl) hw
    refine ⟨t, ht, honly, fun g => ⟨fun hg => (hlines g).1 ((slot.mem_waitingOn g).2 hg), fun hg => (hlines g).2 fun hm => ?_⟩⟩
    obtain ⟨l, hl, hlg, hlw⟩ := (slot.mem_waitingOn g).1 hm
    exact hg l hl hlg hlw

end Sys2Proof.Machine
end

/-! ### The phases of a frame (R61, R63 to R69, R73, R82) -/

section
namespace Sys2Proof.Machine

/-! #### One segment record replaced in a step -/

theorem IdleTimersFollow.of_not_idle {s : State} (h : IdleTimersFollow s) {g : Seg} (hp : (s.seg g).phase ≠ .idle) :
    (s.seg g).idleTimer = .stopped :=
  h.stopped (by simp [Segment.idleRuns, hp])

theorem Segment.idleTimerFor_of_not_idle {x : Segment} (h : x.phase ≠ .idle) (q : List SlotId) : x.idleTimerFor q = .stopped := by
  simp [Segment.idleTimerFor, Segment.idleRuns, h]

section
variable {s : State} (h : IdleTimersFollow s) {g : Seg} {y : Segment}
include h

theorem settled_setSeg (hy : y.idleTimer = y.idleTimerFor (s.queue g)) : settled (s.setSeg g y) = .next (s.setSeg g y) :=
  congrArg Host.Outcome.next (State.refreshIdle_of_follow (h.setSeg hy))

/-- A step from one frame phase to another touches no idle timer (R89). -/
theorem settled_setSeg_of_phases (hx : (s.seg g).phase ≠ .idle) (hy : y.phase ≠ .idle) (ht : y.idleTimer = (s.seg g).idleTimer) :
    settled (s.setSeg g y) = .next (s.setSeg g y) :=
  settled_setSeg h (by rw [ht, h.of_not_idle hx, Segment.idleTimerFor_of_not_idle hy])

/-- A change of fields that no condition of R89 reads touches no idle timer. -/
theorem settled_setSeg_of_same (hc : y.config = (s.seg g).config) (hl : y.lineState = (s.seg g).lineState)
    (hp : y.phase = (s.seg g).phase) (hh : y.hold = (s.seg g).hold) (ho : y.pendingOp = (s.seg g).pendingOp)
    (ht : y.idleTimer = (s.seg g).idleTimer) : settled (s.setSeg g y) = .next (s.setSeg g y) := by
  have hruns : y.idleRuns (s.queue g) = (s.seg g).idleRuns (s.queue g) := by
    rw [Bool.eq_iff_iff, Segment.idleRuns_iff, Segment.idleRuns_iff, hc, hl, hp, hh, ho]
  refine settled_setSeg h ?_
  rw [ht, (idleTimersFollow_iff s).1 h g, Segment.idleTimerFor, Segment.idleTimerFor, hruns, hc]

end

/-! #### Sending -/

theorem Segment.frameIn_of_phase {x : Segment} {p : FramePhase} (hl : x.lineState = .active) (hp : x.phase = p) : x.frameIn p = x.frame :=
  if_pos ⟨hl, hp⟩

theorem Segment.frameIn_of_other {x : Segment} {p : FramePhase} (hp : x.phase ≠ p) : x.frameIn p = none :=
  if_neg fun h => hp h.2

/-- Settles O49. -/
theorem sendingPhasesFollow : Obligations.SendingPhasesFollow := by
  intro s g f hi hl hf x window
  have hframe (p : FramePhase) (hp : x.phase = p) : x.frameIn p = some f := (Segment.frameIn_of_phase hl hp).trans hf
  refine ⟨fun hp => ?_, fun hp hd => ?_, fun hp hd => ?_, fun hp => ?_, fun hp hc => ?_⟩
  · change execLeadInEnd g s = _
    rw [execLeadInEnd, hframe _ hp]
    exact (settled_setSeg_of_phases hi (by rw [hp]; nofun) (by nofun) (by rfl)).trans 
      (by simp only [headerLevels, bytesLevels, List.flatMap_cons, List.flatMap_nil, List.append_nil]; rfl)
  · change execHeaderSent g s = _
    rw [execHeaderSent, hframe _ hp]
    simp only [hd]
    exact settled_setSeg_of_phases hi (by rw [hp]; nofun) (by nofun) (by rfl)
  · change execHeaderSent g s = _
    rw [execHeaderSent, hframe _ hp]
    simp only [hd]
    exact settled_setSeg_of_phases hi (by rw [hp]; nofun) (by nofun) (by rfl)
  · change execGapEnd g s = _
    rw [execGapEnd, hframe _ hp]
    exact settled_setSeg_of_phases hi (by rw [hp]; nofun) (by nofun) (by rfl)
  · change execResponseOutEnd g s = _
    rw [execResponseOutEnd, hframe _ hp]
    simp only [hc, if_true]
    exact settled_setSeg_of_phases hi (by rw [hp]; nofun) (by nofun) (by rfl)

/-! #### Reception -/

theorem Segment.listening_of_phase {x : Segment} {f : Frame} (hl : x.lineState = .active) (hf : x.frame = some f)
    (hp : x.phase = .ackWait ∨ x.phase = .responseIn) : x.listening = some f := by
  rw [Segment.listening]
  rcases hp with hp | hp
  · rw [Segment.frameIn_of_phase hl hp, hf]
  · rw [Segment.frameIn_of_other (by rw [hp]; nofun), Segment.frameIn_of_phase hl hp, hf]

/-- The sampled levels as bits, the first the least significant (R63). -/
theorem receivedByte_getLsbD (b : DataLevels) (n : Fin 8) : (receivedByte b).getLsbD n.val = decide (b.get n = .recessive) := by
  have hsum : ((List.finRange 8).map fun n => if b.get n = .recessive then 2 ^ n.val else 0).sum =
      Nat.ofBits fun n => decide (b.get n = .recessive) := by
    have h := sum_weighted_bits 0 fun n => decide (b.get n = .recessive)
    rw [pow_zero, Nat.one_mul] at h
    rw [← h]
    congr 2
    funext n
    by_cases hn : b.get n = .recessive <;> simp [hn]
  rw [receivedByte, hsum, byteOf, BitVec.getLsbD_ofNat, Nat.testBit_ofBits_lt _ _ n.isLt]
  simp

/-- Settles O51. -/
theorem receptionKeepsBytes : Obligations.ReceptionKeepsBytes := by
  intro s g f hi hl hf x
  have hne (hp : x.phase = .ackWait ∨ x.phase = .responseIn) : (s.seg g).phase ≠ .idle := by
    rcases hp with hp | hp <;> rw [hp] <;> nofun
  refine ⟨fun hp hb hr => ⟨?_, ?_⟩, fun b hp hb hr hlen => ?_, receivedByte_getLsbD, fun hp hb hr n => ?_, fun hp hb hr => ?_⟩
  · change execStartCheck g .dominant s = _
    rw [execStartCheck, Segment.listening_of_phase hl hf hp]
    have hopen : f.inReception = false ∧ (s.seg g).phaseBits ≠ none ∧ Level.dominant = .dominant := ⟨hr, hb, rfl⟩
    exact (if_pos hopen).trans (settled_setSeg_of_phases hi (hne hp) (by exact hne hp) (by rfl))
  · change execStartCheck g .recessive s = _
    rw [execStartCheck, Segment.listening_of_phase hl hf hp]
    exact if_neg nofun
  · change execByteReceived g b s = _
    rw [execByteReceived, (Segment.frameIn_of_phase hl hp).trans hf]
    simp only [hr, if_true]
    rw [if_neg (by simp; omega), if_neg hb]
    exact settled_setSeg_of_phases hi (hne (.inr hp)) (by exact hne (.inr hp)) (by rfl)
  · change execWindowEnd ⟨g, n⟩ s = _
    rw [execWindowEnd]
    simp only [Segment.listening_of_phase hl hf hp, hr, if_true]
    rw [if_neg hb]
    exact settled_setSeg_of_phases hi (hne hp) (by exact hne hp) (by rfl)
  · change execStartCheck g .dominant s = _
    rw [execStartCheck, Segment.listening_of_phase hl hf hp]
    exact if_neg fun h => h.2.1 hb

/-! #### Detections -/

theorem Segment.watch_of_sending {x : Segment} (hl : x.lineState = .active)
    (hp : x.phase ∈ ([.leadIn, .header, .gap, .responseOut] : List FramePhase)) : x.watch = .readback := by
  simp only [List.mem_cons, List.not_mem_nil, or_false] at hp
  rcases hp with hp | hp | hp | hp <;> simp only [Segment.watch, hl, hp]

/-- Settles O55. -/
theorem detectionsEnterRecover : Obligations.DetectionsEnterRecover := by
  intro s g f hi hl hf x recover
  have hrecover (o : PendingOutcome) (level : Level) : (s.seg g).enterRecover o level = recover o (runAt level) := by
    simp only [Segment.enterRecover, hf]
    rfl
  refine ⟨fun bit expected read hsends => ?_, fun hp hr => ?_⟩
  · have hphase : x.phase ∈ ([.leadIn, .header, .gap, .responseOut] : List FramePhase) := by
      rcases hsends with ⟨hp, -⟩ | ⟨hp, -⟩
      · revert hp
        generalize x.phase = p
        cases p <;> simp
      · simp [hp]
    have hexpected : x.expectedLevel bit = some expected := by
      rw [Segment.expectedLevel, Segment.watch_of_sending hl hphase]
      rcases hsends with ⟨-, levels, hline, hbit⟩ | ⟨-, hline, hbit, rfl⟩
      · rw [hline]; exact hbit
      · rw [hline]; exact if_pos hbit
    change execReadbackDifference ⟨g, bit, read⟩ s = _
    rw [execReadbackDifference]
    simp only
    rw [hexpected]
    simp only
    split
    · rfl
    · have hne : (s.seg g).phase ≠ .idle := by
        intro h0
        rw [h0] at hphase
        simp at hphase
      refine (settled_setSeg_of_phases hi hne (by nofun) (by rfl)).trans ?_
      simp only [hrecover]
      cases read <;> rfl
  · have hp' : x.phase = .ackWait ∨ x.phase = .responseIn := by simpa using hp
    change execFramingDetected g s = _
    rw [execFramingDetected, Segment.listening_of_phase hl hf hp']
    simp only [hr, if_true]
    refine (settled_setSeg_of_phases hi (by rcases hp' with hp | hp <;> rw [hp] <;> nofun) (by nofun) (by rfl)).trans ?_
    simp only [hrecover]
    rfl

end Sys2Proof.Machine
end

/-! ### Guard, run and noise, the end of a START, the hold grant (R75, R82, R83, R88, R94, R109) -/

section
namespace Sys2Proof.Machine

/-! #### The settled form of one replaced record -/

/-- Of a replaced segment record a step leaves all but the idle timer as it is (R89). -/
theorem exists_settled_setSeg {s : State} (h : IdleTimersFollow s) (g : Seg) (y : Segment) :
    ∃ t, settled (s.setSeg g y) = .next t ∧ IdleTimersFollow t ∧ t = s.setSeg g { y with idleTimer := (t.seg g).idleTimer } := by
  refine ⟨(s.setSeg g y).refreshIdle, rfl, State.refreshIdle_follows _, ?_⟩
  rw [State.refreshIdle_setSeg h, State.seg_setSeg_self]

theorem Segment.watch_of_resting {x : Segment} (hl : x.lineState = .active) (hp : x.phase = .idle ∨ x.phase = .guard) :
    x.watch = .noiseAndForeign := by
  rcases hp with hp | hp <;> simp only [Segment.watch, hl, hp]

/-- Settles O56. -/
theorem noiseRunAndGuardChangeOneField : Obligations.NoiseRunAndGuardChangeOneField := by
  intro s g hi
  have hrun (level : Level) (hr : (s.seg g).run ≠ .notMeasured) :
      exec (.recessiveRunRestart g level) s = .next (s.setSeg g { s.seg g with run := runAt level }) := by
    change execRecessiveRunRestart g level s = _
    rw [execRecessiveRunRestart, if_neg hr]
    exact settled_setSeg_of_same hi rfl rfl rfl rfl rfl rfl
  refine ⟨fun hl hp => ?_, fun hl hp => ?_, fun hr => ⟨hrun .dominant hr, hrun .recessive hr⟩, fun _ hr => ?_⟩
  · change ∃ t, execGuardEnd g s = _ ∧ _
    rw [execGuardEnd, if_pos ⟨hl, hp⟩]
    exact exists_settled_setSeg hi g _
  · change execNoise g s = _
    rw [execNoise, if_pos (Segment.watch_of_resting hl hp)]
    exact settled_setSeg_of_same hi rfl rfl rfl rfl rfl rfl
  · change execSyncComplete g s = _
    rw [execSyncComplete, if_neg fun h => by rw [hr] at h; exact absurd h.2 nofun]

/-! #### The end of a pending operation (R94) -/

section
variable {s : State} {g : Seg} {op : SegOp} {i : SlotId}

theorem State.endOp_of_pending (h : (s.seg g).pendingOp = some { op := op, slot := i }) (status : Status) :
    s.endOp g op status = s.endPendingOp g status := by
  simp [State.endOp, h]

theorem State.endOp_of_other (h : ∀ i, (s.seg g).pendingOp ≠ some { op := op, slot := i }) (status : Status) :
    s.endOp g op status = s := by
  unfold State.endOp
  split
  · rename_i p hp
    refine if_neg fun ho => h p.slot ?_
    rw [hp, ← ho]
  · rfl

/-- The request of a pending operation is answered as its operation ends. -/
theorem State.endPendingOp_of_live {c : Cq} {p : PendingOp} (h : (s.seg g).pendingOp = some p) (hl : (s.slot p.slot).state = .live)
    (hx : (s.slot p.slot).exchange = none) (hc : (s.slot p.slot).cq = some c) (status : Status) :
    s.endPendingOp g status =
      (s.answered p.slot c (doneWith (s.slot p.slot) (plainResult status 0 zeroArea))).setSeg g { s.seg g with pendingOp := none } := by
  rw [State.endPendingOp, h]
  refine (if_pos (show ((s.modSeg g _).slot p.slot).state = .live from hl)).trans ?_
  rw [State.answer_eq (c := c) status (by exact hx) (.inr (by exact hl)) (by exact hc), State.modSeg_eq, State.setSeg_answered]
  rfl

end

/-- Settles O58. -/
theorem syncCompleteEndsStart : Obligations.SyncCompleteEndsStart := by
  intro s g i c hi hl hr hp hlive hx hc
  change ∃ t, execSyncComplete g s = _ ∧ _
  rw [execSyncComplete, if_pos ⟨hl, hr⟩, State.modSeg_eq, State.endOp_of_pending (i := i) (by rw [State.seg_setSeg_self]; exact hp),
    State.endPendingOp_of_live (p := ⟨.start, i⟩) (c := c) (by rw [State.seg_setSeg_self]; exact hp) (by exact hlive) (by exact hx)
      (by exact hc), State.setSeg_answered, State.setSeg_setSeg, State.seg_setSeg_self]
  exact exists_settled_setSeg (hi.answered i c _) g _

/-! #### The grant of a drained hold (R109) -/

theorem Segment.idleTimerFor_of_held {x : Segment} (h : x.hold ≠ .none) (q : List SlotId) : x.idleTimerFor q = .stopped := by
  simp [Segment.idleTimerFor, Segment.idleRuns, h]

theorem IdleTimersFollow.of_held {s : State} (h : IdleTimersFollow s) {g : Seg} (hh : (s.seg g).hold ≠ .none) :
    (s.seg g).idleTimer = .stopped := by
  rw [(idleTimersFollow_iff s).1 h g, Segment.idleTimerFor_of_held hh]

/-- Settles O44. -/
theorem holdGrantHoldsSegment : Obligations.HoldGrantHoldsSegment := by
  intro s g r i named own granted c hi hh hf hlive hx ha hp hc all x
  have hdue : s.grantDue g = true := by simp [State.grantDue, hh, State.heldBackFrom, hf]
  have hjoin : (s.grantHold g r).joinHoldSets i g false true = (s.setSlot i x).setSeg g { s.seg g with hold := .held r s.holdLimit } := by
    simp only [State.joinHoldSets, State.grantHold, State.modSlot_eq, State.modSeg_eq, State.slot_setSeg, Slot.ownSet, Slot.grantedSet,
      hp]
    rfl
  have hx' : ((s.setSlot i x).setSeg g { s.seg g with hold := .held r s.holdLimit }).slot i = x := by simp
  change execHoldGrant g s = _
  rw [execHoldGrant, if_pos hdue, State.grantDrained, hh]
  simp only
  rw [hjoin, State.checkHoldGranted, hx']
  have hsets : x.grantedSet = x.namedSet ↔ all = named := by simp only [x, Slot.grantedSet, Slot.namedSet, ha]
  have hidle : ({ s.seg g with hold := .held r s.holdLimit } : Segment).idleTimer =
      ({ s.seg g with hold := .held r s.holdLimit } : Segment).idleTimerFor (s.queue g) := by
    rw [Segment.idleTimerFor_of_held (by nofun)]
    exact hi.of_held (by rw [hh]; nofun)
  by_cases hall : all = named
  · rw [if_pos (hsets.2 hall), if_pos hall, State.answer_eq (c := c) _ (by rw [hx']; exact hx) (by rw [hx']; exact .inr hlive)
      (by rw [hx']; exact hc), hx', State.setSeg_answered, State.setSlot_answered]
    exact settled_setSeg (hi.answered i c _) (by rw [State.queue_answered]; exact hidle)
  · rw [if_neg (hsets.not.2 hall), if_neg hall]
    exact settled_setSeg (hi.setSlot i x) hidle

end Sys2Proof.Machine
end

/-! ### The pick, and the end of a dormancy command (R42 to R44, R90, R93, R99) -/

section
namespace Sys2Proof.Machine

/-! #### The pick -/

/-- The queue of a segment that is not in IDLE decides no idle timer (R89). -/
theorem IdleTimersFollow.setQueue {s : State} (h : IdleTimersFollow s) {g : Seg} (hg : (s.seg g).phase ≠ .idle) (q : List SlotId) :
    IdleTimersFollow (s.setQueue g q) := by
  rw [idleTimersFollow_iff]
  intro k
  rw [State.seg_setQueue]
  by_cases hk : k = g
  · rw [hk, Segment.idleTimerFor_of_not_idle hg, h.of_not_idle hg]
  · rw [State.queue_setQueue, if_neg (Ne.symm hk)]
    exact (idleTimersFollow_iff s).1 h k

theorem Segment.pendingIs_iff {x : Segment} {op : SegOp} : x.pendingIs op = true ↔ ∃ j, x.pendingOp = some { op := op, slot := j } := by
  unfold Segment.pendingIs
  constructor
  · intro h
    split at h
    · rename_i p hp
      exact ⟨p.slot, by rw [hp, ← eq_of_beq h]⟩
    · exact absurd h nofun
  · rintro ⟨j, hj⟩
    simp [hj]

theorem Segment.mayStart_eq_true_iff {x : Segment} : x.mayStart = true ↔ x.lineState = .active ∧ x.phase = .idle ∧
    ∀ j, x.pendingOp ≠ some { op := .stop, slot := j } ∧ x.pendingOp ≠ some { op := .sleep, slot := j } := by
  simp only [Segment.mayStart, Bool.and_eq_true, decide_eq_true_eq, Bool.not_eq_true', ← Bool.not_eq_true, Segment.pendingIs_iff,
    not_exists, and_assoc, forall_and]

theorem State.legEligible_iff {s : State} {g : Seg} {i : SlotId} :
    s.legEligible g i = true ↔ ∀ r, (s.seg g).hold.holder = some r → (s.slot i).ring = some r := by
  unfold State.legEligible
  split
  · rename_i h
    simp [h]
  · rename_i r h
    simp [h]

theorem State.legEligible_eq_false_iff {s : State} {g : Seg} {i : SlotId} :
    s.legEligible g i = false ↔ ∃ r, (s.seg g).hold.holder = some r ∧ (s.slot i).ring ≠ some r := by
  rw [← Bool.not_eq_true, State.legEligible_iff]
  push Not
  rfl

/-- A state whose timers follow is what a step leaves of itself. -/
theorem settled_eq_of_follow {s t : State} (h : s = t) (ht : IdleTimersFollow t) : settled s = .next t := by
  rw [h, settled, State.refreshIdle_of_follow ht]

theorem State.pickLeg_eq {s : State} {g : Seg} {i : SlotId} {x : Exchange} (hx : (s.slot i).exchange = some x) :
    s.pickLeg g i = ((s.leaveQueue i g).modSlot i fun t => t.mapLeg g fun l => l.picked g).startFrame g
      (exchangeFrame i x (s.slot i).payload) := by
  simp only [State.pickLeg, hx]

theorem exchangeFrame_eq (i : SlotId) (x : Exchange) (payload : Option (List Byte)) : exchangeFrame i x payload = {
    carrier := .exchange i, id := x.frameId, direction := x.direction, confirmed := x.confirmed, length := x.length
    payload := if x.direction = .dirOut then payload.getD [] else [], received := [], inReception := false } := by
  rw [exchangeFrame]
  cases x.direction <;> rfl

/-- Settles O48. -/
theorem pickTakesFirstEligibleLeg : Obligations.PickTakesFirstEligibleLeg := by
  refine ⟨fun s g hno => ?_, fun s g i x before after hi hl hp hop hq hmem hown hbefore hx => ?_⟩
  · change execPick g s = _
    rw [execPick]
    split
    · rename_i hm
      obtain ⟨hl, hp, hop⟩ := Segment.mayStart_eq_true_iff.1 hm
      have hnone : s.firstEligible g = none := by
        rcases hno with h | h | ⟨j, h⟩ | h
        · exact absurd hl h
        · exact absurd hp h
        · exact absurd h (not_or.2 (hop j))
        · exact List.find?_eq_none.2 fun j hj => by rw [State.legEligible_eq_false_iff.2 (h j hj)]; nofun
      rw [hnone]
    · rfl
  · have hfirst : s.firstEligible g = some i := by
      rw [State.firstEligible, hq, List.find?_eq_some_iff_append]
      exact ⟨State.legEligible_iff.2 hown, before, after, rfl,
        fun j hj => by rw [State.legEligible_eq_false_iff.2 (hbefore j hj)]; rfl⟩
    have hleft : (s.queue g).filter (fun j => decide (j ≠ i)) = before ++ after := by
      rw [hq, List.filter_append, List.filter_cons_of_neg (by simp), ← List.filter_append]
      exact List.filter_eq_self.2 fun j hj => decide_eq_true fun e => hmem (e ▸ hj)
    change execPick g s = _
    rw [execPick, if_pos (Segment.mayStart_eq_true_iff.2 ⟨hl, hp, hop⟩), hfirst]
    simp only
    rw [State.pickLeg_eq hx, exchangeFrame_eq, State.leaveQueue, hleft]
    refine settled_eq_of_follow (by rfl) ?_
    have hsent : IdleTimersFollow (s.setSeg g { s.seg g with
        phase := .leadIn, phaseBits := some Config.leadInBits, 
        frame := some {
          carrier := .exchange i, id := x.frameId, direction := x.direction, confirmed := x.confirmed, length := x.length,
          payload := if x.direction = .dirOut then (s.slot i).payload.getD [] else [], received := [], inReception := false },
        line := .sending leadInLevels }) := by
      refine hi.setSeg ?_
      rw [Segment.idleTimerFor_of_not_idle (by nofun)]
      exact hi.stopped (by simp [Segment.idleRuns, hq])
    exact (hsent.setQueue (by rw [State.seg_setSeg_self]; nofun) (before ++ after)).setSlot i _

/-! #### The end of a dormancy command -/

theorem State.postNotice_setSeg (s : State) (g : Seg) (y : Segment) (c : Cq) (n : Notice) :
    (s.setSeg g y).postNotice c n = (s.postNotice c n).setSeg g y := by
  rw [State.postNotice_eq_setCq, State.postNotice_eq_setCq]
  rfl

theorem IdleTimersFollow.postNotice {s : State} (h : IdleTimersFollow s) (c : Cq) (n : Notice) : IdleTimersFollow (s.postNotice c n) := by
  rw [State.postNotice_eq_setCq]
  exact h.setCq c _

/-- The record of a segment whose dormancy command has ended OK (R90 row 3). -/
def asleep (x : Segment) : Segment := { afterFrame x .ok with lineState := .dormant, phase := .idle, phaseBits := none }

/-- Its record once a pending operation is over and a waiting leg may have woken it (R93). -/
def roused (x : Segment) (wakes : Prop) [Decidable wakes] : Segment :=
  { asleep x with
    pendingOp := none
    line := if wakes then .wakePulse else .released
    wakePulse := if wakes then some .onDemand else x.wakePulse }

/-- The notice of a dormancy command of the idle timer (R90, R103). -/
def State.dormantNoticed (s : State) (g : Seg) : DormancyOrigin → State
  | .idleTimer => s.postNotice (s.seg g).config.noticeCq (.segmentDormant g)
  | .sleep => s

theorem State.setSeg_dormantNoticed (s : State) (g : Seg) {y : Segment} (h : y.config = (s.seg g).config) (o : DormancyOrigin) :
    (s.setSeg g y).dormantNoticed g o = (s.dormantNoticed g o).setSeg g y := by
  cases o
  · rw [State.dormantNoticed, State.seg_setSeg_self, h, State.postNotice_setSeg, State.dormantNoticed]
  · rfl

theorem State.queue_dormantNoticed (s : State) (g : Seg) (o : DormancyOrigin) : (s.dormantNoticed g o).queue g = s.queue g := by
  cases o
  · rw [State.dormantNoticed, State.postNotice_eq_setCq]; rfl
  · rfl

theorem State.slot_dormantNoticed (s : State) (g : Seg) (o : DormancyOrigin) (i : SlotId) : (s.dormantNoticed g o).slot i = s.slot i := by
  cases o
  · rw [State.dormantNoticed, State.postNotice_eq_setCq]; rfl
  · rfl

theorem IdleTimersFollow.dormantNoticed {s : State} (h : IdleTimersFollow s) (g : Seg) (o : DormancyOrigin) :
    IdleTimersFollow (s.dormantNoticed g o) := by
  cases o
  · exact h.postNotice _ _
  · exact h

theorem State.dormancyEnded_of_stop {s : State} {g : Seg} (h : (s.seg g).pendingIs .stop = true) (o : DormancyOrigin) (out : LegOutcome) :
    s.dormancyEnded g o out = s := if_pos h

theorem State.dormancyEnded_ok {s : State} {g : Seg} (h : ¬ (s.seg g).pendingIs .stop = true) (o : DormancyOrigin) :
    s.dormancyEnded g o .ok = s.enterDormant g o := (if_neg h).trans (if_pos rfl)

theorem State.dormancyEnded_readback {s : State} {g : Seg} (h : ¬ (s.seg g).pendingIs .stop = true) :
    s.dormancyEnded g .sleep .readback = s.endOp g .sleep (.outcome .readback) ∧ s.dormancyEnded g .idleTimer .readback = s :=
  ⟨(if_neg h).trans (if_neg nofun), (if_neg h).trans (if_neg nofun)⟩

theorem State.enterDormant_eq (s : State) (g : Seg) (o : DormancyOrigin) : s.enterDormant g o =
    (((s.setSeg g { s.seg g with lineState := .dormant, phase := .idle, phaseBits := none }).dormantNoticed g o).endOp g .sleep
      (.outcome .ok)).wakeOnDemand g := by
  cases o <;> rfl

theorem not_stop_afterFrame {s : State} {g : Seg} (hstop : ∀ i, (s.seg g).pendingOp ≠ some { op := .stop, slot := i }) 
    (out : LegOutcome) : ¬ ((s.setSeg g (afterFrame (s.seg g) out)).seg g).pendingIs .stop = true := by
  rw [State.seg_setSeg_self]
  exact fun h => (Segment.pendingIs_iff.1 h).elim fun i hi => hstop i hi

section
variable {s : State} {g : Seg} {f : Frame} {o : DormancyOrigin}

/-- A segment put to sleep wakes at once where a leg waits and it may (R93). -/
theorem State.wakeOnDemand_asleep {u : State} (hq : u.queue g = s.queue g)
    [Decidable ((s.seg g).config.wakeOnDemand = true ∧ (s.seg g).wakePulse = none ∧ s.queue g ≠ [])] :
    (u.setSeg g { asleep (s.seg g) with pendingOp := none }).wakeOnDemand g =
      u.setSeg g (roused (s.seg g) ((s.seg g).config.wakeOnDemand = true ∧ (s.seg g).wakePulse = none ∧ s.queue g ≠ [])) := by
  rw [State.wakeOnDemand_eq, State.seg_setSeg_self, State.queue_setSeg, hq, State.setSeg_setSeg]
  by_cases h : (s.seg g).config.wakeOnDemand = true ∧ (s.seg g).wakePulse = none ∧ s.queue g ≠ []
  · rw [if_pos ⟨rfl, h⟩, roused, if_pos h, if_pos h]
  · rw [if_neg fun hc => h hc.2, roused, if_neg h, if_neg h]
    rfl

variable (hf : (s.seg g).frame = some f) (hc : f.carrier = .dormancy o)
include hf hc

theorem State.endFrame_of_dormancy (out : LegOutcome) (bytes : List Byte) :
    s.endFrame g out bytes = (s.setSeg g (afterFrame (s.seg g) out)).dormancyEnded g o out := by
  rw [State.endFrame, hf]
  simp only [hc, State.modSeg_eq, Segment.countFrame_enterGuard]

theorem State.endFrame_of_stop {i : SlotId} (hp : (s.seg g).pendingOp = some { op := .stop, slot := i }) (out : LegOutcome)
    (bytes : List Byte) : s.endFrame g out bytes = s.setSeg g (afterFrame (s.seg g) out) := by
  rw [State.endFrame_of_dormancy hf hc]
  exact State.dormancyEnded_of_stop (Segment.pendingIs_iff.2 ⟨i, by rw [State.seg_setSeg_self]; exact hp⟩) o out

variable (hstop : ∀ i, (s.seg g).pendingOp ≠ some { op := .stop, slot := i })
include hstop

theorem State.endFrame_of_ok (bytes : List Byte) :
    s.endFrame g .ok bytes = (((s.dormantNoticed g o).setSeg g (asleep (s.seg g))).endOp g .sleep (.outcome .ok)).wakeOnDemand g := by
  rw [State.endFrame_of_dormancy hf hc, State.dormancyEnded_ok (not_stop_afterFrame hstop .ok), State.enterDormant_eq,
    State.setSeg_setSeg, State.seg_setSeg_self]
  rw [State.setSeg_dormantNoticed _ _ (by rfl)]
  rfl

end

/-- Settles O50. -/
theorem dormancyCommandEndsDormant : Obligations.DormancyCommandEndsDormant := by
  intro s g f o hi hl hf hc hconf x wakes y noticed slept
  have hnoticed : noticed = s.dormantNoticed g o := by cases o <;> rfl
  have hfol (u : State) (hu : IdleTimersFollow u) (hphase : x.phase ≠ .idle) : IdleTimersFollow (u.setSeg g y) :=
    hu.setSeg (by rw [Segment.idleTimerFor_of_not_active (by nofun)]; exact hi.of_not_idle hphase)
  constructor
  · intro hp
    have hphase : x.phase ≠ .idle := by rw [hp]; nofun
    have hexec : exec (.responseOutEnd g) s = settled (s.endFrame g .ok []) := by
      change execResponseOutEnd g s = _
      rw [execResponseOutEnd, Segment.frameIn_of_phase hl hp, hf]
      simp [hconf]
    refine ⟨fun hop => ?_, fun i c hop hlive hx hcq => ?_, fun i hop => ?_⟩
    · rw [hexec, State.endFrame_of_ok hf hc (by rw [hop]; nofun),
        State.endOp_of_other (by rw [State.seg_setSeg_self]; exact fun i h => by rw [show x.pendingOp = _ from h] at hop; cases hop)]
      refine settled_eq_of_follow ?_ (hfol noticed (by rw [hnoticed]; exact hi.dormantNoticed g o) hphase)
      have hsame : asleep x = { asleep x with pendingOp := none } := by
        rw [← hop]; rfl
      rw [hsame, State.wakeOnDemand_asleep (s.queue_dormantNoticed g o), hnoticed]
      rfl
    · rw [hexec, State.endFrame_of_ok hf hc (by rw [hop]; nofun), State.endOp_of_pending (i := i) (by rw [State.seg_setSeg_self]; exact hop),
        State.endPendingOp_of_live (p := ⟨.sleep, i⟩) (c := c) (by rw [State.seg_setSeg_self]; exact hop)
          (by rw [State.slot_setSeg, State.slot_dormantNoticed]; exact hlive)
          (by rw [State.slot_setSeg, State.slot_dormantNoticed]; exact hx)
          (by rw [State.slot_setSeg, State.slot_dormantNoticed]; exact hcq),
        State.setSeg_answered, State.setSeg_setSeg, State.seg_setSeg_self, State.slot_setSeg, State.slot_dormantNoticed]
      refine settled_eq_of_follow ?_ (hfol _ (by rw [hnoticed]; exact (hi.dormantNoticed g o).answered i c _) hphase)
      rw [State.wakeOnDemand_asleep (by rw [State.queue_answered]; exact s.queue_dormantNoticed g o), hnoticed]
      rfl
    · rw [hexec, State.endFrame_of_stop hf hc hop]
      exact settled_setSeg_of_phases hi hphase (by nofun) (by rfl)
  · intro hp hrun hout
    have hphase : x.phase ≠ .idle := by rw [hp]; nofun
    have hexec : exec (.recoverEnd g) s = settled (s.endFrame g .readback []) := by
      change execRecoverEnd g s = _
      rw [execRecoverEnd, Segment.frameIn_of_phase hl hp, hf, hout]
      exact if_pos hrun
    have hguard : settled (s.setSeg g (afterFrame x .readback)) = .next (s.setSeg g (afterFrame x .readback)) :=
      settled_setSeg_of_phases hi hphase (by nofun) (by rfl)
    refine ⟨fun hop => ?_, fun i c ho hop hlive hx hcq => ?_⟩
    · rw [hexec, ← hguard]
      refine congrArg settled ?_
      by_cases hstop : ∃ i, x.pendingOp = some { op := .stop, slot := i }
      · obtain ⟨i, hi⟩ := hstop
        exact State.endFrame_of_stop hf hc hi _ _
      · have hne := not_stop_afterFrame (fun i h => hstop ⟨i, h⟩) .readback
        rw [State.endFrame_of_dormancy hf hc]
        rcases hop with h | h | ⟨rfl, -⟩
        · exact absurd h hstop
        · cases o
          · exact (State.dormancyEnded_readback hne).2
          · rw [(State.dormancyEnded_readback hne).1]
            exact State.endOp_of_other (by rw [State.seg_setSeg_self]; exact fun i hi => by rw [show x.pendingOp = _ from hi] at h; cases h) _
        · exact (State.dormancyEnded_readback hne).2
    · subst ho
      have hne := not_stop_afterFrame (fun j h => by rw [hop] at h; cases h) .readback
      rw [hexec, State.endFrame_of_dormancy hf hc, (State.dormancyEnded_readback hne).1,
        State.endOp_of_pending (i := i) (by rw [State.seg_setSeg_self]; exact hop),
        State.endPendingOp_of_live (p := ⟨.sleep, i⟩) (c := c) (by rw [State.seg_setSeg_self]; exact hop) (by exact hlive) (by exact hx)
          (by exact hcq), State.setSeg_answered, State.setSeg_setSeg, State.seg_setSeg_self]
      exact settled_setSeg (hi.answered i c _) (by
        rw [Segment.idleTimerFor_of_not_idle (by nofun)]; exact hi.of_not_idle hphase)

end Sys2Proof.Machine
end

/-! ### The bytes of a frame (R62, R66, R67) -/

section
namespace Sys2Proof.Machine

/-! #### The CRC-8, taken bit by bit -/

/-- One bit shifted into the CRC-8 register (R67). -/
def crcShift (reg : Byte) (bit : Bool) : Byte := if (reg.msb != bit) = true then (reg <<< 1) ^^^ 0x2F else reg <<< 1

/-- The bits of a byte not yet shifted in cancel out of the test of the register's top bit. -/
theorem crcShift_xor (c b : Byte) {k : Nat} (hk : k < 8) :
    crcShift (c ^^^ b <<< k) (b.getLsbD (7 - k)) = crcBit c ^^^ b <<< (k + 1) := by
  have hmsb : (b <<< k).msb = b.getLsbD (7 - k) := by
    rw [BitVec.msb_shiftLeft, BitVec.getMsbD]
    simp [hk]
  have htest : ((c ^^^ b <<< k).msb != b.getLsbD (7 - k)) = c.msb := by
    rw [BitVec.msb_xor, hmsb]
    cases c.msb <;> cases b.getLsbD (7 - k) <;> rfl
  have hshift : (c ^^^ b <<< k) <<< 1 = c <<< 1 ^^^ b <<< (k + 1) := by
    rw [BitVec.shiftLeft_xor_distrib, BitVec.shiftLeft_add]
  rw [crcShift, htest, hshift, crcBit]
  split
  · rw [BitVec.xor_assoc, BitVec.xor_assoc]
    congr 1
    exact BitVec.xor_comm _ _
  · rfl

/-- A byte goes into the CRC-8 most significant bit first (R67). -/
theorem crcByte_eq_foldl (reg b : Byte) :
    crcByte reg b = [7, 6, 5, 4, 3, 2, 1, 0].foldl (fun reg n => crcShift reg (b.getLsbD n)) reg := by
  have h0 : crcShift reg (b.getLsbD 7) = crcBit (reg ^^^ b) ^^^ b <<< 1 := by
    have h := crcShift_xor (reg ^^^ b) b (k := 0) (by omega)
    rwa [BitVec.shiftLeft_zero, BitVec.xor_assoc, BitVec.xor_self, BitVec.xor_zero] at h
  have h8 (c : Byte) : c ^^^ b <<< 8 = c := by
    rw [BitVec.shiftLeft_eq_zero (by omega), BitVec.xor_zero]
  simp only [List.foldl_cons, List.foldl_nil]
  rw [h0, crcShift_xor _ b (k := 1) (by omega), crcShift_xor _ b (k := 2) (by omega), crcShift_xor _ b (k := 3) (by omega),
    crcShift_xor _ b (k := 4) (by omega), crcShift_xor _ b (k := 5) (by omega), crcShift_xor _ b (k := 6) (by omega),
    crcShift_xor _ b (k := 7) (by omega), h8]
  rfl

/-! #### The header -/

section
variable {f : Frame}

theorem toNat_headerByte0 (h : f.id < 128) :
    (headerByte0 f).toNat = f.id + if f.direction = .dirIn then 128 else 0 := by
  rw [headerByte0, byteOf, BitVec.toNat_ofNat]
  cases f.direction <;> simp <;> omega

theorem toNat_headerByte1 (h : f.length ≤ 8) : (headerByte1 f).toNat = f.length + 16 * headerCheck f := by
  have hc : headerCheck f ≤ 15 := Nat.sub_le _ _
  rw [headerByte1, byteOf, BitVec.toNat_ofNat]
  omega

end

/-- Settles O59. -/
theorem headerBytesAndLevels : Obligations.HeaderBytesAndLevels := by
  refine ⟨fun o => ?_, fun f hid hd hl => ?_, fun f hid hd hl => ?_, fun f hid hl => ?_, fun f payload => ?_,
    fun b => ?_⟩
  · have h0 : headerByte0 (dormancyFrame o) = 0x7E := rfl
    have h1 : headerByte1 (dormancyFrame o) = 0x91 := by
      have hl : (dormancyFrame o).length = 1 := rfl
      rw [headerByte1, headerCheck, h0, hl]
      decide
    have first : crcByte 0xFF 0x7E = 0xCC := by decide
    have second : crcByte 0xCC 0x91 = 0x8C := by decide
    have third : crcByte 0x8C 0x00 = 0x08 := by decide
    refine ⟨h0, h1, ?_⟩
    rw [frameCheck, h0, h1, crc8, List.foldl_cons, List.foldl_cons, List.foldl_cons, List.foldl_nil, Sys2Proof.Config.crcInitial,
      first, second, third]
    rfl
  · simp only [headerByte1, headerCheck, headerByte0, hid, hd, hl]
    decide
  · simp only [headerByte1, headerCheck, headerByte0, hid, hd, hl]
    decide
  · have h0 := toNat_headerByte0 hid
    have h1 := toNat_headerByte1 hl
    have hc : headerCheck f = 15 - ((headerByte0 f).toNat % 16 + (headerByte0 f).toNat / 16 + f.length) % 16 := rfl
    refine ⟨?_, ?_, by omega, by omega⟩
    · rw [h0]
      split <;> omega
    · rw [BitVec.msb_eq_decide, h0]
      split <;> simp_all
  · intro shift
    have hfold : (fun (reg b : Byte) => [7, 6, 5, 4, 3, 2, 1, 0].foldl (fun reg n => shift reg (b.getLsbD n)) reg) = crcByte :=
      funext fun reg => funext fun b => (crcByte_eq_foldl reg b).symm
    rw [hfold]
    rfl
  · refine ⟨by simp [byteLevels], rfl, by simp [byteLevels], fun n => ?_⟩
    have hn := n.isLt
    simp [byteLevels, List.getElem?_append, hn]

end Sys2Proof.Machine
end

/-! ### The records of the completion rings (R171, R172) -/

section
namespace Sys2Proof.Machine

theorem toNat_byteOf {n : Nat} (h : n < 256) : (byteOf n).toNat = n := by
  rw [byteOf, BitVec.toNat_ofNat]
  omega

theorem Status.code_lt (st : Status) : st.code < 256 := by
  cases st with
  | outcome o => cases o <;> decide
  | _ => decide

theorem Notice.codes_lt (n : Notice) : n.code < 256 ∧ n.subject < 256 ∧ n.reason < 256 ∧ n.holder < 256 := by
  have hfault : ∀ why : FaultReason, why.code < 256 := fun why => by cases why <;> decide
  have hloss : ∀ why : HoldLoss, why.code < 256 := fun why => by cases why <;> decide
  have hfetch : ∀ why : FetchFailure, why.code < 256 := fun why => by cases why <;> decide
  have hreason : n.reason < 256 := by cases n <;> simp only [Notice.reason, hfault, hloss, hfetch, Nat.zero_lt_succ]
  have hsubject : n.subject < 256 := by cases n <;> simp only [Notice.subject] <;> omega
  have hholder : n.holder < 256 := by cases n <;> simp only [Notice.holder] <;> omega
  exact ⟨by cases n <;> simp only [Notice.code] <;> omega, hsubject, hreason, hholder⟩

/-- The bytes of a tag, the higher before the lower, are the tag. -/
theorem bytes_append (w : BitVec (8 + 8)) : (w >>> 8).setWidth 8 ++ w.setWidth 8 = w := by
  apply BitVec.eq_of_getLsbD_eq
  intro k hk
  refine BitVec.getLsbD_append.trans ?_
  by_cases hk8 : k < 8
  · simp [hk8]
  · have hdiff : k - 8 < 8 := by omega
    have hsum : 8 + (k - 8) = k := by omega
    simp [hk8, hdiff, hsum]

theorem completionFlags_getLsbD : ∀ (late failover alternate phase : Bool) (n : Fin 8),
    (byteOf (late.toNat + 2 * failover.toNat + 4 * alternate.toNat + 128 * phase.toNat)).getLsbD n.val =
      if n.val = 0 then late else if n.val = 1 then failover else if n.val = 2 then alternate
      else if n.val = 7 then phase else false := by
  decide

theorem noticeFlags_toNat (lost phase : Bool) : (noticeFlags lost phase).toNat = (if lost then 8 else 0) + if phase then 128 else 0 := by
  cases lost <;> cases phase <;> rfl

/-- Settles O60. -/
theorem recordsAreSixteenBytes : Obligations.RecordsAreSixteenBytes := by
  unfold Obligations.RecordsAreSixteenBytes
  intro codes
  refine ⟨fun s c i r tag q hr ht hq harea hatt hlen => ?_, fun s c n => ?_⟩
  · intro bytes
    have hcode : (r.status, r.status.code) ∈ codes := by
      cases r.status with
      | outcome o => cases o <;> simp [codes, Status.code, LegOutcome.code]
      | _ => simp [codes, Status.code]
    have hbytes : bytes = [tag.setWidth 8, (tag >>> 8).setWidth 8, byteOf q.val, byteOf r.status.code, byteOf r.attempts,
        completionFlags r (s.cq c).phase, byteOf r.length, match r.lastSeg with | some s => byteOf s.val | none => 0xFF] ++ r.area := by
      simp only [bytes, State.postingRecord, completionRecord, hr, ht, hq, Option.getD_some, leBytes_two]
      rfl
    rw [hbytes]
    refine ⟨by simp [harea], by simp, bytes_append tag, toNat_byteOf (by omega), ?_, toNat_byteOf hatt,
      completionFlags_getLsbD r.late r.failover r.alternate (s.cq c).phase, toNat_byteOf hlen, ?_⟩
    · exact (toNat_byteOf r.status.code_lt).symm ▸ hcode
    · cases r.lastSeg with
      | none => rfl
      | some g => exact toNat_byteOf (by omega)
  · intro bytes
    have hbytes : bytes = [0, 0, 0x80, byteOf n.code, byteOf n.subject, noticeFlags (s.cq c).noticesLost (s.cq c).phase,
        byteOf n.reason, byteOf n.holder] ++ zeroArea := rfl
    rw [hbytes]
    refine ⟨rfl, rfl, rfl, noticeFlags_toNat _ _, ?_⟩
    have hfour : [byteOf n.code, byteOf n.subject, byteOf n.reason, byteOf n.holder].map BitVec.toNat =
        [n.code, n.subject, n.reason, n.holder] := by
      obtain ⟨hcode, hsubject, hreason, hholder⟩ := n.codes_lt
      simp only [List.map_cons, List.map_nil, toNat_byteOf, hcode, hsubject, hreason, hholder]
    refine (show _ = [byteOf n.code, byteOf n.subject, byteOf n.reason, byteOf n.holder].map BitVec.toNat from rfl).trans
      (hfour.trans ?_)
    cases n with
    | ringError r why => cases why <;> rfl
    | cqError d => rfl
    | segmentFaulted g why => cases why <;> rfl
    | segmentDormant g => rfl
    | remoteWake g => rfl
    | holdLost g why r => cases why <;> rfl

end Sys2Proof.Machine
end

/-! ### Dormancy commands start, and SEGMENT_SLEEP is taken (R76, R89, R98, R99) -/

section
namespace Sys2Proof.Machine

theorem Segment.idleTimerFor_of_pending {x : Segment} (h : x.pendingOp ≠ none) (q : List SlotId) : x.idleTimerFor q = .stopped := by
  simp [Segment.idleTimerFor, Segment.idleRuns, h]

/-! #### The command -/

theorem settled_startFrame {s : State} (hi : IdleTimersFollow s) (g : Seg) (f : Frame) :
    settled (s.startFrame g f) = .next (s.setSeg g { s.seg g with
      phase := .leadIn, phaseBits := some 16, idleTimer := .stopped, frame := some f
      line := .sending (List.replicate 14 .dominant ++ List.replicate 2 .recessive) }) := by
  refine (congrArg Host.Outcome.next (State.refreshIdle_setSeg hi g _)).trans ?_
  rw [Segment.idleTimerFor_of_not_idle (by nofun)]
  rfl

theorem IdleTimersFollow.recordProgress {s : State} (hi : IdleTimersFollow s) (g : Seg) (op : SegOp) (p : Progress) :
    IdleTimersFollow (s.recordProgress g op p) := by
  unfold State.recordProgress
  split
  · split
    · exact hi.setSlot _ _
    · exact hi
  · exact hi

theorem exec_idleTimerExpiry_of_running {s : State} (hi : IdleTimersFollow s) {g : Seg} (h : (s.seg g).idleTimer ≠ .stopped) :
    exec (.idleTimerExpiry g) s = settled (s.startFrame g (dormancyFrame .idleTimer)) := by
  have hruns : (s.seg g).idleRuns (s.queue g) = true := by
    by_contra hn
    exact h (hi.stopped (Bool.not_eq_true _ ▸ hn))
  change execIdleTimerExpiry g s = _
  rw [execIdleTimerExpiry]
  cases ht : (s.seg g).idleTimer with
  | stopped => exact absurd ht h
  | running n => exact if_pos hruns

/-! #### The request -/

/-- Where a step takes one of two ways, so does what it leaves. -/
theorem settled_ite {p : Prop} {inst inst' : Decidable p} {a b a' b' : State} (hpos : p → settled a = .next a')
    (hneg : ¬ p → settled b = .next b') : settled (@ite _ p inst a b) = .next (@ite _ p inst' a' b') := by
  by_cases h : p
  · rw [if_pos h, if_pos h, hpos h]
  · rw [if_neg h, if_neg h, hneg h]

/-- The rows of R98 in their order. -/
theorem State.sleepRequest_eq (s : State) (i : SlotId) (g : Seg) : s.sleepRequest i g =
    if (s.seg g).pendingOp ≠ none then s.refuse i .busy
    else if (s.seg g).lineState ≠ .active ∧ (s.seg g).lineState ≠ .dormant then s.refuse i .busy
    else if (s.seg g).hold ≠ .none then s.refuse i .conflict
    else if (s.seg g).lineState = .dormant ∧ (s.seg g).wakePulse ≠ none then s.refuse i .busy
    else if (s.seg g).lineState = .dormant then s.answer i (.outcome .ok)
    else if s.queue g ≠ [] then s.refuse i .busy
    else s.setPending i g .sleep := by
  rw [State.sleepRequest]
  by_cases hp : (s.seg g).pendingOp = none
  · cases hl : (s.seg g).lineState <;> simp [hp]
    cases (s.seg g).wakePulse <;> simp
  · simp [hp, Option.isSome_iff_ne_none]

section
variable {s : State} {f : Fetch} {cfg : RingConfig}

theorem settled_setPending (hi : IdleTimersFollow s) (record : Record) (granted : Bool) (args : OpArgs) (g : Seg) (op : SegOp) :
    settled (((s.consumed f cfg.size granted).setSlot f.slot { arrivedSlot s f cfg record with args := some args }).setPending
        f.slot g op) =
      .next (((s.consumed f cfg.size granted).setSlot f.slot { arrivedSlot s f cfg record with
        args := some args, state := .live, progress := some op.firstProgress }).setSeg g
        { s.seg g with pendingOp := some { op := op, slot := f.slot }, idleTimer := .stopped }) := by
  have hset : ((s.consumed f cfg.size granted).setSlot f.slot { arrivedSlot s f cfg record with args := some args }).setPending
      f.slot g op = ((s.consumed f cfg.size granted).setSlot f.slot { arrivedSlot s f cfg record with
        args := some args, state := .live, progress := some op.firstProgress }).setSeg g
        { s.seg g with pendingOp := some { op := op, slot := f.slot } } := by
    simp only [State.setPending, State.setLive, State.setProgress, State.modSlot_eq, State.modSeg_eq, State.slot_setSlot_self,
      State.setSlot_setSlot, State.seg_setSlot, State.seg_consumed]
  rw [hset]
  refine (congrArg Host.Outcome.next (State.refreshIdle_setSeg ((hi.consumed f cfg.size granted).setSlot _ _) g _)).trans ?_
  rw [Segment.idleTimerFor_of_pending (by nofun)]

end

/-- Settles O45. -/
theorem dormancyCommandStarts : Obligations.DormancyCommandStarts := by
  refine ⟨fun s g o hi hstart => ?_, fun s f cfg record granted b h hi hr hk hz ha hb => ?_⟩
  · cases o with
    | idleTimer =>
      intro recorded
      exact (exec_idleTimerExpiry_of_running hi hstart).trans (settled_startFrame hi g _)
    | sleep =>
      obtain ⟨hl, hp, hf, i, hop⟩ := hstart
      intro recorded
      have hmay : (s.seg g).sleepMayStart = true := by
        simp [Segment.sleepMayStart, Segment.pendingIs, hl, hp, hf, hop]
      have hrecorded : recorded = s.recordProgress g .sleep .sendingDormancy := by
        simp only [recorded, State.recordProgress, hop, true_and]
        rfl
      have hsegs := State.seg_of_segs (EngineMove.segs_recordProgress s g .sleep .sendingDormancy)
      change execSleepCommandStart g s = _
      rw [execSleepCommandStart, if_pos hmay, settled_startFrame (hi.recordProgress g _ _), hsegs, ← hrecorded]
      rfl
  · intro x g u taken ok refused
    rw [h.exec_eq_takeOperation granted hk (by simp [hr, Kind.allowedOn]) hz ha]
    have hcq : answerRing f cfg = 0 := answerRing_of_admin hr cfg
    change settled (State.withSegment _ _ _ _) = _
    rw [State.withSegment, if_pos hb, State.sleepRequest_eq]
    rw [State.seg_setSlot, State.queue_setSlot, State.seg_consumed, State.queue_consumed]
    have hrefused (status : Status) : settled (((s.consumed f cfg.size granted).setSlot f.slot
        { x with args := some (.segSleep b) }).refuse f.slot status) = .next (refused status) := by
      rw [Arriving.refuse hi record granted status, hcq]
    refine settled_ite (fun _ => hrefused .busy) fun _ => settled_ite (fun _ => hrefused .busy) fun _ =>
      settled_ite (fun _ => hrefused .conflict) fun _ => settled_ite (fun _ => hrefused .busy) fun _ =>
      settled_ite (fun _ => ?_) fun _ => settled_ite (fun _ => hrefused .busy) fun _ => ?_
    · rw [settled_answer_arrivedSlot (hi.consumed f cfg.size granted), hcq]
    · exact settled_setPending hi record granted _ g .sleep

end Sys2Proof.Machine
end

/-! ### How a leg ends (R18, R47, R48, R51, R71, R72) -/

section
namespace Sys2Proof.Machine

/-! #### The last leg ends the exchange -/

/-- Slot `i` once its record is `y` with legs just finished: answered where none is left unfinished (R18). -/
def State.concluded (s : State) (i : SlotId) (c : Cq) (x : Exchange) (y : Slot) : State :=
  if ∀ l ∈ y.legs, l.state = .finished then s.answered i c (doneWith y (exchangeResult y x)) else s.setSlot i y

theorem Slot.legsFinished_iff (y : Slot) : y.legsFinished = true ↔ ∀ l ∈ y.legs, l.state = .finished := by
  simp [Slot.legsFinished]

section
variable {s : State} {i : SlotId} {c : Cq} {x : Exchange}

theorem State.checkDone_eq {y : Slot} (hl : y.state = .live) (hx : y.exchange = some x) (hc : y.cq = some c) :
    (s.setSlot i y).checkDone i = s.concluded i c x y := by
  rw [State.checkDone, State.slot_setSlot_self, hx, State.concluded]
  by_cases hf : ∀ l ∈ y.legs, l.state = .finished
  · rw [if_pos hf]
    refine (if_pos ⟨hl, (Slot.legsFinished_iff y).2 hf⟩).trans ?_
    rw [State.completeSlot_eq (c := c) _ (by rw [State.slot_setSlot_self]; exact .inr hl) (by rw [State.slot_setSlot_self]; exact hc),
      State.setSlot_answered, State.slot_setSlot_self]
  · rw [if_neg hf]
    exact if_neg fun h => hf ((Slot.legsFinished_iff y).1 h.2)

theorem State.finishLeg_eq (hl : (s.slot i).state = .live) (hx : (s.slot i).exchange = some x) (hc : (s.slot i).cq = some c)
    (g : Seg) (o : LegOutcome) : s.finishLeg i g o = s.concluded i c x ((s.slot i).legEndedOn g o) :=
  State.checkDone_eq (y := (s.slot i).legEndedOn g o) hl hx hc

theorem State.setSlot_concluded (y z : Slot) : (s.setSlot i z).concluded i c x y = s.concluded i c x y := by
  unfold State.concluded
  rw [State.setSlot_answered, State.setSlot_setSlot]

theorem State.slot_concluded (y : Slot) : (s.concluded i c x y).slot i = s.legsEnded c x y := by
  unfold State.concluded State.legsEnded
  split
  · unfold State.answered State.posted
    split
    · rw [State.slot_setCq, State.slot_setSlot_self]
    · rw [State.slot_setSlot_self]
  · rw [State.slot_setSlot_self]

theorem IdleTimersFollow.concluded (h : IdleTimersFollow s) (y : Slot) : IdleTimersFollow (s.concluded i c x y) := by
  unfold State.concluded
  split
  · exact h.answered i c _
  · exact h.setSlot i y

end

/-! #### The leg of a frame that ends -/

theorem LegsLegal.legOn_eq {t : Slot} (h : LegsLegal t) {l : Leg} {g : Seg} (hl : l ∈ t.legs) (hg : l.segment = g) : t.legOn g = some l := by
  cases hf : t.legOn g with
  | none => exact absurd (List.find?_eq_none.1 hf l hl) (by simp [hg])
  | some m =>
    obtain ⟨hm, hmg⟩ := Slot.legOn_eq_some hf
    rw [h.unique hm hl (hmg.trans hg.symm)]

theorem Slot.legOn_of_single {t : Slot} {l : Leg} {g : Seg} (hl : t.legs = [l]) (hg : l.segment = g) : t.legOn g = some l := by
  rw [Slot.legOn, hl, List.find?_cons_of_pos (by simp [hg])]

/-- The record of an exchange whose frame on segment `g` has ended with outcome `o` and whose leg there finishes (R47, R48, R51). -/
def Slot.frameEnded (t : Slot) (x : Exchange) (g : Seg) (o : LegOutcome) (bytes : List Byte) : Slot :=
  { t.legEndedOn g (if t.deadline = .passed ∧ o ≠ .ok then .expired else o) with
    lastEnded := some g
    late := t.late || (decide (t.deadline = .passed) && decide (o = .ok))
    payload := if x.direction = .dirIn ∧ o = .ok then some bytes else t.payload }

section
variable {s : State} {i : SlotId} {g : Seg} {l : Leg}

theorem State.legFrameEnded_of_leg (hl : (s.slot i).legOn g = some l) (hw : l.state = .onWire) (o : LegOutcome) (bytes : List Byte) :
    s.legFrameEnded i g o bytes =
      (s.setSlot i { s.slot i with lastEnded := some g }).applyDecision i g bytes (s.legDecision i l o) := by
  have hsame : (s.setSlot i { s.slot i with lastEnded := some g }).legDecision i l o = s.legDecision i l o := by
    simp only [State.legDecision, State.failoverTo, State.slot_setSlot_self, State.seg_setSlot]
  rw [State.legFrameEnded, hl]
  simp only [hw, if_true, State.modSlot_eq, hsame]

theorem State.legDecision_ok (hd : (s.slot i).deadline ≠ .passed) : s.legDecision i l .ok = .finishOk := by
  simp [State.legDecision, hd]

theorem State.legDecision_passed {o : LegOutcome} (hd : (s.slot i).deadline = .passed) (ho : o ≠ .ok) :
    s.legDecision i l o = .finish .expired := by
  simp [State.legDecision, hd, ho]

theorem State.legDecision_late (hd : (s.slot i).deadline = .passed) : s.legDecision i l .ok = .finishLate := by
  simp [State.legDecision, hd]

section
variable {o : LegOutcome} (hd : (s.slot i).deadline ≠ .passed) (ho : o ≠ .ok)
include hd ho

theorem State.legDecision_aborted (ha : (s.slot i).abortPending = true) : s.legDecision i l o = .finish o := by
  simp [State.legDecision, hd, ho, ha]

theorem State.legDecision_retry (ha : (s.slot i).abortPending = false) (hr : o.retryable = true) (hn : 0 < l.retriesLeft) :
    s.legDecision i l o = .retry := by
  simp [State.legDecision, hd, ho, ha, hr, hn]

theorem State.legDecision_failover {b : Seg} (ha : (s.slot i).abortPending = false) (hn : o.retryable = false ∨ l.retriesLeft = 0)
    (hf : s.failoverTo i l o = some b) : s.legDecision i l o = .failover b := by
  rcases hn with hn | hn <;> simp [State.legDecision, hd, ho, ha, hn, hf]

theorem State.legDecision_finish (hn : o.retryable = false ∨ l.retriesLeft = 0) (hf : s.failoverTo i l o = none) :
    s.legDecision i l o = .finish o := by
  rcases hn with hn | hn <;> simp [State.legDecision, hd, ho, hn, hf]

end

theorem State.failoverTo_eq_none_of_outcome {o : LegOutcome} (h : o.permitsFailover = false) : s.failoverTo i l o = none := by
  cases hf : s.failoverTo i l o with
  | none => rfl
  | some b =>
    obtain ⟨_, _, _, _, _, _, _, _, hp, _⟩ := State.failoverTo_eq_some hf
    rw [h] at hp
    cases hp

theorem State.failoverTo_eq_none_of_path {o : LegOutcome} (h : l.path ≠ some .primary) : s.failoverTo i l o = none := by
  cases hf : s.failoverTo i l o with
  | none => rfl
  | some b =>
    obtain ⟨_, _, _, _, hp, _⟩ := State.failoverTo_eq_some hf
    exact absurd hp h

theorem State.finishOk_eq {x : Exchange} (hx : (s.slot i).exchange = some x) (bytes : List Byte) : s.finishOk i g bytes =
    (s.setSlot i { s.slot i with
      payload := if x.direction = Direction.dirIn then some bytes else (s.slot i).payload }).finishLeg i g .ok := by
  refine congrArg (fun y => (s.setSlot i y).finishLeg i g .ok) ?_
  obtain ⟨target, frameId, direction, confirmed, length, priority, timeoutClass, retryBudget⟩ := x
  dsimp only
  cases direction with
  | dirIn =>
    rw [if_pos rfl]
    split
    · rfl
    · rename_i hn
      exact absurd hx (hn _ _ _ _ _ _ _)
  | dirOut =>
    rw [if_neg nofun]
    split
    · rename_i hy
      cases hy.symm.trans hx
    · rfl

/-- The frame end of a leg that finishes (R47 rows 1 to 3 and 6). -/
theorem State.legFrameEnded_finishes {c : Cq} {x : Exchange} {o : LegOutcome} (hl : (s.slot i).legOn g = some l) (hw : l.state = .onWire)
    (hlive : (s.slot i).state = .live) (hx : (s.slot i).exchange = some x) (hc : (s.slot i).cq = some c)
    (hfin : o ≠ .ok → (s.slot i).deadline ≠ .passed → s.legDecision i l o = .finish o) (bytes : List Byte) :
    s.legFrameEnded i g o bytes = s.concluded i c x ((s.slot i).frameEnded x g o bytes) := by
  have hfinish (z : Slot) (hz : z.state = .live ∧ z.exchange = some x ∧ z.cq = some c) (out : LegOutcome) :
      (s.setSlot i z).finishLeg i g out = s.concluded i c x (z.legEndedOn g out) := by
    rw [State.finishLeg_eq (c := c) (x := x) (by rw [State.slot_setSlot_self]; exact hz.1) (by rw [State.slot_setSlot_self]; exact hz.2.1)
      (by rw [State.slot_setSlot_self]; exact hz.2.2), State.slot_setSlot_self, State.setSlot_concluded]
  rw [State.legFrameEnded_of_leg hl hw]
  by_cases ho : o = .ok
  · subst ho
    by_cases hd : (s.slot i).deadline = .passed
    · rw [State.legDecision_late hd, State.applyDecision, State.modSlot_eq, State.setSlot_setSlot, State.slot_setSlot_self,
        State.finishOk_eq (x := x) (by rw [State.slot_setSlot_self]; exact hx), State.setSlot_setSlot, State.slot_setSlot_self,
        hfinish _ (by exact ⟨hlive, hx, hc⟩)]
      refine congrArg (s.concluded i c x) ?_
      simp [Slot.frameEnded, Slot.legEndedOn, hd]
    · rw [State.legDecision_ok hd, State.applyDecision,
        State.finishOk_eq (x := x) (by rw [State.slot_setSlot_self]; exact hx), State.setSlot_setSlot, State.slot_setSlot_self,
        hfinish _ (by exact ⟨hlive, hx, hc⟩)]
      refine congrArg (s.concluded i c x) ?_
      simp [Slot.frameEnded, Slot.legEndedOn, hd]
  · have hdecision : s.legDecision i l o = .finish (if (s.slot i).deadline = .passed ∧ o ≠ .ok then .expired else o) := by
      by_cases hd : (s.slot i).deadline = .passed
      · rw [if_pos ⟨hd, ho⟩, State.legDecision_passed hd ho]
      · rw [if_neg fun h => hd h.1, hfin ho hd]
    rw [hdecision, State.applyDecision, hfinish _ (by exact ⟨hlive, hx, hc⟩)]
    refine congrArg (s.concluded i c x) ?_
    simp [Slot.frameEnded, Slot.legEndedOn, ho]

end

end Sys2Proof.Machine
end

/-! ### The commands that end a frame (R71, R72) -/

section
namespace Sys2Proof.Machine

theorem State.endFrame_of_exchange {s : State} {g : Seg} {f : Frame} {i : SlotId} (hf : (s.seg g).frame = some f)
    (hc : f.carrier = .exchange i) (o : LegOutcome) (bytes : List Byte) :
    s.endFrame g o bytes = (s.setSeg g (afterFrame (s.seg g) o)).legFrameEnded i g o bytes := by
  rw [State.endFrame, hf]
  simp only [hc, State.modSeg_eq, Segment.countFrame_enterGuard]

/-- Bytes are returned with an OK outcome alone (R48). -/
theorem State.applyDecision_bytes (s : State) (i : SlotId) (g : Seg) (l : Leg) {o : LegOutcome} (ho : o ≠ .ok) (b b' : List Byte)
    (t : State) : s.applyDecision i g b (t.legDecision i l o) = s.applyDecision i g b' (t.legDecision i l o) := by
  unfold State.legDecision
  dsimp only
  rw [if_neg ho, if_neg ho]
  split
  · rfl
  · split
    · rfl
    · split
      · rfl
      · split <;> rfl

theorem State.endFrame_bytes (s : State) (g : Seg) {o : LegOutcome} (ho : o ≠ .ok) (b b' : List Byte) :
    s.endFrame g o b = s.endFrame g o b' := by
  unfold State.endFrame
  split
  · rfl
  · dsimp only
    split
    · unfold State.legFrameEnded
      split
      · dsimp only
        split
        · exact State.applyDecision_bytes _ _ _ _ ho b b' _
        · rfl
      · rfl
    · rfl

theorem State.enterGuardMeasured_of_short (s : State) {carried : CarriedLevel} (h : carried.dominant < 10) :
    s.enterGuardMeasured carried = s := if_pos h

theorem exec_ackReceived {s : State} {g : Seg} {f : Frame} (hl : (s.seg g).lineState = .active) (hf : (s.seg g).frame = some f)
    (hp : (s.seg g).phase = .ackWait) (hr : f.inReception = true) (b : DataLevels) :
    exec (.ackReceived g b) s = settled (s.endFrame g (ackOutcome (receivedByte b)) []) := by
  change execAckReceived g b s = _
  rw [execAckReceived, Segment.frameIn_of_phase hl hp, hf]
  simp only [hr, if_true]

theorem exec_windowEnd_of_short {s : State} {g : Seg} {f : Frame} (hl : (s.seg g).lineState = .active) (hf : (s.seg g).frame = some f)
    (hp : (s.seg g).phase = .ackWait ∨ (s.seg g).phase = .responseIn) (hr : f.inReception = false) (hb : (s.seg g).phaseBits ≠ none)
    {n : Nat} (hn : n < 10) : exec (.windowEnd ⟨g, n⟩) s = settled (s.endFrame g (windowOutcome f) []) := by
  change execWindowEnd ⟨g, n⟩ s = _
  rw [execWindowEnd, Segment.listening_of_phase hl hf hp]
  simp only
  rw [if_neg hb, hr, State.enterGuardMeasured_of_short _ hn]
  rfl

/-- The last byte expected in RESPONSE_IN is the check byte (R69, R72). -/
theorem exec_byteReceived_of_last {s : State} {g : Seg} {f : Frame} (hl : (s.seg g).lineState = .active)
    (hf : (s.seg g).frame = some f) (hp : (s.seg g).phase = .responseIn) (hr : f.inReception = true)
    (hlen : f.received.length = f.length) (b : DataLevels) : exec (.byteReceived g b) s =
      settled (s.endFrame g (if frameCheck f f.received = receivedByte b then .ok else .checkError) f.received) := by
  have htake : (f.received ++ [receivedByte b]).take f.length = f.received := by rw [← hlen, List.take_left]
  have hlast : (f.received ++ [receivedByte b]).getD f.length 0 = receivedByte b := by
    rw [List.getD_eq_getElem?_getD, ← hlen, List.getElem?_concat_length]
    rfl
  change execByteReceived g b s = _
  rw [execByteReceived, Segment.frameIn_of_phase hl hp, hf]
  simp only [hr, if_true]
  rw [if_pos (by rw [List.length_append, hlen]; rfl), responseOutcome, htake, hlast]

theorem exec_byteReceived_of_late {s : State} {g : Seg} {f : Frame} (hl : (s.seg g).lineState = .active)
    (hf : (s.seg g).frame = some f) (hp : (s.seg g).phase = .responseIn) (hr : f.inReception = true)
    (hlen : f.received.length + 1 ≤ f.length) (hb : (s.seg g).phaseBits = none) (b : DataLevels) :
    exec (.byteReceived g b) s = settled (s.endFrame g .partialResponse []) := by
  change execByteReceived g b s = _
  rw [execByteReceived, Segment.frameIn_of_phase hl hp, hf]
  simp only [hr, if_true]
  rw [if_neg (by rw [List.length_append, List.length_singleton]; omega), if_pos hb]

theorem exec_recoverEnd {s : State} {g : Seg} {f : Frame} {p : PendingOutcome} (hl : (s.seg g).lineState = .active)
    (hf : (s.seg g).frame = some f) (hp : (s.seg g).phase = .recover) (hr : (s.seg g).run = .counting)
    (ho : (s.seg g).pendingOutcome = some p) : exec (.recoverEnd g) s = settled (s.endFrame g p.outcome []) := by
  change execRecoverEnd g s = _
  rw [execRecoverEnd, Segment.frameIn_of_phase hl hp, hf, ho]
  exact if_pos hr

theorem ackOutcome_eq (b : Byte) : ackOutcome b = if b = 0x96 then .ok else if b = 0x69 then .refused else .badAck := rfl

/-- Each row of R71 and R72 ends the frame with its outcome. -/
theorem EndsFrame.exec_eq {s : State} {g : Seg} {f : Frame} {cmd : Instr} {o : LegOutcome} {bytes : List Byte}
    (h : EndsFrame (s.seg g) g f cmd o bytes) (hl : (s.seg g).lineState = .active) (hf : (s.seg g).frame = some f) :
    exec cmd s = settled (s.endFrame g o bytes) := by
  cases h with
  | accepted b hp hr hb => rw [exec_ackReceived hl hf hp hr, ackOutcome_eq, if_pos hb]
  | refused b hp hr hb =>
    rw [exec_ackReceived hl hf hp hr, ackOutcome_eq, if_neg (by rw [hb]; decide), if_pos hb]
  | badAck b hp hr hb hb' => rw [exec_ackReceived hl hf hp hr, ackOutcome_eq, if_neg hb, if_neg hb']
  | noAck n hn hp hr hb hnone => rw [exec_windowEnd_of_short hl hf (.inl hp) hr hb hn, windowOutcome, if_pos hnone]
  | response b hp hr hlen hc => rw [exec_byteReceived_of_last hl hf hp hr hlen, if_pos hc]
  | checkError b hp hr hlen hc =>
    rw [exec_byteReceived_of_last hl hf hp hr hlen, if_neg hc, State.endFrame_bytes s g (o := .checkError) (by nofun) f.received []]
  | lateByte b hp hr hlen hb => exact exec_byteReceived_of_late hl hf hp hr hlen hb b
  | silence n hn hp hr hb hnone => rw [exec_windowEnd_of_short hl hf (.inr hp) hr hb hn, windowOutcome, if_pos hnone]
  | short n hn hp hr hb hsome => rw [exec_windowEnd_of_short hl hf (.inr hp) hr hb hn, windowOutcome, if_neg hsome]
  | sent hp hc =>
    change execResponseOutEnd g s = _
    rw [execResponseOutEnd, Segment.frameIn_of_phase hl hp, hf]
    simp [hc]
  | framing hp hr ho => rw [exec_recoverEnd hl hf hp hr ho, PendingOutcome.outcome]
  | readback hp hr ho => rw [exec_recoverEnd hl hf hp hr ho, PendingOutcome.outcome]

/-- A frame that ends was in a phase of its own. -/
theorem EndsFrame.phase_ne_idle {x : Segment} {g : Seg} {f : Frame} {cmd : Instr} {o : LegOutcome} {bytes : List Byte}
    (h : EndsFrame x g f cmd o bytes) : x.phase ≠ .idle := by
  cases h <;> rename_i hp _ <;> simp_all

end Sys2Proof.Machine
end

/-! ### A frame end that finishes its leg, and the results (R17 to R21, R47, R48, R51, R171) -/

section
namespace Sys2Proof.Machine

/-! #### The leg finishes -/

section
variable {s : State} {i : SlotId} {g : Seg} {l : Leg} {o : LegOutcome}

theorem State.failoverTo_eq_none_of_target {x : Exchange} (hx : (s.slot i).exchange = some x) (ht : ∀ a b, x.target ≠ .pair a b) :
    s.failoverTo i l o = none := by
  cases hf : s.failoverTo i l o with
  | none => rfl
  | some b =>
    obtain ⟨y, a, hy, hp, _⟩ := State.failoverTo_eq_some hf
    cases hx.symm.trans hy
    exact absurd hp (ht a b)

theorem State.legDecision_finishes (ho : o ≠ .ok) (hd : (s.slot i).deadline ≠ .passed)
    (h : o ∈ ([.ok, .refused] : List LegOutcome) ∨ (s.slot i).abortPending = true ∨ l.retriesLeft = 0 ∧ s.failoverTo i l o = none) :
    s.legDecision i l o = .finish o := by
  rcases h with h | h | ⟨hn, hf⟩
  · have hr : o = .refused := by simpa [ho] using h
    subst hr
    exact State.legDecision_finish hd ho (.inl rfl) (State.failoverTo_eq_none_of_outcome rfl)
  · exact State.legDecision_aborted hd ho h
  · exact State.legDecision_finish hd ho (.inr hn) hf

end

section
variable {s : State} {g : Seg} {f : Frame} {cmd : Instr} {o : LegOutcome} {bytes : List Byte} {i : SlotId} {x : Exchange} {l : Leg}
  {c : Cq} (hi : IdleTimersFollow s) (hl : (s.seg g).lineState = .active) (hf : (s.seg g).frame = some f)
  (h : EndsFrame (s.seg g) g f cmd o bytes) (hc : f.carrier = .exchange i) (hlive : (s.slot i).state = .live)
  (hx : (s.slot i).exchange = some x) (hleg : (s.slot i).legOn g = some l) (hw : l.state = .onWire) (hcq : (s.slot i).cq = some c)

include hi h in
theorem EndsFrame.follows : IdleTimersFollow (s.setSeg g (afterFrame (s.seg g) o)) :=
  hi.setSeg (by rw [Segment.idleTimerFor_of_not_idle (by nofun)]; exact hi.of_not_idle h.phase_ne_idle)

include hi hl hf h hc hlive hx hleg hw hcq

/-- The frame is counted, GUARD begins, and the leg has finished. -/
theorem EndsFrame.exec_finishes (hfin : o ∈ ([.ok, .refused] : List LegOutcome) ∨ (s.slot i).abortPending = true ∨
      (s.slot i).deadline = .passed ∨ l.retriesLeft = 0 ∧ (l.path ≠ some .primary ∨ ∀ a b, x.target ≠ .pair a b)) :
    exec cmd s = .next ((s.setSeg g (afterFrame (s.seg g) o)).concluded i c x ((s.slot i).frameEnded x g o bytes)) := by
  rw [h.exec_eq hl hf, State.endFrame_of_exchange hf hc]
  refine settled_eq_of_follow ?_ ((h.follows hi).concluded _)
  refine State.legFrameEnded_finishes (by exact hleg) hw (by exact hlive) (by exact hx) (by exact hcq) (fun ho hd => ?_) bytes
  refine State.legDecision_finishes ho hd ?_
  rcases hfin with hfin | hfin | hfin | ⟨hn, hp | ht⟩
  · exact .inl hfin
  · exact .inr (.inl hfin)
  · exact absurd hfin hd
  · exact .inr (.inr ⟨hn, State.failoverTo_eq_none_of_path hp⟩)
  · exact .inr (.inr ⟨hn, State.failoverTo_eq_none_of_target (by exact hx) ht⟩)

end

/-! #### The result of one leg -/

theorem exchangeResult_of_leg (y : Slot) (x : Exchange) (l : Leg) (o : LegOutcome) (ht : ∀ m, x.target ≠ .fan m) (hl : y.legs = [l])
    (ho : l.outcome = some o) : exchangeResult y x = {
      status := .outcome o, attempts := l.attempts, lastSeg := l.lastFrameSeg, late := y.late
      failover := y.failoverUsed && !y.alternatePath, alternate := y.alternatePath
      length := if x.direction = .dirIn ∧ o = .ok then x.length else 0
      area := if x.direction = .dirIn ∧ o = .ok then padArea (y.payload.getD []) else zeroArea } := by
  obtain ⟨target, frameId, direction, confirmed, length, priority, timeoutClass, retryBudget⟩ := x
  cases target with
  | fan m => exact absurd rfl (ht m)
  | _ =>
    simp only [exchangeResult, hl, List.head?_cons, ho, Option.getD_some]

/-! #### The result of a FAN -/

theorem LegOutcome.nibble_eq (o : LegOutcome) : o.nibble = (if o = .ok then 15 else (Status.outcome o).code) ∧ o.nibble < 16 := by
  cases o <;> decide

theorem legNibble_of_none {legs : List Leg} {g : Seg} (h : ∀ l ∈ legs, l.segment ≠ g) : legNibble legs g = 0 := by
  have hnone : legs.find? (fun l => l.segment = g) = none := List.find?_eq_none.2 fun l hl => by simp [h l hl]
  rw [legNibble, hnone]

theorem legNibble_of_mem {legs : List Leg} (hd : legs.Pairwise fun l k => l.segment ≠ k.segment) {l : Leg} (hl : l ∈ legs)
    {o : LegOutcome} (ho : l.outcome = some o) : legNibble legs l.segment = o.nibble := by
  have hfind : legs.find? (fun k => k.segment = l.segment) = some l := by
    induction legs with
    | nil => cases hl
    | cons k legs ih =>
      obtain ⟨hk, hd⟩ := List.pairwise_cons.1 hd
      rcases List.mem_cons.1 hl with rfl | hm
      · exact List.find?_cons_of_pos (by simp)
      · rw [List.find?_cons_of_neg (by simp [hk l hm])]
        exact ih hd hm
  rw [legNibble, hfind]
  simp only [ho]

theorem legNibble_lt (legs : List Leg) (g : Seg) : legNibble legs g < 16 := by
  unfold legNibble
  split
  · split
    · exact (LegOutcome.nibble_eq _).2
    · decide
  · decide

/-- The two nibbles of a byte of the leg table. -/
theorem toNat_byteOf_nibbles {a b : Nat} (ha : a < 16) (hb : b < 16) :
    (byteOf (a + 16 * b)).toNat / 1 % 16 = a ∧ (byteOf (a + 16 * b)).toNat / 16 % 16 = b := by
  rw [toNat_byteOf (by omega)]
  omega

/-- A segment's nibble of the leg table (R171). -/
theorem legTable_nibble (legs : List Leg) (g : Seg) :
    ((legTable legs).getD (g.val / 2) 0).toNat / (if g.val % 2 = 0 then 1 else 16) % 16 = legNibble legs g := by
  have h (a b : Seg) := toNat_byteOf_nibbles (legNibble_lt legs a) (legNibble_lt legs b)
  match g with
  | 0 => exact (h 0 1).1
  | 1 => exact (h 0 1).2
  | 2 => exact (h 2 3).1
  | 3 => exact (h 2 3).2
  | 4 => exact (h 4 5).1
  | 5 => exact (h 4 5).2
  | 6 => exact (h 6 7).1
  | 7 => exact (h 6 7).2

theorem fanStatus_eq (legs : List Leg) : fanStatus legs = (if ∀ l ∈ legs, l.outcome = some .ok then .outcome .ok
    else if ∀ l ∈ legs, l.outcome ≠ some .ok then .allFailed else .someFailed) := by
  rw [fanStatus]
  by_cases hall : ∀ l ∈ legs, l.outcome = some .ok
  · rw [if_pos hall, if_pos (by simpa using hall)]
  · rw [if_neg hall, if_neg (by simpa using hall)]
    by_cases hnone : ∀ l ∈ legs, l.outcome ≠ some .ok
    · rw [if_pos hnone, if_neg (by simpa using hnone)]
    · rw [if_neg hnone, if_pos (by simpa using hnone)]

/-- Settles O52. -/
theorem frameEndFinishesSingleExchange : Obligations.FrameEndFinishesSingleExchange := by
  refine ⟨?_, ?_, ?_, ?_⟩
  · intro s g f cmd o bytes i x l c hi hl hf h hc hlive hx ht hlegs hg hw hcq hfin passed final reads late y
    have hexec := h.exec_finishes hi hl hf hc hlive hx (Slot.legOn_of_single hlegs hg) hw hcq (by
      rcases hfin with h | h | h | h
      · exact .inl h
      · exact .inr (.inr (.inr ⟨h, .inr fun a b => by rw [ht]; nofun⟩))
      · exact .inr (.inl h)
      · exact .inr (.inr (.inl h)))
    subst hg
    have hy : (s.slot i).frameEnded x l.segment o bytes = y := by
      simp only [Slot.frameEnded, Slot.legEndedOn, hlegs, List.map_cons, List.map_nil, if_true]
      rfl
    have hdone : ∀ k ∈ y.legs, k.state = .finished := by simp [y]
    have hfinal : final = .ok ↔ o = .ok := by
      by_cases hp : passed ∧ o ≠ .ok
      · rw [show final = .expired from if_pos hp]
        exact ⟨nofun, fun e => absurd e hp.2⟩
      · rw [show final = o from if_neg hp]
    have hreads : (x.direction = .dirIn ∧ final = .ok) ↔ reads := and_congr_right fun _ => hfinal
    have hlength : (if x.direction = .dirIn ∧ final = .ok then x.length else 0) = if reads then x.length else 0 :=
      if_congr hreads rfl rfl
    have harea : (if x.direction = .dirIn ∧ final = .ok then padArea (y.payload.getD []) else zeroArea) =
        if reads then (bytes ++ List.replicate 8 0).take 8 else List.replicate 8 0 := by
      by_cases hr : reads
      · rw [if_pos (hreads.2 hr), if_pos hr, show y.payload = some bytes from if_pos hr]
        rfl
      · rw [if_neg (hreads.not.2 hr), if_neg hr]
        rfl
    rw [hexec, hy, State.concluded, if_pos hdone,
      exchangeResult_of_leg y x { l with state := .finished, outcome := some final } final (by rw [ht]; nofun) (by rfl) (by rfl), hlength,
      harea]
  · intro s g f cmd o bytes i x l c hi hl hf h hc hlive hx hlegs hmem hg hw hcq hfin passed y u
    exact h.exec_finishes hi hl hf hc hlive hx (hlegs.legOn_eq hmem hg) hw hcq (by
      rcases hfin with h | h | h | ⟨h, hp⟩
      · exact .inl h
      · exact .inr (.inl h)
      · exact .inr (.inr (.inl h))
      · exact .inr (.inr (.inr ⟨h, .inl hp⟩)))
  · intro y x l o ht hl ho reads
    exact exchangeResult_of_leg y x l o ht hl ho
  · intro y x m ht hd hout hfo halt r nibble
    have hr : r = {
        status := fanStatus y.legs, attempts := (y.legs.map Leg.attempts).sum, lastSeg := y.lastEnded, late := y.late
        failover := y.failoverUsed && !y.alternatePath, alternate := y.alternatePath, length := 0, area := legTable y.legs } := by
      simp only [r, exchangeResult, ht]
    have hnibble (g : Seg) : nibble g = legNibble y.legs g := by
      simp only [nibble, hr]
      exact legTable_nibble y.legs g
    rw [hr]
    refine ⟨fanStatus_eq y.legs, rfl, rfl, rfl, by simp [hfo], halt, rfl, rfl, rfl, fun g hg => ?_, fun l hl o ho => ?_⟩
    · rw [hnibble, legNibble_of_none hg]
    · rw [hnibble, legNibble_of_mem hd hl ho, (LegOutcome.nibble_eq o).1]

end Sys2Proof.Machine
end

/-! ### Retry and failover of a leg whose frame has ended (R40, R46, R47, R50, R52, R53) -/

section
namespace Sys2Proof.Machine

theorem LegOutcome.of_retried {o : LegOutcome}
    (h : o ∈ ([.noResponse, .partialResponse, .checkError, .framing, .readback, .badAck] : List LegOutcome)) :
    o ≠ .ok ∧ o.retryable = true ∧ o.permitsFailover = true := by
  revert h
  cases o <;> decide

theorem LineState.mem_usable_iff (l : LineState) : l ∈ ([.syncing, .active, .dormant, .waking] : List LineState) ↔ l.usable = true := by
  cases l <;> simp [LineState.usable]

/-! #### The place in the queue -/

theorem insertOrdered_split {α : Type} (before : α → α → Bool) (x : α) (l : List α) :
    ∃ a b, l = a ++ b ∧ insertOrdered before x l = a ++ x :: b := by
  induction l with
  | nil => exact ⟨[], [], rfl, rfl⟩
  | cons y l ih =>
    obtain ⟨a, b, hl, hi⟩ := ih
    unfold insertOrdered
    split
    · exact ⟨[], y :: l, rfl, rfl⟩
    · exact ⟨y :: a, b, by rw [hl, List.cons_append], by rw [hi, List.cons_append]⟩

theorem State.ordersBefore_setSlot {s : State} {i : SlotId} {y : Slot} (hx : y.exchange = (s.slot i).exchange)
    (ha : y.arrival = (s.slot i).arrival) : (s.setSlot i y).ordersBefore = s.ordersBefore := by
  have hxj (j : SlotId) : ((s.setSlot i y).slot j).exchange = (s.slot j).exchange := by
    rw [State.slot_setSlot]
    split
    · rename_i h
      rw [hx, h]
    · rfl
  have haj (j : SlotId) : ((s.setSlot i y).slot j).arrival = (s.slot j).arrival := by
    rw [State.slot_setSlot]
    split
    · rename_i h
      rw [ha, h]
    · rfl
  have hp (j : SlotId) : (s.setSlot i y).priorityOf j = s.priorityOf j := by rw [State.priorityOf, hxj, State.priorityOf]
  have hr (j : SlotId) : (s.setSlot i y).arrivalOf j = s.arrivalOf j := by rw [State.arrivalOf, haj, State.arrivalOf]
  funext j k
  simp only [State.ordersBefore, State.arrivedBefore, hp, hr]

/-- A LIVE slot not in a queue stands, once inserted, behind the slots that order before it and ahead of the others (R38, R40). -/
theorem DispatchLegal.insertOrdered_split {s : State} (h : DispatchLegal s) {g : Seg} {i : SlotId} (hlive : (s.slot i).state = .live)
    (hi : i ∉ s.queue g) : ∃ before after, s.queue g = before ++ after ∧
      insertOrdered s.ordersBefore i (s.queue g) = before ++ i :: after ∧
      (∀ j ∈ before, s.ordersBefore j i = true) ∧ ∀ j ∈ after, s.ordersBefore i j = true := by
  obtain ⟨before, after, hq, hins⟩ := Machine.insertOrdered_split s.ordersBefore i (s.queue g)
  have htotal : ∀ j ∈ s.queue g, s.ordersBefore i j = true ∨ s.ordersBefore j i = true := by
    intro j hj
    refine State.ordersBefore_total fun e => hi ?_
    have hjlive := ((h.queued g j).1 hj).1
    obtain ⟨n, hn, -⟩ := h.arrived i hlive
    obtain ⟨m, hm, -⟩ := h.arrived j hjlive
    rw [State.arrivalOf, State.arrivalOf, hn, hm] at e
    have hsame : i = j := h.inOrder i j hlive hjlive (by rw [hn, hm]; exact congrArg some e)
    rwa [hsame]
  have hpair := pairwise_insertOrdered (r := s.ordersBefore) (fun _ _ _ => State.ordersBefore_trans) i (h.ordered g) htotal
  rw [hins] at hpair
  obtain ⟨-, hafter, hcross⟩ := List.pairwise_append.1 hpair
  exact ⟨before, after, hq, hins, fun j hj => hcross j hj i (List.mem_cons_self ..), fun j hj => (List.pairwise_cons.1 hafter).1 j hj⟩

/-! #### Retry -/

theorem Segment.demanded_of_awake {x : Segment} (h : x.lineState ≠ .dormant) : x.demanded = x := if_neg fun hc => h hc.1

/-- The leg that is retried is WAITING again, in the queue of its segment (R50). -/
theorem State.retry_eq (s : State) (i : SlotId) (g : Seg) (h : (s.seg g).lineState = .active) : s.retry i g =
    ((s.setQueue g (insertOrdered s.ordersBefore i (s.queue g))).setSlot i
      ((s.slot i).mapLeg g fun l => { l with retriesLeft := l.retriesLeft - 1, state := .waiting })).setSeg g
      { s.seg g with retries := (s.seg g).retries + 1 } := by
  obtain ⟨y, hy⟩ : ∃ y, y = (s.slot i).mapLeg g fun l => { l with retriesLeft := l.retriesLeft - 1, state := .waiting } := ⟨_, rfl⟩
  have horder : ((s.setSlot i y).setSeg g { s.seg g with retries := (s.seg g).retries + 1 }).ordersBefore = s.ordersBefore :=
    (State.ordersBefore_of_slots rfl).trans (State.ordersBefore_setSlot (by rw [hy]; rfl) (by rw [hy]; rfl))
  rw [State.retry, State.modSlot_eq, State.modSeg_eq, State.joinQueue_eq, ← hy, State.seg_setSlot, horder, State.seg_setSeg_self,
    Segment.demanded_of_awake (by rw [h]; nofun), State.queue_setSeg, State.queue_setSlot]
  exact State.setSeg_setSeg ((s.setQueue g (insertOrdered s.ordersBefore i (s.queue g))).setSlot i y) g _ _

/-- Settles O53. -/
theorem frameEndRetriesLeg : Obligations.FrameEndRetriesLeg := by
  intro s g f cmd o bytes i x l hi hd hl hf h hc hlive hx hmem hg hw ho hn ha hdl
  obtain ⟨hok, hretry, -⟩ := LegOutcome.of_retried ho
  have hwire : LegOnWire s g i := ⟨hlive, l, hmem, hg, hw⟩
  obtain ⟨before, after, hq, hins, hbefore, hafter⟩ := hd.insertOrdered_split hlive (hwire.notMem hd)
  have hleg := (hd.legs i).legOn_eq hmem hg
  obtain ⟨y, hy⟩ : ∃ y : Slot, y = { s.slot i with lastEnded := some g } := ⟨_, rfl⟩
  have hstep : s.endFrame g o bytes = ((s.setSeg g (afterFrame (s.seg g) o)).setSlot i y).retry i g := by
    rw [State.endFrame_of_exchange hf hc, State.legFrameEnded_of_leg (by exact hleg) hw,
      State.legDecision_retry (by exact hdl) hok (by exact ha) hretry hn, State.slot_setSeg, ← hy]
    rfl
  have horder : ((s.setSeg g (afterFrame (s.seg g) o)).setSlot i y).ordersBefore = s.ordersBefore :=
    (State.ordersBefore_setSlot (by rw [hy]; rfl) (by rw [hy]; rfl)).trans (State.ordersBefore_of_slots rfl)
  rw [State.retry_eq _ _ _ (by rw [State.seg_setSlot, State.seg_setSeg_self]; exact hl), horder, State.queue_setSlot,
    State.queue_setSeg, hins, State.slot_setSlot_self, State.seg_setSlot, State.seg_setSeg_self] at hstep
  obtain ⟨z, hz⟩ : ∃ z, z = y.mapLeg g fun l => { l with retriesLeft := l.retriesLeft - 1, state := .waiting } := ⟨_, rfl⟩
  have hend : s.endFrame g o bytes = ((s.setQueue g (before ++ i :: after)).setSlot i z).setSeg g
      { afterFrame (s.seg g) o with retries := (s.seg g).retries + 1 } :=
    calc s.endFrame g o bytes
      _ = ((((s.setQueue g (before ++ i :: after)).setSeg g (afterFrame (s.seg g) o)).setSlot i y).setSlot i z).setSeg g
          { afterFrame (s.seg g) o with retries := (s.seg g).retries + 1 } := by rw [hstep, hz]; rfl
      _ = (((s.setQueue g (before ++ i :: after)).setSlot i z).setSeg g (afterFrame (s.seg g) o)).setSeg g
          { afterFrame (s.seg g) o with retries := (s.seg g).retries + 1 } := by rw [State.setSlot_setSlot]; rfl
      _ = _ := State.setSeg_setSeg ..
  have hphase := h.phase_ne_idle
  have hfollow : IdleTimersFollow (s.endFrame g o bytes) := by
    rw [hend]
    refine IdleTimersFollow.setSeg ((hi.setQueue hphase _).setSlot i z) ?_
    rw [Segment.idleTimerFor_of_not_idle (by nofun)]
    exact hi.of_not_idle hphase
  have hqueue : (s.endFrame g o bytes).queue g = before ++ i :: after := by
    rw [hend, State.queue_setSeg, State.queue_setSlot, State.queue_setQueue_self]
  refine ⟨s.endFrame g o bytes, before, after, ?_, hq, hqueue, fun j hj => ?_, fun j hj => ?_, ?_⟩
  · rw [h.exec_eq hl hf]
    exact settled_eq_of_follow rfl hfollow
  · exact (State.ordersBefore_iff s j i).1 (hbefore j hj) |>.imp_right fun h => ⟨h.1.symm, h.2⟩
  · exact (State.ordersBefore_iff s i j).1 (hafter j hj)
  · rw [hqueue, hend, hz, hy]
    rfl

end Sys2Proof.Machine
end

/-! ### Failover (R46, R52, R53) -/

section
namespace Sys2Proof.Machine

/-! #### Which legs fail over -/

theorem State.failoverTo_eq {s : State} {i : SlotId} {x : Exchange} {a b : Seg} (hx : (s.slot i).exchange = some x)
    (ht : x.target = .pair a b) (l : Leg) (o : LegOutcome) : s.failoverTo i l o =
      if l.path = some .primary ∧ (s.slot i).failoverUsed = false ∧ (s.slot i).abortPending = false ∧ (s.slot i).deadline ≠ .passed ∧
        o.permitsFailover = true ∧ (s.seg b).lineState.usable = true then some b else none := by
  obtain ⟨target, frameId, direction, confirmed, length, priority, timeoutClass, retryBudget⟩ := x
  cases ht
  unfold State.failoverTo
  dsimp only
  rw [hx]

/-- With an outcome that permits it, a leg of segment `g` fails over just where R52 lets it. -/
theorem LegsLegal.failoverTo_eq_some_iff {s : State} {i : SlotId} {x : Exchange} {l : Leg} {g b : Seg} {o : LegOutcome}
    (h : LegsLegal (s.slot i)) (hx : (s.slot i).exchange = some x) (hl : l ∈ (s.slot i).legs) (hg : l.segment = g)
    (ho : o.permitsFailover = true) : s.failoverTo i l o = some b ↔ MayFailOver s i x l g b := by
  constructor
  · intro hf
    obtain ⟨y, a, hy, ht, hp, hu, ha, hd, -, hb⟩ := State.failoverTo_eq_some hf
    cases hx.symm.trans hy
    obtain ⟨-, k, hk, hpath⟩ := h.pair x a b hx ht
    have hlk : l = k := by simpa [hk] using hl
    have hag : a = g := by
      rcases hpath with ⟨-, hs⟩ | ⟨hs, -⟩
      · rw [← hs, ← hlk, hg]
      · rw [← hlk, hp] at hs
        cases hs
    exact ⟨hag ▸ ht, hp, hu, ha, hd, (LineState.mem_usable_iff _).2 hb⟩
  · rintro ⟨ht, hp, hu, ha, hd, hb⟩
    rw [State.failoverTo_eq hx ht, if_pos ⟨hp, hu, ha, hd, ho, (LineState.mem_usable_iff _).1 hb⟩]

/-! #### The leg on the secondary -/

/-- The record of a PAIR exchange whose leg `l` has failed over to the secondary `b` (R52). -/
def Slot.failedOver (t : Slot) (x : Exchange) (l : Leg) (b : Seg) : Slot :=
  { t with
    failoverUsed := true
    legs := [{ l with segment := b, path := some .secondary, state := .waiting, retriesLeft := x.retryBudget }] }

theorem State.failover_eq {s : State} {i : SlotId} {x : Exchange} {l : Leg} {g : Seg} (hx : (s.slot i).exchange = some x)
    (hlegs : (s.slot i).legs = [l]) (hg : l.segment = g) (b : Seg) :
    s.failover i g b = (s.setSlot i ((s.slot i).failedOver x l b)).joinQueue i b := by
  have hbudget : (s.slot i).retryBudget = x.retryBudget := by rw [Slot.retryBudget, hx]
  rw [State.failover, State.modSlot_eq]
  simp only [Slot.mapLeg, hlegs, List.map_cons, List.map_nil, if_pos hg, hbudget]
  rfl

/-- A frame end whose leg fails over (R47 row 5). -/
theorem State.legFrameEnded_fails_over {s : State} {i : SlotId} {g b : Seg} {x : Exchange} {l : Leg} {o : LegOutcome}
    (hlegs : (s.slot i).legs = [l]) (hg : l.segment = g) (hw : l.state = .onWire) (hx : (s.slot i).exchange = some x)
    (hn : o.retryable = false ∨ l.retriesLeft = 0) (ho : o ≠ .ok) (hf : s.failoverTo i l o = some b) (bytes : List Byte) :
    s.legFrameEnded i g o bytes =
      (s.setSlot i ({ s.slot i with lastEnded := some g }.failedOver x l b)).joinQueue i b := by
  obtain ⟨-, -, -, -, -, -, ha, hd, -, -⟩ := State.failoverTo_eq_some hf
  rw [State.legFrameEnded_of_leg (Slot.legOn_of_single hlegs hg) hw, State.legDecision_failover hd ho ha hn hf, State.applyDecision,
    State.failover_eq (x := x) (l := l) (by rw [State.slot_setSlot_self]; exact hx) (by rw [State.slot_setSlot_self]; exact hlegs) hg,
    State.slot_setSlot_self, State.setSlot_setSlot]

theorem State.checkDone_of_unposted {s : State} {i : SlotId} {x : Exchange} {y : Slot} (hl : y.state = .live)
    (hx : y.exchange = some x) (hc : y.cq = none) (hf : ∀ l ∈ y.legs, l.state = .finished) :
    (s.setSlot i y).checkDone i = s.setSlot i Slot.empty := by
  rw [State.checkDone, State.slot_setSlot_self, hx]
  refine (if_pos ⟨hl, (Slot.legsFinished_iff y).2 hf⟩).trans ?_
  rw [State.completeSlot, if_pos (by rw [State.slot_setSlot_self]; exact .inr hl), State.modSlot_eq, State.slot_setSlot_self,
    State.postSlot, State.slot_setSlot_self]
  simp only [hc]
  rw [State.freeSlot, State.setSlot_setSlot, State.setSlot_setSlot]

/-- Settles O54. -/
theorem frameEndFailsOver : Obligations.FrameEndFailsOver := by
  intro s a b f cmd o bytes i x l hi hd hl hf h hc hlive hx ht hlegs hg hp hw ho hn ha hdl hu
  obtain ⟨hok, -, hpermits⟩ := LegOutcome.of_retried ho
  obtain ⟨hab, -⟩ := (hd.legs i).pair x a b hx ht
  have hphase := h.phase_ne_idle
  obtain ⟨u, hu'⟩ : ∃ u, u = s.setSeg a (afterFrame (s.seg a) o) := ⟨_, rfl⟩
  have hfollow : IdleTimersFollow u := hu' ▸ h.follows hi
  have hstep : exec cmd s = settled (u.legFrameEnded i a o bytes) := by
    rw [h.exec_eq hl hf, State.endFrame_of_exchange hf hc, hu']
  have hslot : u.slot i = s.slot i := by rw [hu']; rfl
  have hsegb : u.seg b = s.seg b := by rw [hu', State.seg_setSeg, if_neg hab]
  have hto : u.failoverTo i l o = if (s.seg b).lineState.usable = true then some b else none := by
    rw [State.failoverTo_eq (by rw [hslot]; exact hx) ht, hslot, hsegb]
    simp [hp, hu, ha, hdl, hpermits]
  rw [hstep]
  by_cases hb : (s.seg b).lineState ∈ ([.syncing, .active, .dormant, .waking] : List LineState)
  · rw [if_pos ((LineState.mem_usable_iff _).1 hb)] at hto
    rw [State.legFrameEnded_fails_over (by rw [hslot]; exact hlegs) hg hw (by rw [hslot]; exact hx) (.inr hn) hok hto, hslot]
    obtain ⟨v, hv⟩ : ∃ v, v = u.setSlot i ({ s.slot i with lastEnded := some a }.failedOver x l b) := ⟨_, rfl⟩
    have hvfollow : IdleTimersFollow v := hv ▸ hfollow.setSlot i _
    have hseg (k : Seg) : (v.joinQueue i b).refreshIdle.seg k = if k ∈ [b] then joinedRecord (v.seg k) else v.seg k :=
      State.seg_refreshIdle_joined hvfollow i (List.nodup_singleton b) k
    have hvseg (k : Seg) (hk : a ≠ k) : v.seg k = s.seg k := by rw [hv, hu', State.seg_setSlot, State.seg_setSeg, if_neg hk]
    have hvqueue (k : Seg) : v.queue k = s.queue k := by rw [hv, hu']; rfl
    rw [← hv]
    refine ⟨(v.joinQueue i b).refreshIdle, rfl, ?_, ?_⟩
    · rw [hseg, if_neg (by simpa using hab), hv, hu', State.seg_setSlot, State.seg_setSeg_self]
    · rw [if_pos hb]
      refine ⟨?_, fun j hj => ?_, fun k hk => ?_, fun k hka hkb => ?_, ?_, ?_, ?_⟩
      · rw [State.queue_refreshIdle, State.queue_joinQueue, if_pos rfl]
        exact (mem_insertOrdered _ i i _).2 (.inl rfl)
      · rw [State.queue_refreshIdle, State.queue_joinQueue, if_pos rfl, mem_insertOrdered, hvqueue]
        exact or_iff_right hj
      · rw [State.queue_refreshIdle, State.queue_joinQueue, if_neg (Ne.symm hk), hvqueue]
      · rw [hseg, if_neg (by simpa using hkb), hvseg k (Ne.symm hka)]
      · rw [hseg, if_pos (by simp), hvseg b hab]
        rfl
      · rw [hseg, if_pos (by simp), hvseg b hab]
        rfl
      · rw [State.joinQueue_eq, hv, hu']
        rfl
  · have hnone : u.failoverTo i l o = none := by rw [hto, if_neg fun h => hb ((LineState.mem_usable_iff _).2 h)]
    have hdecision : u.legDecision i l o = .finish o := State.legDecision_finish (by rw [hslot]; exact hdl) hok (.inr hn) hnone
    have hsega : u.seg a = afterFrame (s.seg a) o := by rw [hu', State.seg_setSeg_self]
    have hsegs (k : Seg) (hk : k ≠ a) : u.seg k = s.seg k := by rw [hu', State.seg_setSeg, if_neg (Ne.symm hk)]
    have hqueue (k : Seg) : u.queue k = s.queue k := by rw [hu']; rfl
    obtain ⟨y, hy⟩ : ∃ y, y = (s.slot i).frameEnded x a o bytes := ⟨_, rfl⟩
    have hylegs : y.legs = [{ l with state := .finished, outcome := some o }] := by
      simp [hy, Slot.frameEnded, Slot.legEndedOn, hlegs, hg, hdl]
    have hydone : ∀ k ∈ y.legs, k.state = .finished := by simp [hylegs]
    cases hcq : (s.slot i).cq with
    | some c =>
      have hend : u.legFrameEnded i a o bytes = u.answered i c (doneWith y (exchangeResult y x)) := by
        rw [State.legFrameEnded_finishes (c := c) (x := x) (by rw [hslot]; exact Slot.legOn_of_single hlegs hg) hw (by rw [hslot]; exact hlive)
          (by rw [hslot]; exact hx) (by rw [hslot]; exact hcq) (fun _ _ => hdecision), hslot, ← hy, State.concluded, if_pos hydone]
      have hresult : (exchangeResult y x).status = .outcome o ∧ (exchangeResult y x).failover = false := by
        rw [exchangeResult_of_leg y x _ o (by rw [ht]; nofun) hylegs rfl]
        exact ⟨rfl, by simp [hy, Slot.frameEnded, Slot.legEndedOn, hu]⟩
      refine ⟨u.answered i c (doneWith y (exchangeResult y x)), ?_, by rw [State.seg_answered, hsega], ?_⟩
      · rw [hend]
        exact settled_eq_of_follow rfl (hfollow.answered i c _)
      · rw [if_neg hb, State.slot_answered, if_pos rfl]
        refine ⟨?_, fun k => by rw [State.queue_answered, hqueue], fun k hk => by rw [State.seg_answered, hsegs k hk], ?_⟩
        · split <;> nofun
        · split
          · exact fun _ => ⟨by simp [doneWith, hy, Slot.frameEnded, Slot.legEndedOn, hu], _, rfl, hresult⟩
          · nofun
    | none =>
      have hend : u.legFrameEnded i a o bytes = u.setSlot i Slot.empty := by
        rw [State.legFrameEnded_of_leg (by rw [hslot]; exact Slot.legOn_of_single hlegs hg) hw, hdecision, State.applyDecision,
          State.finishLeg, State.modSlot_eq, State.slot_setSlot_self, hslot, State.checkDone_of_unposted (x := x) (by exact hlive)
          (by exact hx) (by exact hcq) (by simp [Slot.mapLeg, hlegs, hg, Leg.finish]), State.setSlot_setSlot]
      refine ⟨u.setSlot i Slot.empty, ?_, by rw [State.seg_setSlot, hsega], ?_⟩
      · rw [hend]
        exact settled_eq_of_follow rfl (hfollow.setSlot i _)
      · rw [if_neg hb, State.slot_setSlot_self]
        exact ⟨nofun, fun k => by rw [State.queue_setSlot, hqueue], fun k hk => by rw [State.seg_setSlot, hsegs k hk], nofun⟩

end Sys2Proof.Machine
end

/-! ### The WAITING legs of an exchange finish (R16, R18, R41, R105, R117) -/

section
namespace Sys2Proof.Machine

/-! #### Legs leave their queues -/

/-- Slot `i` out of the queues of the listed segments (R41). -/
def State.leaveQueues (s : State) (i : SlotId) (gs : List Seg) : State := gs.foldl (fun s g => s.leaveQueue i g) s

theorem State.leaveQueues_eq (i : SlotId) (gs : List Seg) (s : State) :
    s.leaveQueues i gs = { s with queues := (s.leaveQueues i gs).queues } := by
  induction gs generalizing s with
  | nil => rfl
  | cons g gs ih => exact ih (s.leaveQueue i g)

theorem State.setSlot_leaveQueues (i j : SlotId) (y : Slot) (gs : List Seg) (s : State) :
    (s.setSlot j y).leaveQueues i gs = (s.leaveQueues i gs).setSlot j y := by
  induction gs generalizing s with
  | nil => rfl
  | cons g gs ih => exact ih (s.leaveQueue i g)

theorem State.queue_leaveQueues (i : SlotId) (gs : List Seg) (s : State) (k : Seg) :
    (s.leaveQueues i gs).queue k = if k ∈ gs then (s.queue k).filter (fun j => decide (j ≠ i)) else s.queue k := by
  induction gs generalizing s with
  | nil => rfl
  | cons g gs ih =>
    rw [State.leaveQueues, List.foldl_cons, ← State.leaveQueues, ih (s.leaveQueue i g), State.leaveQueue, State.queue_setQueue]
    by_cases hk : g = k
    · subst hk
      simp [List.filter_filter]
    · rw [if_neg hk]
      simp only [List.mem_cons, Ne.symm hk, false_or]

/-! #### The slot's record -/

theorem Slot.waitingOn_legEndedOn (y : Slot) (g : Seg) (o : LegOutcome) :
    (y.legEndedOn g o).waitingOn = y.waitingOn.filter fun k => decide (k ≠ g) := by
  unfold Slot.waitingOn Slot.legEndedOn
  dsimp only
  induction y.legs with
  | nil => rfl
  | cons l legs ih =>
    by_cases hg : l.segment = g
    · by_cases hw : l.state = .waiting <;> simp_all
    · by_cases hw : l.state = .waiting <;> simp_all

theorem Slot.waitingEnded_of_none {y : Slot} (h : y.waitingOn = []) (o : LegOutcome) : y.waitingEnded o = y := by
  have hlegs : (y.legs.map fun l => if l.state = .waiting then { l with state := .finished, outcome := some o } else l) = y.legs := by
    refine (List.map_congr_left fun l hl => if_neg fun hw => ?_).trans (List.map_id _)
    have hm : l.segment ∈ y.waitingOn := (Slot.mem_waitingOn y _).2 ⟨l, hl, rfl, hw⟩
    rw [h] at hm
    exact List.not_mem_nil hm
  rw [Slot.waitingEnded, hlegs]

theorem Slot.waitingOn_nodup {y : Slot} (hd : y.legs.Pairwise fun l m => l.segment ≠ m.segment) : y.waitingOn.Nodup :=
  List.pairwise_map.2 (hd.filter _)

/-- A leg that has finished with the outcome is among those that finish with it. -/
theorem Slot.waitingEnded_legEndedOn {y : Slot} (hd : y.legs.Pairwise fun l m => l.segment ≠ m.segment) {g : Seg} (hg : g ∈ y.waitingOn)
    (o : LegOutcome) : (y.legEndedOn g o).waitingEnded o = y.waitingEnded o := by
  obtain ⟨m, hm, hmg, hmw⟩ := (Slot.mem_waitingOn y g).1 hg
  unfold Slot.waitingEnded Slot.legEndedOn
  dsimp only
  rw [List.map_map]
  congr 1
  refine List.map_congr_left fun l hl => ?_
  by_cases hlg : l.segment = g
  · have hlm : l = m := by
      by_contra hne
      have : Std.Symm fun l m : Leg => l.segment ≠ m.segment := ⟨fun _ _ h => h.symm⟩
      exact hd.forall hl hm hne (hlg.trans hmg.symm)
    simp [hlm, hmg, hmw]
  · simp [hlg]

theorem Slot.legEndedOn_distinct {y : Slot} (hd : y.legs.Pairwise fun l m => l.segment ≠ m.segment) (g : Seg) (o : LegOutcome) :
    (y.legEndedOn g o).legs.Pairwise fun l m => l.segment ≠ m.segment := by
  refine List.pairwise_map.2 (hd.imp fun {l m} h => ?_)
  have hseg (l : Leg) : (if l.segment = g then { l with state := .finished, outcome := some o } else l).segment = l.segment := by
    split <;> rfl
  rw [hseg, hseg]
  exact h

/-! #### All of them finish -/

theorem State.checkDone_of_not_live {s : State} {i : SlotId} (h : (s.slot i).state ≠ .live) : s.checkDone i = s := by
  unfold State.checkDone
  split
  · rfl
  · exact if_neg fun hc => h hc.1

section
variable {i : SlotId} {c : Cq} {x : Exchange} (o : LegOutcome)

theorem State.foldl_finishWaiting (gs : List Seg) {u : State} (hgs : (u.slot i).waitingOn = gs)
    (hd : (u.slot i).legs.Pairwise fun l m => l.segment ≠ m.segment) (hl : (u.slot i).state = .live)
    (hx : (u.slot i).exchange = some x) (hc : (u.slot i).cq = some c) :
    (gs.foldl (fun s g => s.finishWaiting i g o) u).checkDone i =
      (u.leaveQueues i gs).concluded i c x ((u.slot i).waitingEnded o) := by
  induction gs generalizing u with
  | nil =>
    have h := State.checkDone_eq (s := u) (i := i) (y := u.slot i) hl hx hc
    rw [State.setSlot_self] at h
    rw [Slot.waitingEnded_of_none hgs]
    exact h
  | cons g gs ih =>
    obtain ⟨y, hy⟩ : ∃ y, y = (u.slot i).legEndedOn g o := ⟨_, rfl⟩
    have hnodup : (g :: gs).Nodup := hgs ▸ Slot.waitingOn_nodup hd
    have hrest : y.waitingOn = gs := by
      rw [hy, Slot.waitingOn_legEndedOn, hgs, List.filter_cons_of_neg (by simp)]
      exact List.filter_eq_self.2 fun k hk => decide_eq_true fun e => (List.nodup_cons.1 hnodup).1 (e ▸ hk)
    have hended : y.waitingEnded o = (u.slot i).waitingEnded o := by
      rw [hy, Slot.waitingEnded_legEndedOn hd (by rw [hgs]; exact List.mem_cons_self ..)]
    have hfirst : u.finishWaiting i g o = (u.leaveQueue i g).concluded i c x y := by
      rw [State.finishWaiting, State.finishLeg_eq (c := c) (x := x) (by exact hl) (by exact hx) (by exact hc), hy]
      rfl
    rw [List.foldl_cons, hfirst, ← hended, State.leaveQueues, List.foldl_cons, ← State.leaveQueues]
    by_cases hf : ∀ l ∈ y.legs, l.state = .finished
    · have hnone : gs = [] := by
        rw [← hrest, List.eq_nil_iff_forall_not_mem]
        intro k hk
        obtain ⟨l, hlm, -, hw⟩ := (Slot.mem_waitingOn y k).1 hk
        rw [hf l hlm] at hw
        cases hw
      subst hnone
      rw [Slot.waitingEnded_of_none hrest]
      refine State.checkDone_of_not_live ?_
      rw [List.foldl_nil, State.slot_concluded, State.legsEnded, if_pos hf, State.posted]
      split <;> nofun
    · have hopen : (u.leaveQueue i g).concluded i c x y = (u.leaveQueue i g).setSlot i y := if_neg hf
      have hnext := ih (u := (u.leaveQueue i g).setSlot i y) (by rw [State.slot_setSlot_self]; exact hrest)
        (by rw [State.slot_setSlot_self, hy]; exact Slot.legEndedOn_distinct hd g o) (by rw [State.slot_setSlot_self, hy]; exact hl)
        (by rw [State.slot_setSlot_self, hy]; exact hx) (by rw [State.slot_setSlot_self, hy]; exact hc)
      rw [hopen, hnext, State.slot_setSlot_self, State.setSlot_leaveQueues, State.setSlot_concluded]

/-- The WAITING legs of an exchange leave their queues and finish, and the last leg to finish ends the exchange. -/
theorem State.finishWaitingLegs_eq {s : State} (hd : (s.slot i).legs.Pairwise fun l m => l.segment ≠ m.segment)
    (hl : (s.slot i).state = .live) (hx : (s.slot i).exchange = some x) (hc : (s.slot i).cq = some c) : s.finishWaitingLegs i o =
      (s.leaveQueues i (s.slot i).waitingOn).concluded i c x ((s.slot i).waitingEnded o) :=
  State.foldl_finishWaiting o _ rfl hd hl hx hc

end

/-! #### The queues beside an answer -/

section
variable (s : State) (i : SlotId) (c : Cq) (q : Vector (List SlotId) 8)

theorem State.answered_queues (y : Slot) : { s with queues := q }.answered i c y = { s.answered i c y with queues := q } := by
  by_cases h : (s.cq c).state = .active
  · rw [State.answered_pos h, State.answered_pos (s := { s with queues := q }) h]
    rfl
  · rw [State.answered_neg h, State.answered_neg (s := { s with queues := q }) h]
    rfl

theorem State.concluded_queues (x : Exchange) (y : Slot) :
    { s with queues := q }.concluded i c x y = { s.concluded i c x y with queues := q } := by
  unfold State.concluded
  split
  · exact s.answered_queues i c q _
  · rfl

end

theorem State.queue_concluded (s : State) (i : SlotId) (c : Cq) (x : Exchange) (y : Slot) (g : Seg) :
    (s.concluded i c x y).queue g = s.queue g := by
  unfold State.concluded
  split
  · rw [State.queue_answered]
  · rw [State.queue_setSlot]

theorem State.seg_concluded (s : State) (i : SlotId) (c : Cq) (x : Exchange) (y : Slot) (g : Seg) :
    (s.concluded i c x y).seg g = s.seg g := by
  unfold State.concluded
  split
  · rw [State.seg_answered]
  · rw [State.seg_setSlot]

theorem legWaits_iff_mem_waitingOn {s : State} {g : Seg} {i : SlotId} (h : (s.slot i).state = .live) :
    LegWaits s g i ↔ g ∈ (s.slot i).waitingOn := by
  rw [Slot.mem_waitingOn]
  exact and_iff_right h

/-- Settles O42. -/
theorem deadlineExpiryFinishesWaitingLegs : Obligations.DeadlineExpiryFinishesWaitingLegs := by
  intro s i x ms us c hlegal hi hl hx hd ht hc legs y
  obtain ⟨z, hz⟩ : ∃ z : Slot, z = { s.slot i with deadline := .passed, deadlineTimer := .stopped } := ⟨_, rfl⟩
  have hruns : (s.slot i).deadlineRuns = true := by simp [Slot.deadlineRuns, hl, hd, ht]
  have hon : z.waitingOn = (s.slot i).waitingOn := by rw [hz]; rfl
  have hy : z.waitingEnded .expired = y := by rw [hz]; rfl
  obtain ⟨v, hv⟩ : ∃ v, v = s.leaveQueues i (s.slot i).waitingOn := ⟨_, rfl⟩
  have hexec : exec (.deadlineExpiry i) s = settled (v.concluded i c x y) := by
    change execDeadlineExpiry i s = _
    rw [execDeadlineExpiry, if_pos hruns, State.modSlot_eq, ← hz, State.finishWaitingLegs_eq (c := c) (x := x) (o := .expired)
      (by rw [State.slot_setSlot_self, hz]; exact hlegal.distinct) (by rw [State.slot_setSlot_self, hz]; exact hl)
      (by rw [State.slot_setSlot_self, hz]; exact hx) (by rw [State.slot_setSlot_self, hz]; exact hc), State.slot_setSlot_self, hon, hy,
      State.setSlot_leaveQueues, State.setSlot_concluded, hv]
  have hqueue (g : Seg) : (v.concluded i c x y).refreshIdle.queue g =
      if g ∈ (s.slot i).waitingOn then (s.queue g).filter (fun j => decide (j ≠ i)) else s.queue g := by
    rw [State.queue_refreshIdle, State.queue_concluded, hv, State.queue_leaveQueues]
  refine ⟨(v.concluded i c x y).refreshIdle, hexec, State.refreshIdle_follows _, fun g hg => ?_, fun g hg => ?_, fun g => ?_, ?_⟩
  · rw [hqueue, if_pos ((legWaits_iff_mem_waitingOn hl).1 hg)]
  · rw [hqueue, if_neg ((legWaits_iff_mem_waitingOn hl).not.1 hg)]
  · rw [State.seg_refreshIdle, State.seg_concluded, hv, State.leaveQueues_eq]
    rfl
  · have hqueues : v.concluded i c x y = { s.concluded i c x y with queues := v.queues } := by
      rw [← State.concluded_queues, hv, ← State.leaveQueues_eq]
    rw [hqueues]
    rfl

end Sys2Proof.Machine
end

/-! ### ABORT (R104, R105) -/

section
namespace Sys2Proof.Machine

/-! #### The slots of an acceptance step -/

/-- The state in which the block of an arrived request runs: its slot carries the arguments (R8, R13). -/
def State.accepting (s : State) (f : Fetch) (cfg : RingConfig) (record : Record) (granted : Bool) (args : OpArgs) : State :=
  (s.consumed f cfg.size granted).setSlot f.slot { arrivedSlot s f cfg record with args := some args }

section
variable {s : State} {f : Fetch} {cfg : RingConfig} (h : Arriving s f cfg) (record : Record) (granted : Bool) (args : OpArgs)

omit h in
theorem State.slot_accepting {j : SlotId} (hj : (s.slot j).state ≠ .free) (hne : j ≠ f.slot) :
    (s.accepting f cfg record granted args).slot j = s.slot j := by
  rw [State.accepting, State.slot_setSlot, if_neg (Ne.symm hne), State.slot_consumed s f _ granted hj]

include h

theorem Arriving.ne_of_state {j : SlotId} (hj : (s.slot j).state ≠ .fetching) : j ≠ f.slot := by
  rintro rfl
  exact hj (by rw [h.reserved])

omit h in
/-- A slot that is neither FREE nor FETCHING then was so before, in every field. -/
theorem State.slot_accepting_of_state {j : SlotId} (hfree : ((s.accepting f cfg record granted args).slot j).state ≠ .free)
    (hfetch : ((s.accepting f cfg record granted args).slot j).state ≠ .fetching) :
    j ≠ f.slot ∧ (s.accepting f cfg record granted args).slot j = s.slot j := by
  have hne : j ≠ f.slot := by
    rintro rfl
    exact hfetch (by rw [State.accepting, State.slot_setSlot_self]; rfl)
  refine ⟨hne, ?_⟩
  rw [State.accepting, State.slot_setSlot, if_neg (Ne.symm hne)] at hfetch ⊢
  rw [State.consumed] at hfetch ⊢
  rcases State.slot_grantIf _ granted j with e | e
  · rw [e]; rfl
  · obtain ⟨-, r, e⟩ := e
    exact absurd (by rw [e]) hfetch

omit h in
/-- An arrived record whose block answers its own slot (R22). -/
theorem State.answer_arrivedSlot (w s : State) (f : Fetch) (cfg : RingConfig) (record : Record) (args : Option OpArgs) (status : Status) :
    (w.setSlot f.slot { arrivedSlot s f cfg record with args := args }).answer f.slot status =
      w.answered f.slot (answerRing f cfg) (doneWith { arrivedSlot s f cfg record with args := args } (plainResult status 0 zeroArea)) := by
  rw [State.answer_eq (c := answerRing f cfg) status (by simp [arrivedSlot, Slot.empty]) (by simp [arrivedSlot])
    (by simp [arrivedSlot]), State.slot_setSlot_self, State.setSlot_answered]

end

/-! #### The oldest target -/

theorem head?_sortOrdered {α : Type} {before : α → α → Bool} {x : α} {l : List α} (hx : x ∈ l)
    (hmin : ∀ y ∈ l, y = x ∨ before x y = true ∧ before y x = false) : (sortOrdered before l).head? = some x := by
  induction l with
  | nil => cases hx
  | cons y l ih =>
    have hrest : ∀ z ∈ l, z = x ∨ before x z = true ∧ before z x = false := fun z hz => hmin z (List.mem_cons_of_mem _ hz)
    have hperm := sortOrdered_perm before l
    rw [sortOrdered]
    by_cases hyx : y = x
    · subst hyx
      cases hs : sortOrdered before l with
      | nil => rfl
      | cons z zs =>
        have hz : z ∈ l := hperm.mem_iff.1 (by rw [hs]; exact List.mem_cons_self ..)
        unfold insertOrdered
        rcases hrest z hz with rfl | ⟨hb, -⟩
        · split <;> rfl
        · rw [if_pos hb]
          rfl
    · have hxl : x ∈ l := (List.mem_cons.1 hx).resolve_left (Ne.symm hyx)
      have hhead := ih hxl hrest
      cases hs : sortOrdered before l with
      | nil => rw [hs] at hhead; cases hhead
      | cons z zs =>
        rw [hs] at hhead
        cases hhead
        unfold insertOrdered
        rw [if_neg (by rw [((hmin y (List.mem_cons_self ..)).resolve_left hyx).2]; nofun)]
        rfl

theorem State.head?_slotsInOrder {s : State} {p : Slot → Bool} {j : SlotId} (hj : p (s.slot j) = true)
    (hmin : ∀ i, p (s.slot i) = true → i = j ∨ s.arrivalOf j < s.arrivalOf i) : (s.slotsInOrder p).head? = some j := by
  refine head?_sortOrdered (by simpa using hj) fun i hi => ?_
  refine (hmin i (by simpa using hi)).imp_right fun hlt => ?_
  exact ⟨decide_eq_true hlt, decide_eq_false (by omega)⟩

theorem Slot.abortMatches_iff (t : Slot) (st : SlotState) (r : Ring) (tag : Half) : t.abortMatches st r tag = true ↔
    t.state = st ∧ t.ring = some r ∧ (t.kind = some .read ∨ t.kind = some .write) ∧ t.tag = some tag := by
  simp [Slot.abortMatches, and_assoc]

theorem State.setSlot_comm (s : State) {i j : SlotId} (h : i ≠ j) (x y : Slot) :
    (s.setSlot i x).setSlot j y = (s.setSlot j y).setSlot i x := by
  unfold State.setSlot
  dsimp only
  rw [Vector.set_comm _ _ fun e => h (Fin.ext e)]

theorem State.answered_setSlot (s : State) {i j : SlotId} (h : i ≠ j) (c : Cq) (x y : Slot) :
    (s.setSlot j y).answered i c x = (s.answered i c x).setSlot j y := by
  by_cases hc : (s.cq c).state = .active
  · rw [State.answered_pos hc, State.answered_pos (s := s.setSlot j y) hc, State.setSlot_comm s (Ne.symm h)]
    rfl
  · rw [State.answered_neg hc, State.answered_neg (s := s.setSlot j y) hc, State.setSlot_comm s (Ne.symm h)]

theorem State.concluded_setSlot (s : State) {i j : SlotId} (h : i ≠ j) (c : Cq) (x : Exchange) (y z : Slot) :
    (s.setSlot j z).concluded i c x y = (s.concluded i c x y).setSlot j z := by
  unfold State.concluded
  split
  · exact State.answered_setSlot s h c _ z
  · exact State.setSlot_comm s (Ne.symm h) z y

section
variable {s : State} {f : Fetch} {cfg : RingConfig} {record : Record} {granted : Bool} {tag : Half} (h : Arriving s f cfg)
  (hi : IdleTimersFollow s) (hr : f.ring ≠ 0) (hk : kindOf record = some .abort) (hz : record[7] = 0)
  (ha : argsOf .abort record = some (.abort tag))
include h

/-- What an ABORT can name is what it could name before its arrival. -/
theorem Arriving.abortMatches_accepting {st : SlotState} (hst : st = .live ∨ st = .done) (j : SlotId) :
    ((s.accepting f cfg record granted (.abort tag)).slot j).abortMatches st f.ring tag = true ↔
      (s.slot j).state = st ∧ (s.slot j).ring = some f.ring ∧ ((s.slot j).kind = some .read ∨ (s.slot j).kind = some .write) ∧
        (s.slot j).tag = some tag := by
  rw [Slot.abortMatches_iff]
  constructor
  · intro hm
    have hne : ((s.accepting f cfg record granted (.abort tag)).slot j).state ≠ .free ∧
        ((s.accepting f cfg record granted (.abort tag)).slot j).state ≠ .fetching := by
      rw [hm.1]
      rcases hst with rfl | rfl <;> exact ⟨nofun, nofun⟩
    rwa [(State.slot_accepting_of_state record granted _ hne.1 hne.2).2] at hm
  · intro hm
    have hne : (s.slot j).state ≠ .free ∧ (s.slot j).state ≠ .fetching := by
      rw [hm.1]
      rcases hst with rfl | rfl <;> exact ⟨nofun, nofun⟩
    rwa [State.slot_accepting record granted _ hne.1 (h.ne_of_state hne.2)]

include hr hk hz ha

theorem Arriving.exec_abort : exec (.fetchComplete ⟨record, granted⟩) s =
    settled ((s.accepting f cfg record granted (.abort tag)).takeAbort f.slot f.ring tag) :=
  h.exec_eq_takeOperation granted hk (by simp [hr, Kind.allowedOn]) hz ha

end

theorem State.takeAbort_of_target {s : State} {i j : SlotId} {r : Ring} {tag : Half} (h : s.abortTarget r tag = some j) :
    s.takeAbort i r tag = (s.abortSlot j).answer i (if (s.slot j).waitingOn = [] then .tooLate else .outcome .ok) := by
  rw [State.takeAbort, h]
  cases hw : (s.slot j).waitingOn <;> simp [hw]

theorem State.takeAbort_of_none {s : State} {i : SlotId} {r : Ring} {tag : Half} (h : s.abortTarget r tag = none) :
    s.takeAbort i r tag =
      s.answer i (if ∃ j, (s.slot j).abortMatches .done r tag = true then .tooLate else .notFound) := by
  rw [State.takeAbort, h]
  by_cases hd : ∃ j, (s.slot j).abortMatches .done r tag = true
  · rw [if_pos hd]
    exact if_pos (by simpa using hd)
  · rw [if_neg hd]
    exact if_neg (by simpa using hd)

/-- A slot with no leg left WAITING and one on the wire is left as it is. -/
theorem State.finishWaitingLegs_of_none {s : State} {i : SlotId} (hw : (s.slot i).waitingOn = []) (hf : (s.slot i).legsFinished = false)
    (o : LegOutcome) : s.finishWaitingLegs i o = s := by
  rw [State.finishWaitingLegs, hw, List.foldl_nil, State.checkDone]
  split
  · rfl
  · exact if_neg fun hc => by rw [hf] at hc; exact absurd hc.2 nofun

/-- Settles O34. -/
theorem abortWithoutWaitingLegs : Obligations.AbortWithoutWaitingLegs := by
  refine ⟨?_, ?_⟩
  · intro s f cfg record granted tag h hi hr hk hz ha x carries
    obtain ⟨v, hv⟩ : ∃ v, v = s.accepting f cfg record granted (.abort tag) := ⟨_, rfl⟩
    have hmatch {st : SlotState} (hst : st = .live ∨ st = .done) (j : SlotId) :
        (v.slot j).abortMatches st f.ring tag = true ↔ carries st j := by
      rw [hv]
      exact h.abortMatches_accepting hst j
    rw [h.exec_abort hr hk hz ha, ← hv]
    refine ⟨fun hnone => ?_, fun j l hj honly hlegs hw => ?_⟩
    · have htarget : v.abortTarget f.ring tag = none := by
        rw [State.abortTarget, List.head?_eq_none_iff, List.eq_nil_iff_forall_not_mem]
        exact fun j hj => hnone j ((hmatch (.inl rfl) j).1 ((mem_slotsInOrder _ _ _).1 hj))
      have hstatus : (if ∃ j, (v.slot j).abortMatches .done f.ring tag = true then Status.tooLate else .notFound) =
          if ∃ i, carries .done i then .tooLate else .notFound :=
        if_congr (exists_congr fun j => hmatch (.inr rfl) j) rfl rfl
      rw [State.takeAbort_of_none htarget, hstatus, hv]
      exact settled_answer_arrivedSlot (hi.consumed f cfg.size granted) s f cfg record _ _
    · have htarget : v.abortTarget f.ring tag = some j :=
        State.head?_slotsInOrder ((hmatch (.inl rfl) j).2 hj) fun i hi => .inl (honly i ((hmatch (.inl rfl) i).1 hi))
      have hne : j ≠ f.slot := h.ne_of_state (by rw [hj.1]; nofun)
      have hslot : v.slot j = s.slot j := by rw [hv, State.slot_accepting record granted _ (by rw [hj.1]; nofun) hne]
      have hon : (s.slot j).waitingOn = [] := by simp [Slot.waitingOn, hlegs, hw]
      have hopen : (s.slot j).legsFinished = false := by simp [Slot.legsFinished, hlegs, hw]
      rw [State.takeAbort_of_target htarget, hslot, if_pos hon, State.abortSlot, State.modSlot_eq, hslot,
        State.finishWaitingLegs_of_none (by rw [State.slot_setSlot_self]; exact hon) (by rw [State.slot_setSlot_self]; exact hopen), hv,
        State.accepting, State.setSlot_comm _ (Ne.symm hne)]
      exact settled_answer_arrivedSlot ((hi.consumed f cfg.size granted).setSlot j _) s f cfg record _ _
  · intro s f cfg record granted tag j e c h hi hr hk hz ha carries hj hfirst hlegal hx hc u x y removed
    obtain ⟨v, hv⟩ : ∃ v, v = s.accepting f cfg record granted (.abort tag) := ⟨_, rfl⟩
    have hmatch (i : SlotId) : (v.slot i).abortMatches .live f.ring tag = true ↔ carries i := by
      rw [hv]
      exact h.abortMatches_accepting (.inl rfl) i
    have hne : j ≠ f.slot := h.ne_of_state (by rw [hj.1]; nofun)
    have hslot (i : SlotId) (hc : carries i) : v.slot i = s.slot i := by
      rw [hv, State.slot_accepting record granted _ (by rw [hc.1]; nofun) (h.ne_of_state (by rw [hc.1]; nofun))]
    have htarget : v.abortTarget f.ring tag = some j :=
      State.head?_slotsInOrder ((hmatch j).2 hj) fun i hi => (hfirst i ((hmatch i).1 hi)).imp_right fun hlt => by
        rwa [State.arrivalOf, State.arrivalOf, hslot j hj, hslot i ((hmatch i).1 hi)]
    obtain ⟨gs, hgs⟩ : ∃ gs, gs = (s.slot j).waitingOn := ⟨_, rfl⟩
    obtain ⟨w, hw⟩ : ∃ w, w = (u.leaveQueues j gs).concluded j c e y := ⟨_, rfl⟩
    have habort : v.abortSlot j = w.setSlot f.slot x := by
      rw [State.abortSlot, State.modSlot_eq, hslot j hj, State.finishWaitingLegs_eq (o := .aborted) (c := c) (x := e)
        (by rw [State.slot_setSlot_self]; exact hlegal.distinct) (by rw [State.slot_setSlot_self]; exact hj.1)
        (by rw [State.slot_setSlot_self]; exact hx) (by rw [State.slot_setSlot_self]; exact hc), State.slot_setSlot_self,
        State.setSlot_leaveQueues, State.setSlot_concluded, hv, State.accepting, State.setSlot_leaveQueues,
        State.concluded_setSlot _ hne, hw, hgs]
      rfl
    have hstatus : (if (v.slot j).waitingOn = [] then Status.tooLate else .outcome .ok) = if removed then .outcome .ok else .tooLate := by
      have hremoved : (s.slot j).waitingOn = [] ↔ ¬ removed := by
        simp [Slot.waitingOn, removed]
      rw [hslot j hj]
      by_cases hrem : removed
      · rw [if_pos hrem, if_neg (by rw [hremoved]; exact not_not.2 hrem)]
      · rw [if_neg hrem, if_pos (hremoved.2 hrem)]
    obtain ⟨z, hz'⟩ : ∃ z, z = doneWith x (plainResult (if removed then .outcome .ok else .tooLate) 0 zeroArea) := ⟨_, rfl⟩
    have hexec : exec (.fetchComplete ⟨record, granted⟩) s = settled (w.answered f.slot (answerRing f cfg) z) := by
      rw [h.exec_abort hr hk hz ha, ← hv, State.takeAbort_of_target htarget, habort, hstatus, State.answer_arrivedSlot, hz']
    have hqueue (g : Seg) : (w.answered f.slot (answerRing f cfg) z).refreshIdle.queue g =
        if g ∈ gs then (s.queue g).filter (fun i => decide (i ≠ j)) else s.queue g := by
      rw [State.queue_refreshIdle, State.queue_answered, hw, State.queue_concluded, State.queue_leaveQueues, State.queue_consumed]
    refine ⟨(w.answered f.slot (answerRing f cfg) z).refreshIdle, hexec, State.refreshIdle_follows _, fun g hg => ?_, fun g hg => ?_,
      fun g => ?_, ?_⟩
    · rw [hqueue, hgs, if_pos ((legWaits_iff_mem_waitingOn hj.1).1 hg)]
    · rw [hqueue, hgs, if_neg ((legWaits_iff_mem_waitingOn hj.1).not.1 hg)]
    · have hseg : w.seg g = s.seg g := by
        rw [hw, State.seg_concluded, State.leaveQueues_eq, ← State.seg_consumed s f cfg.size granted g]
        rfl
      rw [State.seg_refreshIdle, State.seg_answered, hseg]
    · have hqueues : w = { u.concluded j c e y with queues := w.queues } := by
        have hleft : w = { u with queues := (u.leaveQueues j gs).queues }.concluded j c e y := by rw [hw, ← State.leaveQueues_eq]
        rw [hleft, State.concluded_queues]
      have hanswer : w.answered f.slot (answerRing f cfg) z =
          { (u.concluded j c e y).answered f.slot (answerRing f cfg) z with queues := w.queues } := by
        rw [← State.answered_queues, ← hqueues]
      rw [hanswer, ← hz']
      rfl

end Sys2Proof.Machine
end

/-! ### A HOLD slot that carries an exchange: its holds outlive the loss of a segment (R110)

`HoldLost` asks that each LIVE HOLD that names the lost segment gives up its own set. The legality of the queues and legs does not
keep an exchange out of a HOLD's slot; the leg of such a slot that waits on the lost segment is displaced before the hold is lost, the
slot goes DONE with it, and the hold of another segment in its own set stays. -/

section
namespace Sys2Proof.Machine

/-- A LIVE HOLD of ring 1 that names segment 3 and has segment 2 in its own set, and carries an exchange with a leg WAITING on
segment 3. -/
def oddHold : Slot := { Slot.empty with
  state := .live, ring := some 1, arrival := some 1, cq := some 0, kind := some .hold
  exchange := some {
    target := .single 3, frameId := 1, direction := .dirIn, confirmed := false, length := 1, priority := 0, timeoutClass := 0
    retryBudget := 0 }
  legs := [waitingLeg 3 none 0], args := some (.hold 8), progress := some (.hold { own := 4, granted := 0 }) }

/-- That slot in its place, segment 2 HELD by its ring, and segment 3 in the record `x`. -/
def oddState (x : Segment) : State :=
  (((({ State.reset with lastArrival := 2 }).setSlot 5 oddHold).setQueue 3 [5]).setSeg 2 { Segment.cold with hold := .held 1 100 }).setSeg
    3 x

/-- The hold of a segment after a step. -/
def holdAfter (o : Host.Outcome State Fault Refusal) (g : Seg) : Option Hold :=
  match o with
  | .next t => some (t.seg g).hold
  | _ => none

theorem holdAfter_next (t : State) (g : Seg) : holdAfter (.next t) g = some (t.seg g).hold := rfl

theorem oddHold_legsLegal : LegsLegal oddHold where
  noExchange := nofun
  distinct := List.pairwise_singleton _ _
  pair := by
    intro x a b hx ht
    cases hx
    cases ht
  noPath := by
    intro x hx ht l hl
    cases List.mem_singleton.1 hl
    rfl
  ended := fun h => absurd rfl h

theorem legsLegal_of_none {t : Slot} (hlegs : t.legs = []) (hx : t.exchange = none) : LegsLegal t where
  noExchange := fun _ => hlegs
  distinct := hlegs ▸ .nil
  pair := fun _ _ _ hy => by cases hx.symm.trans hy
  noPath := fun _ hy => by cases hx.symm.trans hy
  ended := fun _ l hl => by rw [hlegs] at hl; cases hl

/-- Queues and legs agree where the odd slot alone has a leg, and one more slot at most is LIVE. -/
theorem dispatchLegal_of_oddHold {s : State} (hq : s.queues = (State.reset.queues).set 3 [5]) (hmap : s.map = State.reset.map)
    (hlast : 2 ≤ s.lastArrival) (hodd : s.slot 5 = oddHold)
    (hother : ∀ i, i ≠ 5 → (s.slot i).legs = [] ∧ (s.slot i).exchange = none ∧
      ((s.slot i).state = .live → i = 6 ∧ (s.slot i).arrival = some 2)) : DispatchLegal s := by
  have hqueue (g : Seg) : s.queue g = if g = 3 then [5] else [] := by
    rw [State.queue, hq]
    revert g
    decide
  have hwaits (g : Seg) (i : SlotId) : LegWaits s g i ↔ g = 3 ∧ i = 5 := by
    by_cases hi : i = 5
    · subst hi
      rw [LegWaits, hodd]
      simp [oddHold, waitingLeg, eq_comm]
    · rw [LegWaits, (hother i hi).1]
      simp [hi]
  have harrived (i : SlotId) (hi : (s.slot i).state = .live) : (s.slot i).arrival = some (if i = 5 then 1 else 2) := by
    by_cases h5 : i = 5
    · rw [if_pos h5, h5, hodd]
      rfl
    · rw [if_neg h5, ((hother i h5).2.2 hi).2]
  refine ⟨fun g i => ?_, fun g => ?_, fun i => ?_, fun i hi => ⟨_, harrived i hi, ?_⟩, fun i j hi hj e => ?_, fun e he => ?_⟩
  · rw [hwaits, hqueue]
    by_cases hg : g = 3 <;> simp [hg]
  · rw [hqueue]
    split
    · exact List.pairwise_singleton _ _
    · exact .nil
  · by_cases hi : i = 5
    · rw [hi, hodd]
      exact oddHold_legsLegal
    · obtain ⟨hlegs, hx, -⟩ := hother i hi
      exact legsLegal_of_none hlegs hx
  · split <;> omega
  · rw [harrived i hi, harrived j hj] at e
    by_cases h5 : i = 5 <;> by_cases h5' : j = 5
    · rw [h5, h5']
    · simp [h5, h5'] at e
    · simp [h5, h5'] at e
    · rw [((hother i h5).2.2 hi).1, ((hother j h5').2.2 hj).1]
  · rw [hmap] at he ⊢
    revert e
    decide

/-- The odd slot ends with the loss of segment 3, but the hold of segment 2 stays. -/
theorem not_holdLost_of_oddHold {s t : State} {why : HoldLoss} (hodd : s.slot 5 = oddHold) (hheld : (s.seg 2).hold = .held 1 100)
    (hafter : (t.seg 2).hold = .held 1 100) (hwhy : why ≠ .expired) : ¬ HoldLost s t 3 why := by
  rintro ⟨-, -, hown, -⟩
  have hnone : (t.seg 2).hold = .none :=
    hown 5 1 2 ⟨by rw [hodd]; rfl, by rw [hodd]; rfl, by rw [hodd]; decide, fun e => absurd e hwhy⟩ (by rw [hodd]; rfl)
      (by rw [hodd]; decide) (by rw [hheld]; rfl)
  rw [hafter] at hnone
  cases hnone

theorem slot_oddState (x : Segment) {i : SlotId} (hi : i ≠ 5) : (oddState x).slot i = Slot.empty := by
  rw [oddState, State.slot_setSeg, State.slot_setSeg, State.slot_setQueue, State.slot_setSlot, if_neg (Ne.symm hi)]
  exact Vector.getElem_replicate _

theorem oddState_dispatchLegal (x : Segment) : DispatchLegal (oddState x) := by
  refine dispatchLegal_of_oddHold rfl rfl (Nat.le_refl 2) (by simp [oddState]) fun i hi => ?_
  rw [slot_oddState x hi]
  exact ⟨rfl, rfl, nofun⟩

theorem oddState_follows {x : Segment} (ht : x.idleTimer = .stopped) : IdleTimersFollow (oddState x) := by
  rw [idleTimersFollow_iff]
  intro k
  have hseg : (oddState x).seg k = if 3 = k then x else if 2 = k then { Segment.cold with hold := .held 1 100 } else Segment.cold := by
    rw [oddState, State.seg_setSeg, State.seg_setSeg]
    split
    · rfl
    · split
      · rfl
      · exact Vector.getElem_replicate _
  rw [hseg]
  split
  · rename_i hk
    subst hk
    have hqueue : (oddState x).queue 3 = [5] := rfl
    rw [hqueue, Segment.idleTimerFor_cons _ (List.cons_ne_nil _ _), ht]
  · split
    · rw [Segment.idleTimerFor_of_not_active (by nofun)]
      rfl
    · rw [Segment.idleTimerFor_of_not_active (by nofun)]
      rfl

/-- Refutes O57: STUCK_LINE on segment 3 leaves segment 2 HELD by the HOLD that it ended. -/
theorem not_lineFaultsEnterFaulted : ¬ Obligations.LineFaultsEnterFaulted := by
  intro h
  obtain ⟨t, ht, -, -, -, -, -, hlegal⟩ := h.1 (oddState { Segment.cold with lineState := .syncing }) 3 (.stuckLine 3) .stuck
    (oddState_follows rfl) (.inr (.inl ⟨rfl, rfl, .inl rfl⟩))
  have hafter : holdAfter (exec (.stuckLine 3) (oddState { Segment.cold with lineState := .syncing })) 2 = some (.held 1 100) := by
    decide
  rw [ht, holdAfter_next] at hafter
  obtain ⟨-, -, hlost, -⟩ := hlegal (oddState_dispatchLegal _)
  exact not_holdLost_of_oddHold (why := .fault) (by rfl) (by rfl) (Option.some.inj hafter) nofun hlost

/-- Refutes O46: a level carried into IDLE leaves segment 2 HELD by the HOLD that it ended. -/
theorem not_wakesReachActive : ¬ Obligations.WakesReachActive := by
  intro h
  obtain ⟨x, hx⟩ : ∃ x, x = { Segment.cold with lineState := .waking, settleTimer := .running 5 } := ⟨_, rfl⟩
  have hx3 : (oddState x).seg 3 = x := State.seg_setSeg_self ..
  obtain ⟨t, ht, -, -, -, -, -, hlegal⟩ := h.2.2.2.1 (oddState x) 3 5 10 (oddState_follows (by rw [hx]; rfl))
    (by rw [hx3, hx]) (by rw [hx3, hx]) (le_refl 10) (by rw [hx3, hx]; rfl) (.inl (by rw [hx3, hx]; rfl))
  have hafter : holdAfter (exec (.settleTimerExpiry ⟨3, 10⟩) (oddState x)) 2 = some (.held 1 100) := by
    rw [hx]
    decide
  rw [ht, holdAfter_next] at hafter
  obtain ⟨-, hlost, -⟩ := hlegal (oddState_dispatchLegal x)
  exact not_holdLost_of_oddHold (why := .fault) (by rfl) (by rfl) (Option.some.inj hafter) nofun
    (hlost fun p hp => by rw [hx3, hx] at hp; cases hp)

/-- The odd state with a STOP of slot 6 pending on segment 3. -/
def oddStop : State :=
  (oddState { Segment.cold with lineState := .active, pendingOp := some { op := .stop, slot := 6 } }).setSlot 6 { Slot.empty with
    state := .live, arrival := some 2, cq := some 0, kind := some .segStop }

theorem oddStop_dispatchLegal : DispatchLegal oddStop := by
  refine dispatchLegal_of_oddHold rfl rfl (Nat.le_refl 2) (by simp [oddStop, oddState, State.slot_setSlot]) fun i hi => ?_
  by_cases h6 : i = 6
  · rw [h6, oddStop, State.slot_setSlot_self]
    exact ⟨rfl, rfl, fun _ => ⟨rfl, rfl⟩⟩
  · rw [oddStop, State.slot_setSlot, if_neg (Ne.symm h6), slot_oddState _ hi]
    exact ⟨rfl, rfl, nofun⟩

/-- Refutes O47: STOP_ACT on segment 3 leaves segment 2 HELD by the HOLD that it ended. -/
theorem not_stopActsAfterItsFrame : ¬ Obligations.StopActsAfterItsFrame := by
  intro h
  obtain ⟨t, ht, -, -, -, -, hlost, -⟩ := h oddStop 3 6 0 ((oddState_follows rfl).setSlot 6 _) oddStop_dispatchLegal rfl rfl nofun rfl rfl rfl rfl
  have hafter : holdAfter (exec (.stopAct 3) oddStop) 2 = some (.held 1 100) := by decide
  rw [ht, holdAfter_next] at hafter
  exact not_holdLost_of_oddHold (why := .stopped) (by rfl) (by rfl) (Option.some.inj hafter) nofun hlost

/-- The fetch of a SEGMENT_STOP that names segment 3. -/
def oddFetch : Fetch := { ring := 0, index := 0, slot := 7, discard := false }

/-- Request ring 0's configuration there. -/
def oddConfig : RingConfig := { base := 0, size := 16, weight := none, reserve := 0, cap := 1, cq := 0 }

/-- The record of that SEGMENT_STOP. -/
def oddRecord : Record := ((Vector.replicate 32 0).set 0 0x32).set 16 3

/-- The odd state with segment 3 DORMANT and the record of a SEGMENT_STOP for it about to arrive. -/
def oddArrival : State :=
  { ((oddState { Segment.cold with lineState := .dormant }).setSlot 7 { Slot.empty with state := .fetching, ring := some 0 }).setRing 0
      { RequestRing.empty with state := .active, config := some oddConfig, producer := 1 } with
    fetch := some oddFetch, read := .outstanding 0 .stopped }

theorem oddArrival_arriving : Arriving oddArrival oddFetch oddConfig where
  reading := ⟨0, .stopped, rfl⟩
  inFlight := rfl
  kept := rfl
  waiting := by decide
  config := rfl
  consumer := by decide
  reserved := rfl

theorem oddArrival_dispatchLegal : DispatchLegal oddArrival := by
  refine dispatchLegal_of_oddHold rfl rfl (Nat.le_refl 2) (by rfl) fun i hi => ?_
  have hslot : oddArrival.slot i = if 7 = i then { Slot.empty with state := .fetching, ring := some 0 } else Slot.empty := by
    refine (State.slot_setSlot (oddState { Segment.cold with lineState := .dormant }) 7 i _).trans ?_
    rw [slot_oddState _ hi]
  rw [hslot]
  split
  · exact ⟨rfl, rfl, nofun⟩
  · exact ⟨rfl, rfl, nofun⟩

/-- Refutes O31: a SEGMENT_STOP of segment 3 leaves segment 2 HELD by the HOLD that it ended. -/
theorem not_segmentStartEntersSyncing : ¬ Obligations.SegmentStartEntersSyncing := by
  intro h
  have hfollow : IdleTimersFollow oddArrival := oddState_follows (x := { Segment.cold with lineState := .dormant }) rfl
  obtain ⟨t, ht, -, -, -, -, hlost, -⟩ := ((h.2.1 oddArrival oddFetch oddConfig oddRecord false 3 oddArrival_arriving hfollow rfl
    (by decide) (by decide) (by decide) (by decide)).2 rfl).2.2.2 (.inr (.inl rfl)) oddArrival_dispatchLegal
  have hafter : holdAfter (exec (.fetchComplete ⟨oddRecord, false⟩) oddArrival) 2 = some (.held 1 100) := by decide
  rw [ht, holdAfter_next] at hafter
  exact not_holdLost_of_oddHold (s := oddArrival.consumed oddFetch oddConfig.size false) (why := .stopped) (by rfl) (by rfl)
    (Option.some.inj hafter) nofun hlost

end Sys2Proof.Machine
end

/-! ### Holds that end (R110, R113) -/

section
namespace Sys2Proof.Machine

/-! #### Holds returned to NONE -/

theorem State.clearHoldsOf_eq (r : Ring) (gs : List Seg) (s : State) :
    s.clearHoldsOf r gs = { s with segs := (s.clearHoldsOf r gs).segs } := by
  induction gs generalizing s with
  | nil => rfl
  | cons g gs ih =>
    rw [State.clearHoldsOf, List.foldl_cons]
    split
    · exact ih (s.clearHold g)
    · exact ih s

/-- Each listed segment that is the ring's returns to NONE, and no other changes. -/
theorem State.seg_clearHoldsOf (r : Ring) (gs : List Seg) (s : State) (k : Seg) : (s.clearHoldsOf r gs).seg k =
    if k ∈ gs ∧ (s.seg k).hold.holder = some r then { s.seg k with hold := .none } else s.seg k := by
  induction gs generalizing s with
  | nil => rw [if_neg fun h => List.not_mem_nil h.1]; rfl
  | cons g gs ih =>
    rw [State.clearHoldsOf, List.foldl_cons]
    by_cases hg : (s.seg g).hold.holder = some r
    · rw [if_pos hg]
      refine (ih (s.clearHold g)).trans ?_
      rw [State.clearHold, State.modSeg_eq, State.seg_setSeg]
      by_cases hk : g = k
      · subst hk
        have hpos : g ∈ g :: gs ∧ (s.seg g).hold.holder = some r := ⟨List.mem_cons_self .., hg⟩
        rw [if_pos rfl, if_pos hpos, if_neg fun h => by cases h.2]
      · rw [if_neg hk]
        simp only [List.mem_cons, Ne.symm hk, false_or]
    · rw [if_neg hg]
      refine (ih s).trans (if_congr ?_ rfl rfl)
      rw [List.mem_cons]
      refine ⟨fun h => ⟨.inr h.1, h.2⟩, fun h => ⟨h.1.resolve_left ?_, h.2⟩⟩
      rintro rfl
      exact hg h.2

theorem mem_setMembers (m : SegSet) (g : Seg) : g ∈ setMembers m ↔ m.getLsbD g.val = true := by
  simp [setMembers, inSet]

/-! #### One HOLD ends -/

/-- Slot `i` is a LIVE HOLD. -/
def State.isLiveHold (s : State) (i : SlotId) : Prop := (s.slot i).state = .live ∧ (s.slot i).kind = some .hold

/-- The LIVE HOLD in slot `i` gives up segment `k` as it ends: the segment is in its own set and its ring's (R110). -/
def State.givesUp (s : State) (i : SlotId) (k : Seg) : Prop :=
  s.isLiveHold i ∧ (s.slot i).ownSet.getLsbD k.val = true ∧ ∃ r, (s.slot i).ring = some r ∧ (s.seg k).hold.holder = some r

/-- The LIVE HOLD in slot `i` is answered on completion ring `c` as it ends. -/
def State.endsOn (s : State) (c : Cq) (i : SlotId) : Bool :=
  decide ((s.slot i).state = .live ∧ (s.slot i).kind = some .hold) && (s.slot i).exchange.isNone && decide ((s.slot i).cq = some c) &&
    decide ((s.cq c).state = .active)

theorem State.endsOn_iff (s : State) (c : Cq) (i : SlotId) : s.endsOn c i = true ↔
    s.isLiveHold i ∧ (s.slot i).exchange = none ∧ (s.slot i).cq = some c ∧ (s.cq c).state = .active := by
  simp only [State.endsOn, Bool.and_eq_true, decide_eq_true_eq, Option.isNone_iff_eq_none, and_assoc, State.isLiveHold]

/-- The own set of the HOLD in slot `i` returned to NONE (R110). -/
def State.giveUp (s : State) (i : SlotId) : State :=
  match (s.slot i).ring with
  | some r => s.clearHoldsOf r (setMembers (s.slot i).ownSet)
  | none => s

section
variable (s : State) (i : SlotId)

theorem State.giveUp_eq : s.giveUp i = { s with segs := (s.giveUp i).segs } := by
  unfold State.giveUp
  split
  · exact State.clearHoldsOf_eq _ _ s
  · rfl

theorem State.seg_giveUp_pos {k : Seg} (hk : s.givesUp i k) :
    (s.giveUp i).seg k = { s.seg k with hold := .none } := by
  obtain ⟨-, hown, r, hr, hh⟩ := hk
  rw [State.giveUp, hr]
  exact (State.seg_clearHoldsOf r _ s k).trans (if_pos ⟨(mem_setMembers _ _).2 hown, hh⟩)

theorem State.seg_giveUp_neg (h : s.isLiveHold i) {k : Seg} (hk : ¬ s.givesUp i k) : (s.giveUp i).seg k = s.seg k := by
  unfold State.giveUp
  split
  · rename_i r hr
    exact (State.seg_clearHoldsOf r _ s k).trans (if_neg fun hc => hk ⟨h, (mem_setMembers _ _).1 hc.1, r, hr, hc.2⟩)
  · rfl

theorem State.endHold_of_not (h : ¬ s.isLiveHold i) (status : Status) : s.endHold status i = s := if_neg h

theorem State.endHold_of_live (h : s.isLiveHold i) (status : Status) : s.endHold status i = (s.giveUp i).answer i status := by
  rw [State.endHold]
  refine (if_pos h).trans ?_
  unfold State.giveUp
  cases (s.slot i).ring <;> rfl

theorem State.segs_answer (status : Status) : (s.answer i status).segs = s.segs := s.segs_answerResult i _

theorem State.seg_endHold_pos (status : Status) {k : Seg} (hk : s.givesUp i k) :
    (s.endHold status i).seg k = { s.seg k with hold := .none } := by
  rw [State.endHold_of_live s i hk.1, State.seg_of_segs (State.segs_answer _ i status), s.seg_giveUp_pos i hk]

theorem State.seg_endHold_neg (status : Status) {k : Seg} (hk : ¬ s.givesUp i k) : (s.endHold status i).seg k = s.seg k := by
  by_cases h : s.isLiveHold i
  · rw [State.endHold_of_live s i h, State.seg_of_segs (State.segs_answer _ i status), s.seg_giveUp_neg i h hk]
  · rw [State.endHold_of_not s i h]

theorem State.slot_giveUp (j : SlotId) : (s.giveUp i).slot j = s.slot j := by
  rw [State.giveUp_eq]
  rfl

theorem State.cq_giveUp (c : Cq) : (s.giveUp i).cq c = s.cq c := by
  rw [State.giveUp_eq]
  rfl

theorem State.slot_endHold_of_ne (status : Status) {j : SlotId} (h : i ≠ j) : (s.endHold status i).slot j = s.slot j := by
  by_cases hl : s.isLiveHold i
  · rw [State.endHold_of_live s i hl, State.answer, slot_answerResult_of_ne _ h, State.slot_giveUp]
  · rw [State.endHold_of_not s i hl]

/-- A LIVE HOLD that carries no exchange is answered. -/
theorem State.endHold_eq_answered (status : Status) {c : Cq} (h : s.isLiveHold i) (hx : (s.slot i).exchange = none)
    (hc : (s.slot i).cq = some c) :
    s.endHold status i = (s.giveUp i).answered i c (doneWith (s.slot i) (plainResult status 0 zeroArea)) := by
  rw [State.endHold_of_live s i h, State.answer_eq (c := c) status (by rw [State.slot_giveUp]; exact hx)
    (by rw [State.slot_giveUp]; exact .inr h.1) (by rw [State.slot_giveUp]; exact hc), State.slot_giveUp]

theorem State.slot_endHold (status : Status) {c : Cq} (h : s.isLiveHold i) (hx : (s.slot i).exchange = none)
    (hc : (s.slot i).cq = some c) :
    (s.endHold status i).slot i = s.posted c (doneWith (s.slot i) (plainResult status 0 zeroArea)) := by
  rw [State.endHold_eq_answered s i status h hx hc, State.slot_answered, if_pos rfl, State.cq_giveUp]
  rfl

/-- A LIVE HOLD that carries no exchange is LIVE no more. -/
theorem State.not_live_endHold (status : Status) (h : s.isLiveHold i) (hx : (s.slot i).exchange = none) :
    ((s.endHold status i).slot i).state ≠ .live := by
  cases hc : (s.slot i).cq with
  | some c =>
    rw [State.slot_endHold s i status h hx hc, State.posted]
    split <;> nofun
  | none =>
    rw [State.endHold_of_live s i h, State.answer, State.answerResult, State.slot_giveUp, hx]
    simp only [Option.isNone_none, if_true]
    rw [State.completeSlot, if_pos (by rw [State.slot_giveUp]; exact .inr h.1), State.modSlot_eq, State.postSlot, State.slot_setSlot_self,
      State.slot_giveUp]
    simp only [hc]
    rw [State.freeSlot, State.slot_setSlot_self]
    nofun

theorem State.completeSlot_of_cq_none (r : Result) (h : (s.slot i).cq = none) (c : Cq) : (s.completeSlot i r).cq c = s.cq c := by
  unfold State.completeSlot
  split
  · rw [State.modSlot_eq, State.postSlot, State.slot_setSlot_self]
    simp only [h]
    rfl
  · rfl

theorem State.cq_answered_of_ne {c d : Cq} (x : Slot) (h : ¬ (s.cq d).state = .active ∨ d ≠ c) : (s.answered i d x).cq c = s.cq c := by
  by_cases ha : (s.cq d).state = .active
  · rw [State.answered_pos ha, State.cq_setCq, if_neg (h.resolve_left (not_not.2 ha))]
    rfl
  · rw [State.answered_neg ha]
    rfl

/-- Only the backlog that the HOLD is answered on grows, by its posting. -/
theorem State.cq_endHold (status : Status) (c : Cq) : (s.endHold status i).cq c =
    { s.cq c with backlog := (s.cq c).backlog ++ if s.endsOn c i then [.slot i] else [] } := by
  have hsame : ¬ s.endsOn c i = true → (s.endHold status i).cq c = s.cq c → (s.endHold status i).cq c =
      { s.cq c with backlog := (s.cq c).backlog ++ if s.endsOn c i then [.slot i] else [] } := by
    intro h he
    rw [he, if_neg h, List.append_nil]
  by_cases hl : s.isLiveHold i
  · by_cases hx : (s.slot i).exchange = none
    · cases hc : (s.slot i).cq with
      | none =>
        refine hsame (by rw [State.endsOn_iff, hc]; exact fun h => nomatch h.2.2.1) ?_
        rw [State.endHold_of_live s i hl, State.answer, State.answerResult, State.slot_giveUp, hx]
        simp only [Option.isNone_none, if_true]
        rw [State.completeSlot_of_cq_none _ _ _ (by rw [State.slot_giveUp, hc]), State.cq_giveUp]
      | some d =>
        rw [State.endHold_eq_answered s i status hl hx hc]
        by_cases hd : d = c ∧ (s.cq d).state = .active
        · obtain ⟨rfl, ha⟩ := hd
          rw [if_pos ((s.endsOn_iff d i).2 ⟨hl, hx, hc, ha⟩), State.answered_pos (by rw [State.cq_giveUp, ha]), State.cq_setCq, if_pos rfl,
            State.cq_giveUp]
        · rw [if_neg fun h => hd ?_, List.append_nil]
          · have hne : ¬ ((s.giveUp i).cq d).state = .active ∨ d ≠ c := by
              rw [State.cq_giveUp]
              exact (em (d = c)).elim (fun h => .inl fun ha => hd ⟨h, ha⟩) .inr
            exact (State.cq_answered_of_ne _ _ _ hne).trans (s.cq_giveUp i c)
          · obtain ⟨-, -, hc', ha⟩ := (s.endsOn_iff c i).1 h
            cases hc.symm.trans hc'
            exact ⟨rfl, ha⟩
    · refine hsame (fun h => hx ((s.endsOn_iff c i).1 h).2.1) ?_
      rw [State.endHold_of_live s i hl, State.answer, State.answerResult, if_neg (by rw [State.slot_giveUp]; simpa using hx), State.cq_giveUp]
  · exact hsame (fun h => hl ((s.endsOn_iff c i).1 h).1) (by rw [State.endHold_of_not s i hl])

end

/-! #### HOLDs that end one after another -/

/-- The LIVE HOLDs of a list end in its order. -/
def State.endHolds (s : State) (status : Status) (is : List SlotId) : State := is.foldl (fun s i => s.endHold status i) s

section
variable (status : Status) {is : List SlotId} (s : State)

theorem State.endHolds_cons (i : SlotId) : s.endHolds status (i :: is) = (s.endHold status i).endHolds status is := rfl

theorem State.slot_endHolds_of_notMem {j : SlotId} (h : j ∉ is) : (s.endHolds status is).slot j = s.slot j := by
  induction is generalizing s with
  | nil => rfl
  | cons i is ih =>
    rw [List.mem_cons, not_or] at h
    rw [State.endHolds_cons, ih _ h.2, State.slot_endHold_of_ne s i status (Ne.symm h.1)]

theorem State.isLiveHold_congr {s t : State} {i : SlotId} (h : t.slot i = s.slot i) : t.isLiveHold i ↔ s.isLiveHold i := by
  rw [State.isLiveHold, State.isLiveHold, h]

theorem State.endsOn_endHold {i j : SlotId} (h : i ≠ j) (c : Cq) : (s.endHold status i).endsOn c j = s.endsOn c j := by
  rw [State.endsOn, State.endsOn, State.slot_endHold_of_ne s i status h, State.cq_endHold]

/-- A HOLD of the list that carries no exchange has been answered. -/
theorem State.slot_endHolds_of_mem {i : SlotId} {c : Cq} (hd : is.Nodup) (hi : i ∈ is) (h : s.isLiveHold i) (hx : (s.slot i).exchange = none)
    (hc : (s.slot i).cq = some c) :
    (s.endHolds status is).slot i = s.posted c (doneWith (s.slot i) (plainResult status 0 zeroArea)) := by
  induction is generalizing s with
  | nil => nomatch hi
  | cons j is ih =>
    rw [List.nodup_cons] at hd
    rw [State.endHolds_cons]
    by_cases hji : j = i
    · subst hji
      rw [State.slot_endHolds_of_notMem status _ hd.1, State.slot_endHold s j status h hx hc]
    · have hslot := State.slot_endHold_of_ne s j status hji
      rw [ih (s.endHold status j) hd.2 ((List.mem_cons.1 hi).resolve_left (Ne.symm hji)) ((State.isLiveHold_congr hslot).2 h) (by rw [hslot, hx])
        (by rw [hslot, hc]), State.posted, State.posted, State.cq_endHold, hslot]

theorem State.not_live_endHolds {i : SlotId} (hd : is.Nodup) (hi : i ∈ is) (h : s.isLiveHold i) (hx : (s.slot i).exchange = none) :
    ((s.endHolds status is).slot i).state ≠ .live := by
  induction is generalizing s with
  | nil => nomatch hi
  | cons j is ih =>
    rw [List.nodup_cons] at hd
    rw [State.endHolds_cons]
    by_cases hji : j = i
    · subst hji
      rw [State.slot_endHolds_of_notMem status _ hd.1]
      exact State.not_live_endHold s j status h hx
    · have hslot := State.slot_endHold_of_ne s j status hji
      exact ih (s.endHold status j) hd.2 ((List.mem_cons.1 hi).resolve_left (Ne.symm hji)) ((State.isLiveHold_congr hslot).2 h) (by rw [hslot, hx])

/-- Each backlog grows by the postings of the HOLDs answered on it, in their order. -/
theorem State.cq_endHolds (hd : is.Nodup) (c : Cq) : (s.endHolds status is).cq c =
    { s.cq c with backlog := (s.cq c).backlog ++ (is.filter (s.endsOn c)).map .slot } := by
  induction is generalizing s with
  | nil => rw [List.filter_nil, List.map_nil, List.append_nil]; rfl
  | cons i is ih =>
    rw [List.nodup_cons] at hd
    have hfilter : is.filter ((s.endHold status i).endsOn c) = is.filter (s.endsOn c) :=
      List.filter_congr fun j hj => State.endsOn_endHold status s (fun h => hd.1 (by rw [h]; exact hj)) c
    rw [State.endHolds_cons, ih _ hd.2, hfilter, State.cq_endHold, List.filter_cons]
    by_cases h : s.endsOn c i = true <;> simp [h]

/-- A segment that none of them gives up keeps its record. -/
theorem State.seg_endHolds_neg {k : Seg} (hd : is.Nodup) (h : ∀ i ∈ is, ¬ s.givesUp i k) : (s.endHolds status is).seg k = s.seg k := by
  induction is generalizing s with
  | nil => rfl
  | cons i is ih =>
    rw [List.nodup_cons] at hd
    have hseg := State.seg_endHold_neg s i status (h i (List.mem_cons_self ..))
    rw [State.endHolds_cons, ih _ hd.2, hseg]
    intro j hj hg
    have hslot := State.slot_endHold_of_ne s i status (j := j) fun e => hd.1 (e ▸ hj)
    rw [State.givesUp, State.isLiveHold_congr hslot, hslot, hseg] at hg
    exact h j (List.mem_cons_of_mem _ hj) hg

/-- A segment that a HOLD of the list gives up returns to NONE. -/
theorem State.seg_endHolds_pos {k : Seg} (hd : is.Nodup) (h : ∃ i ∈ is, s.givesUp i k) :
    (s.endHolds status is).seg k = { s.seg k with hold := .none } := by
  induction is generalizing s with
  | nil => obtain ⟨i, hi, -⟩ := h; nomatch hi
  | cons i is ih =>
    rw [List.nodup_cons] at hd
    rw [State.endHolds_cons]
    have hslot (j : SlotId) (hj : j ∈ is) : (s.endHold status i).slot j = s.slot j :=
      State.slot_endHold_of_ne s i status fun e => hd.1 (by rw [e]; exact hj)
    by_cases hi : s.givesUp i k
    · have hseg := State.seg_endHold_pos s i status hi
      rw [State.seg_endHolds_neg status _ hd.2, hseg]
      rintro j - ⟨-, -, r, -, hr⟩
      rw [hseg] at hr
      nomatch hr
    · have hseg := State.seg_endHold_neg s i status hi
      obtain ⟨j, hj, hg⟩ := h
      have hj : j ∈ is := (List.mem_cons.1 hj).resolve_left (by rintro rfl; exact hi hg)
      rw [ih _ hd.2 ⟨j, hj, by rw [State.givesUp, State.isLiveHold_congr (hslot j hj), hslot j hj, hseg]; exact hg⟩, hseg]

theorem State.queues_completeSlot (s : State) (i : SlotId) (r : Result) : (s.completeSlot i r).queues = s.queues := by
  unfold State.completeSlot State.postSlot
  split
  · split
    · rfl
    · split <;> rfl
  · rfl

theorem State.queues_endHold (i : SlotId) : (s.endHold status i).queues = s.queues := by
  by_cases h : s.isLiveHold i
  · rw [State.endHold_of_live s i h, State.answer, State.answerResult, State.giveUp_eq]
    split
    · exact State.queues_completeSlot _ i _
    · rfl
  · rw [State.endHold_of_not s i h]

theorem State.queues_endHolds : (s.endHolds status is).queues = s.queues := by
  induction is generalizing s with
  | nil => rfl
  | cons i is ih => rw [State.endHolds_cons, ih, State.queues_endHold]

theorem OnlyWork.endHolds : OnlyWork s (s.endHolds status is) := .foldl (fun s i => .endHold s status i) _ _

end

end Sys2Proof.Machine
end

/-! ### A hold timer that expires (R110, R111) -/

section
namespace Sys2Proof.Machine

theorem State.slotsInOrder_nodup (s : State) (p : Slot → Bool) : (s.slotsInOrder p).Nodup :=
  (sortOrdered_perm _ _).nodup_iff.2 ((List.nodup_finRange 64).filter _)

theorem State.mem_liveHoldsNaming (s : State) (g : Seg) (i : SlotId) :
    i ∈ s.liveHoldsNaming g ↔ s.isLiveHold i ∧ (s.slot i).namedSet.getLsbD g.val = true := by
  rw [State.liveHoldsNaming, mem_slotsInOrder]
  simp [State.isLiveHold, inSet, and_assoc]

/-- The HOLDs that the loss of a segment ends (R110). -/
theorem State.mem_holdsLost (s : State) (g : Seg) (why : HoldLoss) (i : SlotId) : i ∈ s.holdsLost g why ↔ HoldEnds s g why i := by
  rw [HoldEnds, State.holdsLost]
  by_cases h : why = .expired
  · rw [if_pos h, List.mem_filter, State.mem_liveHoldsNaming]
    simp [h, State.isLiveHold, and_assoc]
  · rw [if_neg h, State.mem_liveHoldsNaming]
    simp [h, State.isLiveHold, and_assoc]

theorem State.holdsLost_nodup (s : State) (g : Seg) (why : HoldLoss) : (s.holdsLost g why).Nodup := by
  unfold State.holdsLost
  split
  · exact (s.slotsInOrder_nodup _).filter _
  · exact s.slotsInOrder_nodup _

theorem State.inLiveOwnSet_iff (s : State) (g : Seg) (r : Ring) : s.inLiveOwnSet g r = true ↔
    ∃ i, LiveHold s r i ∧ (s.slot i).namedSet.getLsbD g.val = true ∧ (s.slot i).ownSet.getLsbD g.val = true := by
  rw [State.inLiveOwnSet, List.any_eq_true]
  refine exists_congr fun i => ?_
  rw [State.mem_liveHoldsNaming, decide_eq_true_iff]
  exact ⟨fun ⟨⟨⟨hl, hk⟩, hn⟩, hr, ho⟩ => ⟨⟨hl, hk, hr⟩, hn, ho⟩, fun ⟨⟨hl, hk, hr⟩, hn, ho⟩ => ⟨⟨⟨hl, hk⟩, hn⟩, hr, ho⟩⟩

theorem HoldLoss.status_eq (why : HoldLoss) : why.status = lossStatus why := by cases why <;> rfl

/-! #### The segment and its notice -/

/-- Segment `g`, lost to ring `r` that held it, is held by none; HOLD_LOST is posted where it is in no LIVE HOLD's own set (R111,
R112). -/
def State.heldLost (s : State) (g : Seg) (why : HoldLoss) (r : Ring) : State :=
  if s.inLiveOwnSet g r then s.clearHold g else (s.clearHold g).postHoldLost g why r

section
variable {s : State} {g : Seg} {r : Ring} {ms : Half} (why : HoldLoss) (hh : (s.seg g).hold = .held r ms)

include hh in
theorem State.loseHold_of_held : s.loseHold g why = (s.heldLost g why r).endHolds why.status (s.holdsLost g why) := by
  rw [State.loseHold, hh]
  rfl

theorem State.heldLost_of_own (h : s.inLiveOwnSet g r = true) : s.heldLost g why r = s.setSeg g { s.seg g with hold := .none } := by
  rw [State.heldLost, if_pos h]
  rfl

theorem State.heldLost_of_unowned {cfg : RingConfig} (hcfg : (s.ring r).config = some cfg) (h : ¬ s.inLiveOwnSet g r = true) :
    s.heldLost g why r = (s.setSeg g { s.seg g with hold := .none }).postNotice cfg.cq (.holdLost g why r) := by
  have hcq : (s.clearHold g).ringCq r = some cfg.cq := congrArg (Option.map RingConfig.cq) hcfg
  rw [State.heldLost, if_neg h, State.postHoldLost, hcq]
  rfl

variable {cfg : RingConfig} (hcfg : (s.ring r).config = some cfg)

include hcfg

theorem State.segs_heldLost : (s.heldLost g why r).segs = (s.setSeg g { s.seg g with hold := .none }).segs := by
  by_cases h : s.inLiveOwnSet g r = true
  · rw [State.heldLost_of_own why h]
  · rw [State.heldLost_of_unowned why hcfg h, State.segs_postNotice]

theorem State.slot_heldLost (i : SlotId) : (s.heldLost g why r).slot i = s.slot i := by
  by_cases h : s.inLiveOwnSet g r = true
  · rw [State.heldLost_of_own why h]
    rfl
  · rw [State.heldLost_of_unowned why hcfg h, slot_postNotice]
    rfl

theorem State.queues_heldLost : (s.heldLost g why r).queues = s.queues := by
  by_cases h : s.inLiveOwnSet g r = true
  · rw [State.heldLost_of_own why h]
    rfl
  · rw [State.heldLost_of_unowned why hcfg h, State.postNotice_eq_setCq]
    rfl

theorem State.cq_heldLost (c : Cq) : (s.heldLost g why r).cq c =
    if ¬ s.inLiveOwnSet g r = true ∧ cfg.cq = c then (s.cq c).noticed (.holdLost g why r) else s.cq c := by
  by_cases h : s.inLiveOwnSet g r = true
  · rw [State.heldLost_of_own why h, if_neg fun hc => hc.1 h]
    rfl
  · rw [State.heldLost_of_unowned why hcfg h, State.cq_postNotice]
    by_cases hc : cfg.cq = c
    · rw [if_pos hc, if_pos ⟨h, hc⟩, ← hc]
      rfl
    · rw [if_neg hc, if_neg fun h => hc h.2]
      rfl

theorem State.posted_heldLost (c : Cq) (x : Slot) : (s.heldLost g why r).posted c x = s.posted c x := by
  rw [State.posted, State.posted, State.cq_heldLost why hcfg]
  refine if_congr ?_ rfl rfl
  split
  · rw [CompletionRing.noticed]
    split
    · rfl
    · split <;> rfl
  · rfl

/-! #### All that the loss does -/

include hh

/-- A segment of the own set of a HOLD that ends returns to NONE, as the lost one does. -/
theorem State.hold_loseHold_of_own {i : SlotId} {q : Ring} {k : Seg} (hi : HoldEnds s g why i) (hq : (s.slot i).ring = some q)
    (hown : (s.slot i).ownSet.getLsbD k.val = true) (hk : (s.seg k).hold.holder = some q) :
    ((s.loseHold g why).seg k).hold = .none := by
  by_cases hgk : g = k
  · subst hgk
    exact State.hold_loseHold s g why
  · have hseg : (s.heldLost g why r).seg k = s.seg k := by
      rw [State.seg_of_segs (State.segs_heldLost why hcfg), State.seg_setSeg, if_neg hgk]
    have hslot := State.slot_heldLost (g := g) why hcfg i
    rw [State.loseHold_of_held why hh, State.seg_endHolds_pos why.status _ (s.holdsLost_nodup g why)
      ⟨i, (s.mem_holdsLost g why i).2 hi, (State.isLiveHold_congr hslot).2 ⟨hi.1, hi.2.1⟩, by rw [hslot, hown], q, by rw [hslot, hq],
        by rw [hseg, hk]⟩]

theorem State.hold_loseHold_or (k : Seg) : ((s.loseHold g why).seg k).hold = .none ∨ (s.loseHold g why).seg k = s.seg k := by
  by_cases hgk : g = k
  · subst hgk
    exact .inl (State.hold_loseHold s g why)
  · have hseg : (s.heldLost g why r).seg k = s.seg k := by
      rw [State.seg_of_segs (State.segs_heldLost why hcfg), State.seg_setSeg, if_neg hgk]
    rw [State.loseHold_of_held why hh]
    by_cases hg : ∃ i ∈ s.holdsLost g why, (s.heldLost g why r).givesUp i k
    · exact .inl (by rw [State.seg_endHolds_pos why.status _ (s.holdsLost_nodup g why) hg])
    · exact .inr (by rw [State.seg_endHolds_neg why.status _ (s.holdsLost_nodup g why) (by push Not at hg; exact hg), hseg])

theorem State.slot_loseHold {i : SlotId} {c : Cq} (hi : HoldEnds s g why i) (hx : (s.slot i).exchange = none) (hc : (s.slot i).cq = some c) :
    (s.loseHold g why).slot i = s.posted c (doneWith (s.slot i) (plainResult (lossStatus why) 0 zeroArea)) := by
  have hslot := State.slot_heldLost (g := g) why hcfg i
  rw [State.loseHold_of_held why hh, State.slot_endHolds_of_mem why.status _ (s.holdsLost_nodup g why) ((s.mem_holdsLost g why i).2 hi)
    ((State.isLiveHold_congr hslot).2 ⟨hi.1, hi.2.1⟩) (by rw [hslot, hx]) (by rw [hslot, hc]), State.posted_heldLost why hcfg, hslot,
    HoldLoss.status_eq]

theorem State.not_live_loseHold {i : SlotId} (hi : HoldEnds s g why i) (hx : (s.slot i).exchange = none) :
    ((s.loseHold g why).slot i).state ≠ .live := by
  have hslot := State.slot_heldLost (g := g) why hcfg i
  rw [State.loseHold_of_held why hh]
  exact State.not_live_endHolds why.status _ (s.holdsLost_nodup g why) ((s.mem_holdsLost g why i).2 hi)
    ((State.isLiveHold_congr hslot).2 ⟨hi.1, hi.2.1⟩) (by rw [hslot, hx])

theorem State.queues_loseHold : (s.loseHold g why).queues = s.queues := by
  rw [State.loseHold_of_held why hh, State.queues_endHolds, State.queues_heldLost why hcfg]

omit hcfg in
/-- The backlog of a completion ring once the hold is lost: the notice where one is due, then the HOLDs answered on it. -/
theorem State.backlog_loseHold (c : Cq) : ((s.loseHold g why).cq c).backlog =
    ((s.heldLost g why r).cq c).backlog ++ ((s.holdsLost g why).filter ((s.heldLost g why r).endsOn c)).map .slot := by
  rw [State.loseHold_of_held why hh, State.cq_endHolds why.status _ (s.holdsLost_nodup g why)]

/-- The loss of a held segment (R110 to R112). -/
theorem State.holdLost_of_held (hexp : why ≠ .fault) : HoldLost s (s.loseHold g why).refreshIdle g why := by
  have hreported (reported : Prop) (h : reported ↔ ∃ i, LiveHold s r i ∧ (s.slot i).namedSet.getLsbD g.val = true ∧
      (s.slot i).ownSet.getLsbD g.val = true) : reported ↔ s.inLiveOwnSet g r = true := h.trans (s.inLiveOwnSet_iff g r).symm
  refine ⟨?_, fun i c hi hx hc => State.slot_loseHold why hh hcfg hi hx hc, fun i q k hi hq hown hk => ?_, fun hall c q hmem => ?_,
    fun q ms' cfg' hh' hno hcfg' hactive hroom => ?_⟩
  · rw [State.seg_refreshIdle]
    exact State.hold_loseHold s g why
  · rw [State.seg_refreshIdle]
    exact State.hold_loseHold_of_own why hh hcfg hi hq hown hk
  · have hown : s.inLiveOwnSet g r = true := (s.inLiveOwnSet_iff g r).2 (hall r ms hh)
    rw [State.cq_refreshIdle, State.backlog_loseHold why hh, State.cq_heldLost why hcfg, if_neg fun h => h.1 hown,
      List.drop_left] at hmem
    obtain ⟨i, -, hi⟩ := List.mem_map.1 hmem
    nomatch hi
  · cases hh.symm.trans hh'
    cases hcfg.symm.trans hcfg'
    have hown : ¬ s.inLiveOwnSet g r = true := fun h => hno ((s.inLiveOwnSet_iff g r).1 h)
    have hnoticed : (s.cq cfg.cq).noticed (.holdLost g why r) = { s.cq cfg.cq with
        backlog := (s.cq cfg.cq).backlog ++ [.notice (.holdLost g why r)], noticesWaiting := (s.cq cfg.cq).noticesWaiting + 1 } := by
      rw [CompletionRing.noticed, if_neg (not_not.2 hactive), if_pos (by rw [if_neg hexp] at hroom; exact hroom)]
    refine ⟨[], ((s.holdsLost g why).filter ((s.heldLost g why r).endsOn cfg.cq)).map .slot, ?_, fun i hi hx => ⟨List.not_mem_nil, fun hc => ?_⟩⟩
    · rw [State.cq_refreshIdle, State.backlog_loseHold why hh, State.cq_heldLost why hcfg, if_pos ⟨hown, rfl⟩, hnoticed,
        List.append_nil, List.append_assoc]
      rfl
    · have hslot := State.slot_heldLost (g := g) why hcfg i
      refine List.mem_map_of_mem (List.mem_filter.2 ⟨(s.mem_holdsLost g why i).2 hi, ?_⟩)
      rw [State.endsOn_iff, State.isLiveHold_congr hslot, hslot, State.cq_heldLost why hcfg, if_pos ⟨hown, rfl⟩, hnoticed]
      exact ⟨⟨hi.1, hi.2.1⟩, hx, hc, hactive⟩

end

/-- Settles O43. -/
theorem holdTimerExpiryEndsHold : Obligations.HoldTimerExpiryEndsHold := by
  intro s g r ms cfg hs hh hcfg
  have hends (i : SlotId) (hl : (s.slot i).state = .live) (hk : (s.slot i).kind = some .hold) (hr : (s.slot i).ring = some r)
      (hn : (s.slot i).namedSet.getLsbD g.val = true) : HoldEnds s g .expired i := ⟨hl, hk, hn, fun _ => by rw [hr, hh]; rfl⟩
  refine ⟨(s.loseHold g .expired).refreshIdle, ?_, State.refreshIdle_follows _, ?_, (OnlyWork.loseHold s g .expired).trans (.refreshIdle _),
    State.holdLost_of_held .expired hh hcfg (by nofun), State.queues_loseHold .expired hh hcfg, fun hnone => ?_,
    fun i hl hk hr hx hn => ⟨?_, fun k hown hk' => ?_⟩⟩
  · change execHoldTimerExpiry g s = _
    rw [execHoldTimerExpiry, hh]
    rfl
  · rw [State.seg_refreshIdle]
    exact State.hold_loseHold s g .expired
  · have hholds : s.holdsLost g .expired = [] := List.eq_nil_iff_forall_not_mem.2 fun i hi => by
      obtain ⟨hl, hk, hn, hr⟩ := (s.mem_holdsLost g .expired i).1 hi
      have hr : (s.slot i).ring = some r := by rw [hr rfl, hh]; rfl
      rw [hnone i hl hk hr] at hn
      nomatch hn
    have hown : ¬ s.inLiveOwnSet g r = true := fun h => by
      obtain ⟨i, ⟨hl, hk, hr⟩, hn, -⟩ := (s.inLiveOwnSet_iff g r).1 h
      rw [hnone i hl hk hr] at hn
      nomatch hn
    have hlost : s.loseHold g .expired = (s.postNotice cfg.cq (.holdLost g .expired r)).setSeg g { s.seg g with hold := .none } := by
      rw [State.loseHold_of_held .expired hh, hholds, State.heldLost_of_unowned .expired hcfg hown, State.postNotice_setSeg]
      rfl
    rw [hlost, State.refreshIdle_setSeg (hs.postNotice _ _), State.seg_setSeg_self, State.postNotice_setSeg]
  · exact State.not_live_loseHold .expired hh hcfg (hends i hl hk hr hn) hx
  · rw [State.seg_refreshIdle] at hk'
    change ((s.loseHold g .expired).seg k).hold.holder = some r at hk'
    rcases State.hold_loseHold_or .expired hh hcfg k with h | h
    · rw [h] at hk'
      nomatch hk'
    · rw [State.hold_loseHold_of_own .expired hh hcfg (hends i hl hk hr hn) hr hown (by rw [← h, hk'])] at hk'
      nomatch hk'

end Sys2Proof.Machine
end

/-! ### RELEASE (R113) -/

section
namespace Sys2Proof.Machine

/-- The status of a RELEASE (R113): whether every named segment was the ring's. -/
def State.releaseStatus (s : State) (r : Ring) (m : SegSet) : Status :=
  if (setMembers m).all fun g => decide ((s.seg g).hold.holder = some r) then .outcome .ok else .notHeld

/-- The LIVE HOLDs of ring `r` that name a segment of `m`, in arrival order. -/
def State.holdsReleased (s : State) (r : Ring) (m : SegSet) : List SlotId :=
  s.slotsInOrder fun t => t.state = .live && t.kind = some .hold && t.ring = some r && t.namedSet &&& m ≠ 0

theorem State.holdsReleased_nodup (s : State) (r : Ring) (m : SegSet) : (s.holdsReleased r m).Nodup := s.slotsInOrder_nodup _

/-- The segments and the HOLDs that a RELEASE ends. -/
def State.released (s : State) (r : Ring) (m : SegSet) : State :=
  (s.clearHoldsOf r (setMembers m)).endHolds (.outcome .aborted) (s.holdsReleased r m)

section
variable (s : State) (i : SlotId) (r : Ring) (m : SegSet)

theorem State.slot_clearHoldsOf (gs : List Seg) (j : SlotId) : (s.clearHoldsOf r gs).slot j = s.slot j := by
  rw [State.clearHoldsOf_eq]
  rfl

theorem State.cq_clearHoldsOf (gs : List Seg) (c : Cq) : (s.clearHoldsOf r gs).cq c = s.cq c := by
  rw [State.clearHoldsOf_eq]
  rfl

theorem State.seg_clearHoldsOf_members (k : Seg) : (s.clearHoldsOf r (setMembers m)).seg k =
    if m.getLsbD k.val = true ∧ (s.seg k).hold.holder = some r then { s.seg k with hold := .none } else s.seg k :=
  (State.seg_clearHoldsOf r _ s k).trans (if_congr (and_congr_left fun _ => mem_setMembers m k) rfl rfl)

theorem State.slotsInOrder_congr {s t : State} (h : ∀ j, t.slot j = s.slot j) (p : Slot → Bool) : t.slotsInOrder p = s.slotsInOrder p := by
  have hbefore : t.arrivedBefore = s.arrivedBefore := by
    funext i j
    rw [State.arrivedBefore, State.arrivedBefore, State.arrivalOf, State.arrivalOf, State.arrivalOf, State.arrivalOf, h, h]
  rw [State.slotsInOrder, State.slotsInOrder, hbefore]
  simp only [h]

theorem State.takeRelease_eq (hm : m ≠ 0) : s.takeRelease i r m = (s.released r m).answer i (s.releaseStatus r m) := by
  rw [State.released, State.holdsReleased, ← State.slotsInOrder_congr (s.slot_clearHoldsOf r (setMembers m))]
  exact if_neg hm

theorem State.mem_holdsReleased (j : SlotId) : j ∈ s.holdsReleased r m ↔ LiveHold s r j ∧ (s.slot j).namedSet &&& m ≠ 0 := by
  rw [State.holdsReleased, mem_slotsInOrder]
  simp [LiveHold, and_assoc]

theorem State.releaseStatus_eq : s.releaseStatus r m =
    if ∀ g : Seg, m.getLsbD g.val = true → (s.seg g).hold.holder = some r then .outcome .ok else .notHeld := by
  refine if_congr ?_ rfl rfl
  simp only [List.all_eq_true, mem_setMembers, decide_eq_true_eq]

theorem State.slot_released_of_not {j : SlotId} (h : ¬ (LiveHold s r j ∧ (s.slot j).namedSet &&& m ≠ 0)) :
    (s.released r m).slot j = s.slot j := by
  rw [State.released, State.slot_endHolds_of_notMem _ _ ((s.mem_holdsReleased r m j).not.2 h), State.slot_clearHoldsOf]

theorem State.posted_released (c : Cq) (x : Slot) : (s.released r m).posted c x = s.posted c x := by
  rw [State.posted, State.posted, State.released, State.cq_endHolds (hd := s.holdsReleased_nodup r m), State.cq_clearHoldsOf]

theorem State.slot_released {j : SlotId} {c : Cq} (h : LiveHold s r j) (hn : (s.slot j).namedSet &&& m ≠ 0) (hx : (s.slot j).exchange = none)
    (hc : (s.slot j).cq = some c) :
    (s.released r m).slot j = s.posted c (doneWith (s.slot j) (plainResult (.outcome .aborted) 0 zeroArea)) := by
  have hslot := s.slot_clearHoldsOf r (setMembers m) j
  rw [State.released, State.slot_endHolds_of_mem _ _ (s.holdsReleased_nodup r m) ((s.mem_holdsReleased r m j).2 ⟨h, hn⟩)
    ((State.isLiveHold_congr hslot).2 ⟨h.1, h.2.1⟩) (by rw [hslot, hx]) (by rw [hslot, hc]), hslot, State.posted, State.posted,
    State.cq_clearHoldsOf]

theorem State.queues_released : (s.released r m).queues = s.queues := by
  rw [State.released, State.queues_endHolds, State.clearHoldsOf_eq]

/-- A segment of the ring that is named, or is in the own set of a HOLD that ends, returns to NONE. -/
theorem State.seg_released_pos {k : Seg} (hk : (s.seg k).hold.holder = some r) (h : m.getLsbD k.val = true ∨
    ∃ j, (LiveHold s r j ∧ (s.slot j).namedSet &&& m ≠ 0) ∧ (s.slot j).ownSet.getLsbD k.val = true) :
    (s.released r m).seg k = { s.seg k with hold := .none } := by
  by_cases hm : m.getLsbD k.val = true
  · have hcleared : (s.clearHoldsOf r (setMembers m)).seg k = { s.seg k with hold := .none } :=
      (s.seg_clearHoldsOf_members r m k).trans (if_pos ⟨hm, hk⟩)
    rw [State.released, State.seg_endHolds_neg _ _ (s.holdsReleased_nodup r m), hcleared]
    rintro j - ⟨-, -, q, -, hq⟩
    rw [hcleared] at hq
    nomatch hq
  · have hcleared : (s.clearHoldsOf r (setMembers m)).seg k = s.seg k :=
      (s.seg_clearHoldsOf_members r m k).trans (if_neg fun hc => hm hc.1)
    obtain ⟨j, hj, hown⟩ := h.resolve_left hm
    have hslot := s.slot_clearHoldsOf r (setMembers m) j
    rw [State.released, State.seg_endHolds_pos _ _ (s.holdsReleased_nodup r m) ⟨j, (s.mem_holdsReleased r m j).2 hj,
      (State.isLiveHold_congr hslot).2 ⟨hj.1.1, hj.1.2.1⟩, by rw [hslot, hown], r, by rw [hslot, hj.1.2.2], by rw [hcleared, hk]⟩, hcleared]

theorem State.seg_released_neg {k : Seg} (h : ¬ (m.getLsbD k.val = true ∨
      ∃ j, (LiveHold s r j ∧ (s.slot j).namedSet &&& m ≠ 0) ∧ (s.slot j).ownSet.getLsbD k.val = true) ∨ (s.seg k).hold.holder ≠ some r) :
    (s.released r m).seg k = s.seg k := by
  have hcleared : (s.clearHoldsOf r (setMembers m)).seg k = s.seg k := by
    refine (s.seg_clearHoldsOf_members r m k).trans (if_neg fun hc => ?_)
    exact h.elim (fun h => h (.inl hc.1)) fun h => h hc.2
  rw [State.released, State.seg_endHolds_neg _ _ (s.holdsReleased_nodup r m), hcleared]
  intro j hj hg
  obtain ⟨hl, hn⟩ := (s.mem_holdsReleased r m j).1 hj
  obtain ⟨-, hown, q, hq, hheld⟩ := hg
  rw [State.slot_clearHoldsOf] at hown hq
  cases hl.2.2.symm.trans hq
  rw [hcleared] at hheld
  exact h.elim (fun h => h (.inr ⟨j, ⟨hl, hn⟩, hown⟩)) fun h => h hheld

theorem OnlyWork.released : OnlyWork s (s.released r m) := (OnlyWork.clearHoldsOf s r _).trans (.endHolds _ _)

end

/-! #### Its arrival -/

section
variable {s : State} {f : Fetch} {cfg : RingConfig} {record : Record} {granted : Bool} {m : SegSet} (h : Arriving s f cfg)
  (hr : f.ring ≠ 0) (hk : kindOf record = some .release) (hz : record[7] = 0) (ha : argsOf .release record = some (.release m))
include h

omit h in
/-- The LIVE HOLDs that the arrival finds are those before it. -/
theorem liveHold_accepting {args : OpArgs} (r : Ring) (i : SlotId) :
    LiveHold (s.accepting f cfg record granted args) r i ↔ LiveHold s r i ∧ (s.accepting f cfg record granted args).slot i = s.slot i := by
  constructor
  · intro hl
    have hslot := (State.slot_accepting_of_state record granted args (by rw [hl.1]; nofun) (by rw [hl.1]; nofun)).2
    rw [LiveHold, hslot] at hl
    exact ⟨hl, hslot⟩
  · rintro ⟨hl, hslot⟩
    rwa [LiveHold, hslot]

theorem Arriving.slot_accepting_of_liveHold {args : OpArgs} {r : Ring} {i : SlotId} (hl : LiveHold s r i) :
    i ≠ f.slot ∧ (s.accepting f cfg record granted args).slot i = s.slot i ∧ (s.consumed f cfg.size granted).slot i = s.slot i := by
  have hne := h.ne_of_state (j := i) (by rw [hl.1]; nofun)
  exact ⟨hne, State.slot_accepting record granted args (by rw [hl.1]; nofun) hne, State.slot_consumed _ _ _ _ (by rw [hl.1]; nofun)⟩

theorem Arriving.released_iff {args : OpArgs} (i : SlotId) :
    LiveHold (s.accepting f cfg record granted args) f.ring i ∧ ((s.accepting f cfg record granted args).slot i).namedSet &&& m ≠ 0 ↔
      LiveHold s f.ring i ∧ (s.slot i).namedSet &&& m ≠ 0 := by
  rw [liveHold_accepting]
  constructor
  · rintro ⟨⟨hl, hslot⟩, hn⟩
    exact ⟨hl, by rwa [hslot] at hn⟩
  · rintro ⟨hl, hn⟩
    have hslot := (h.slot_accepting_of_liveHold (record := record) (granted := granted) (args := args) hl).2.1
    exact ⟨⟨hl, hslot⟩, by rwa [hslot]⟩

omit h in
theorem State.seg_accepting (args : OpArgs) (g : Seg) : (s.accepting f cfg record granted args).seg g = s.seg g := State.seg_consumed ..

include hr hk hz ha

theorem Arriving.exec_takeRelease : exec (.fetchComplete ⟨record, granted⟩) s =
    settled ((s.accepting f cfg record granted (.release m)).takeRelease f.slot f.ring m) :=
  h.exec_eq_takeOperation granted hk (decide_eq_true hr) hz ha

theorem Arriving.exec_release (hm : m ≠ 0) : exec (.fetchComplete ⟨record, granted⟩) s =
    settled (((s.accepting f cfg record granted (.release m)).released f.ring m).answered f.slot (answerRing f cfg)
      (doneWith { arrivedSlot s f cfg record with args := some (.release m) } (plainResult (if ∀ g : Seg, m.getLsbD g.val = true →
        (s.seg g).hold.holder = some f.ring then .outcome .ok else .notHeld) 0 zeroArea))) := by
  have hown : ((s.accepting f cfg record granted (.release m)).released f.ring m).slot f.slot =
      { arrivedSlot s f cfg record with args := some (.release m) } := by
    rw [State.slot_released_of_not, State.accepting, State.slot_setSlot_self]
    rintro ⟨hl, -⟩
    exact (h.slot_accepting_of_liveHold (record := record) (granted := granted) (args := .release m)
      ((liveHold_accepting _ _).1 hl).1).1 rfl
  rw [h.exec_takeRelease hr hk hz ha, State.takeRelease_eq _ _ _ _ hm, State.answer_eq (c := answerRing f cfg) _ (by rw [hown]; rfl) (by rw [hown]; exact .inl rfl)
    (by rw [hown]; rfl), hown, State.releaseStatus_eq]
  simp only [State.seg_accepting]

end

theorem State.answered_segs (s : State) (i : SlotId) (c : Cq) (x : Slot) (segs : Vector Segment 8) :
    ({ s with segs := segs } : State).answered i c x = { s.answered i c x with segs := segs } := by
  by_cases h : (s.cq c).state = .active
  · rw [State.answered_pos h, State.answered_pos (s := { s with segs := segs }) h]
    rfl
  · rw [State.answered_neg h, State.answered_neg (s := { s with segs := segs }) h]
    rfl

theorem State.queues_answered (s : State) (i : SlotId) (c : Cq) (x : Slot) : (s.answered i c x).queues = s.queues := by
  rw [State.answered_eq]

/-- Settles O33. -/
theorem releaseReturnsNamedSegments : Obligations.ReleaseReturnsNamedSegments := by
  refine ⟨fun s f cfg record granted m h hi hr hk hz ha hnone => ?_, fun s f cfg record granted m h hi hr hk hz ha hm => ?_⟩
  · intro x
    refine ⟨fun hm => ?_, fun hm => ?_⟩
    · rw [h.exec_takeRelease hr hk hz ha, State.takeRelease, if_pos hm]
      exact Arriving.refuse hi record granted .badRequest _
    · obtain ⟨status, hstatus⟩ : ∃ status : Status, status = if ∀ g : Seg, m.getLsbD g.val = true → (s.seg g).hold.holder = some f.ring
          then .outcome .ok else .notHeld := ⟨_, rfl⟩
      have hexec := h.exec_release (granted := granted) hr hk hz ha hm
      rw [← hstatus] at hexec ⊢
      obtain ⟨v, hv⟩ : ∃ v, v = s.accepting f cfg record granted (.release m) := ⟨_, rfl⟩
      obtain ⟨z, hz'⟩ : ∃ z, z = doneWith { x with args := some (.release m) } (plainResult status 0 zeroArea) := ⟨_, rfl⟩
      have hnil : v.holdsReleased f.ring m = [] := List.eq_nil_iff_forall_not_mem.2 fun i hi => by
        rw [hv] at hi
        obtain ⟨hl, hn⟩ := (h.released_iff i).1 ((State.mem_holdsReleased _ _ _ i).1 hi)
        exact hn (hnone i hl.1 hl.2.1 hl.2.2)
      have hreleased : v.released f.ring m = v.clearHoldsOf f.ring (setMembers m) := by
        rw [State.released, hnil]
        rfl
      rw [← hv, ← hz', hreleased] at hexec
      rw [← hz']
      refine ⟨_, hexec, ?_, fun g => ?_, State.refreshIdle_follows _⟩
      · rw [State.clearHoldsOf_eq, State.answered_segs, hv, State.accepting, State.setSlot_answered]
        rfl
      · rw [State.seg_refreshIdle, State.seg_answered, State.seg_clearHoldsOf_members, hv, State.seg_accepting]
        split <;> rfl
  · intro u ended hexchange
    obtain ⟨status, hstatus⟩ : ∃ status : Status, status = if ∀ g : Seg, m.getLsbD g.val = true → (s.seg g).hold.holder = some f.ring
        then .outcome .ok else .notHeld := ⟨_, rfl⟩
    have hexec := h.exec_release (granted := granted) hr hk hz ha hm
    rw [← hstatus] at hexec ⊢
    obtain ⟨v, hv⟩ : ∃ v, v = s.accepting f cfg record granted (.release m) := ⟨_, rfl⟩
    obtain ⟨z, hz'⟩ : ∃ z, z = doneWith { arrivedSlot s f cfg record with args := some (.release m) } (plainResult status 0 zeroArea) := ⟨_, rfl⟩
    rw [← hv, ← hz'] at hexec
    rw [← hz']
    have hended (i : SlotId) : LiveHold v f.ring i ∧ (v.slot i).namedSet &&& m ≠ 0 ↔ ended i := by
      rw [hv]
      exact h.released_iff i
    have hposted (c : Cq) (y : Slot) : (v.released f.ring m).posted c y = u.posted c y := by
      rw [State.posted_released, hv]
      rfl
    have hseg (g : Seg) : v.seg g = s.seg g := by rw [hv, State.seg_accepting]
    have hslot (i : SlotId) (hi : i ≠ f.slot) : v.slot i = u.slot i := by
      rw [hv, State.accepting, State.slot_setSlot, if_neg (Ne.symm hi)]
    have hheld (i : SlotId) (he : ended i) : i ≠ f.slot ∧ v.slot i = s.slot i := by
      rw [hv]
      obtain ⟨hne, hs, -⟩ := h.slot_accepting_of_liveHold (record := record) (granted := granted) (args := .release m) he.1
      exact ⟨hne, hs⟩
    have hwork : OnlyWork u v := by
      rw [hv]
      exact .setSlot u _ _
    have hanswered (i : SlotId) (hi : i ≠ f.slot) : ((v.released f.ring m).answered f.slot (answerRing f cfg) z).refreshIdle.slot i =
        (v.released f.ring m).slot i := by
      rw [State.slot_refreshIdle, State.slot_answered, if_neg (Ne.symm hi)]
    have hnamed (g : Seg) : (m.getLsbD g.val = true ∨ ∃ j, (LiveHold v f.ring j ∧ (v.slot j).namedSet &&& m ≠ 0) ∧
        (v.slot j).ownSet.getLsbD g.val = true) ↔ m.getLsbD g.val = true ∨ ∃ j, ended j ∧ (s.slot j).ownSet.getLsbD g.val = true := by
      refine or_congr_right (exists_congr fun j => ?_)
      rw [hended]
      exact and_congr_right fun he => by rw [(hheld j he).2]
    refine ⟨_, hexec, State.refreshIdle_follows _, ((hwork.trans (.released v _ _)).trans (.answered _ _ _ _)).trans (.refreshIdle _), ?_, ?_,
      fun i c he hc => ?_, fun i hne he => ?_, fun g => ⟨fun hg hr => ?_, fun hg => ?_⟩⟩
    · change ((v.released f.ring m).answered f.slot (answerRing f cfg) z).queues = _
      rw [State.queues_answered, State.queues_released, hv]
      rfl
    · rw [State.slot_refreshIdle, State.slot_answered, if_pos rfl]
      exact hposted _ z
    · obtain ⟨hl, hn⟩ := (hended i).2 he
      obtain ⟨hne, hs⟩ := hheld i he
      rw [hanswered i hne, State.slot_released v _ _ hl hn (by rw [hs, hexchange i he]) (by rw [hs, hc]), hs, ← hposted, State.posted_released]
    · rw [hanswered i hne, State.slot_released_of_not v _ _ ((hended i).not.2 he), hslot i hne]
    · rw [State.seg_refreshIdle, State.seg_answered,
        State.seg_released_pos v _ _ (by rw [hseg, hr]) ((hnamed g).2 hg), hseg]
    · rw [State.seg_refreshIdle, State.seg_answered,
        State.seg_released_neg v _ _ (by rw [hnamed g, hseg]; exact hg), hseg]

end Sys2Proof.Machine
end

/-! ### HOLD (R107, R108) -/

section
namespace Sys2Proof.Machine

/-! #### One segment of the set -/

theorem getLsbD_setWith (m : SegSet) (g k : Seg) : (setWith m g).getLsbD k.val = true ↔ m.getLsbD k.val = true ∨ k = g := by
  rw [setWith, BitVec.getLsbD_or, BitVec.getLsbD_twoPow, Bool.or_eq_true, Bool.and_eq_true, decide_eq_true_eq, decide_eq_true_eq]
  exact or_congr_right ⟨fun h => Fin.ext h.2.symm, fun h => ⟨g.isLt, by rw [h]⟩⟩

/-- Segment record `x` once a HOLD of ring `r` in slot `i` has acted on it (R108): held back by a frame where `back`. -/
def Segment.taken (x : Segment) (i : SlotId) (r : Ring) (back : Bool) (limit : Half) : Segment :=
  if x.hold = .none then { x with hold := if back then .draining r i else .held r limit } else x

/-- The sets of a HOLD once it has acted on segment `g` with record `x` (R108). -/
def HoldProgress.taking (p : HoldProgress) (x : Segment) (g : Seg) (back : Bool) : HoldProgress where
  own := if x.hold = .none then setWith p.own g else p.own
  granted := if x.hold = .none ∧ back = true then p.granted else setWith p.granted g

/-- The HOLD in slot `i` has recorded the sets `p`. -/
def State.holding (s : State) (i : SlotId) (p : HoldProgress) : State := s.setSlot i { s.slot i with progress := some (.hold p) }

section
variable {s : State} {i : SlotId} {r : Ring} {g : Seg} {p : HoldProgress}

theorem State.joinHoldSets_eq (hp : (s.slot i).progress = some (.hold p)) (own granted : Bool) : s.joinHoldSets i g own granted =
    s.holding i { own := if own then setWith p.own g else p.own, granted := if granted then setWith p.granted g else p.granted } := by
  rw [State.joinHoldSets, State.modSlot_eq, Slot.ownSet, Slot.grantedSet, hp]
  rfl

theorem State.holdSegment_eq (hp : (s.slot i).progress = some (.hold p)) (hd : ∀ j, (s.seg g).hold ≠ .draining r j)
    (hr : ∀ q, (s.seg g).hold.holder = some q → q = r) : s.holdSegment i r g =
      (s.setSeg g ((s.seg g).taken i r (s.heldBackFrom g r) s.holdLimit)).holding i (p.taking (s.seg g) g (s.heldBackFrom g r)) := by
  unfold State.holdSegment Segment.taken HoldProgress.taking
  cases hh : (s.seg g).hold with
  | none =>
    simp only [if_true, true_and]
    split
    · next hb =>
      rw [State.modSeg_eq, State.joinHoldSets_eq (s := s.setSeg g _) hp]
      simp
    · next hb =>
      rw [State.grantHold, State.modSeg_eq, State.joinHoldSets_eq (s := s.setSeg g _) hp]
      simp
  | draining q j =>
    cases hr q (by rw [hh]; rfl)
    exact absurd hh (hd j)
  | held q ms =>
    rw [State.joinHoldSets_eq hp]
    simp [State.setSeg_self]

theorem HoldProgress.own_taking (x : Segment) (back : Bool) (k : Seg) :
    (p.taking x g back).own.getLsbD k.val = true ↔ p.own.getLsbD k.val = true ∨ k = g ∧ x.hold = .none := by
  unfold HoldProgress.taking
  by_cases h : x.hold = .none
  · simp only [h, if_true, and_true, getLsbD_setWith]
  · simp only [h, if_false, and_false, or_false]

theorem HoldProgress.granted_taking (x : Segment) (back : Bool) (k : Seg) : (p.taking x g back).granted.getLsbD k.val = true ↔
    p.granted.getLsbD k.val = true ∨ k = g ∧ (x.hold = .none → ¬ back = true) := by
  unfold HoldProgress.taking
  by_cases h : x.hold = .none ∧ back = true
  · simp only [h, and_self, if_true, forall_const, not_true, and_false, or_false]
  · rw [if_neg h, getLsbD_setWith]
    exact or_congr_right ⟨fun hk => ⟨hk, fun hx hb => h ⟨hx, hb⟩⟩, And.left⟩

theorem Segment.frame_taken (x : Segment) (back : Bool) (limit : Half) : (x.taken i r back limit).frame = x.frame := by
  unfold Segment.taken
  split <;> rfl

/-- Acting on one segment leaves what holds the others back. -/
theorem State.heldBackFrom_congr {t : State} {k : Seg} (hf : (t.seg k).frame = (s.seg k).frame)
    (hs : ∀ j, (t.slot j).ring = (s.slot j).ring) : t.heldBackFrom k r = s.heldBackFrom k r := by
  unfold State.heldBackFrom
  rw [hf]
  simp only [hs]

end

/-! #### The whole set -/

/-- Once a HOLD has acted on the segments `gs`: its sets are `q`, and the segments have been taken. -/
structure HoldTaken (s t : State) (i : SlotId) (r : Ring) (gs : List Seg) (p q : HoldProgress) : Prop where
  rest : t = { s.holding i q with segs := t.segs }
  own (k : Seg) : q.own.getLsbD k.val = true ↔ p.own.getLsbD k.val = true ∨ k ∈ gs ∧ (s.seg k).hold = .none
  granted (k : Seg) : q.granted.getLsbD k.val = true ↔ p.granted.getLsbD k.val = true ∨
    k ∈ gs ∧ ((s.seg k).hold = .none → ¬ s.heldBackFrom k r = true)
  seg (k : Seg) : t.seg k = if k ∈ gs then (s.seg k).taken i r (s.heldBackFrom k r) s.holdLimit else s.seg k

/-- What holds of the head or of a member of the rest holds of a member. -/
theorem mem_cons_and_congr {α : Type} {g k : α} {gs : List α} (hg : g ∉ gs) (P : α → Prop) {Q : Prop} (h : k ∈ gs → (Q ↔ P k)) :
    (k = g ∧ P g ∨ k ∈ gs ∧ Q) ↔ k ∈ g :: gs ∧ P k := by
  rw [List.mem_cons]
  by_cases hk : k = g
  · subst hk
    simp only [true_and, hg, false_and, or_false]
  · simp only [hk, false_and, false_or]
    exact and_congr_right h

theorem holdTaken_foldl {i : SlotId} {r : Ring} {gs : List Seg} (hgs : gs.Nodup) {s : State} {p : HoldProgress}
    (hp : (s.slot i).progress = some (.hold p)) (hd : ∀ g ∈ gs, (s.seg g).hold = .none ∨ ∃ ms, (s.seg g).hold = .held r ms) :
    ∃ q, HoldTaken s (gs.foldl (fun s g => s.holdSegment i r g) s) i r gs p q := by
  induction gs generalizing s p with
  | nil =>
    refine ⟨p, ?_, by simp, by simp, by simp⟩
    rw [State.holding, ← hp]
    exact (State.setSlot_self s i).symm
  | cons g gs ih =>
    rw [List.nodup_cons] at hgs
    have hheld := hd g (List.mem_cons_self ..)
    obtain ⟨p', hp'⟩ : ∃ p', p' = p.taking (s.seg g) g (s.heldBackFrom g r) := ⟨_, rfl⟩
    obtain ⟨w, hw⟩ : ∃ w, w = (s.setSeg g ((s.seg g).taken i r (s.heldBackFrom g r) s.holdLimit)).holding i p' := ⟨_, rfl⟩
    have hstep : s.holdSegment i r g = w := by
      rw [hw, hp']
      refine State.holdSegment_eq hp (fun j hj => ?_) fun q hq => ?_
      · rcases hheld with h | ⟨ms, h⟩ <;> rw [h] at hj <;> nomatch hj
      · rcases hheld with h | ⟨ms, h⟩ <;> rw [h] at hq <;> cases hq
        rfl
    have hslot (j : SlotId) : w.slot j = if i = j then { s.slot i with progress := some (.hold p') } else s.slot j := by
      rw [hw]
      exact State.slot_setSlot _ _ _ _
    have hseg (k : Seg) : w.seg k = if g = k then (s.seg g).taken i r (s.heldBackFrom g r) s.holdLimit else s.seg k := by
      rw [hw]
      exact State.seg_setSeg _ _ _ _
    have hother (k : Seg) (hk : k ∈ gs) : w.seg k = s.seg k := by
      rw [hseg, if_neg]
      rintro rfl
      exact hgs.1 hk
    have hback (k : Seg) : w.heldBackFrom k r = s.heldBackFrom k r := by
      refine State.heldBackFrom_congr ?_ fun j => ?_
      · rw [hseg]
        split
        · next h => rw [Segment.frame_taken, h]
        · rfl
      · rw [hslot]
        split
        · next h => rw [← h]
        · rfl
    have hlimit : w.holdLimit = s.holdLimit := by rw [hw]; rfl
    obtain ⟨q, hq⟩ := ih hgs.2 (s := w) (p := p') (by rw [hslot, if_pos rfl]) fun k hk => by
      rw [hother k hk]
      exact hd k (List.mem_cons_of_mem _ hk)
    rw [List.foldl_cons, hstep]
    refine ⟨q, ?_, fun k => ?_, fun k => ?_, fun k => ?_⟩
    · refine hq.rest.trans ?_
      rw [State.holding, hslot, if_pos rfl, hw, State.holding, State.setSlot_setSlot]
      rfl
    · rw [hq.own, hp', HoldProgress.own_taking, or_assoc]
      refine or_congr_right (mem_cons_and_congr hgs.1 (fun k => (s.seg k).hold = .none) fun hk => ?_)
      rw [hother k hk]
    · rw [hq.granted, hp', HoldProgress.granted_taking, or_assoc]
      refine or_congr_right (mem_cons_and_congr hgs.1 (fun k => (s.seg k).hold = .none → ¬ s.heldBackFrom k r = true) fun hk => ?_)
      rw [hother k hk, hback]
    · rw [hq.seg, hback, hlimit]
      by_cases hk : k ∈ gs
      · rw [if_pos hk, if_pos (List.mem_cons_of_mem _ hk), hother k hk]
      · rw [if_neg hk, hseg]
        by_cases hg : g = k
        · rw [if_pos hg, if_pos (by rw [hg]; exact List.mem_cons_self ..), hg]
        · rw [if_neg hg, if_neg fun h => hk ((List.mem_cons.1 h).resolve_left (Ne.symm hg))]

end Sys2Proof.Machine
end

/-! ### The arrival of a HOLD (R107, R108) -/

section
namespace Sys2Proof.Machine

/-! #### The checks of R107 -/

theorem Hold.isDraining_iff (h : Hold) : h.isDraining = true ↔ ∃ q i, h = .draining q i := by
  cases h <;> simp [Hold.isDraining]

/-- The segment is FAULTED. -/
def LineState.isFaulted : LineState → Bool
  | .faulted _ => true
  | _ => false

theorem LineState.isFaulted_iff (l : LineState) : l.isFaulted = true ↔ ∃ why, l = .faulted why := by
  cases l <;> simp [LineState.isFaulted]

theorem all_setMembers_eq_false (m : SegSet) (p : Seg → Bool) :
    (setMembers m).all p = false ↔ ∃ g : Seg, m.getLsbD g.val = true ∧ p g = false := by
  simp only [List.all_eq_false, mem_setMembers, Bool.not_eq_true]

/-- The checks of R107 in their order, each by what fails it. -/
theorem State.firstFailure_holdChecks (s : State) (r : Ring) (m : SegSet) : firstFailure (s.holdChecks r m) =
    if m = 0 then some .badRequest
    else if ∃ g : Seg, m.getLsbD g.val = true ∧ (s.seg g).hold.holder ≠ none ∧ (s.seg g).hold.holder ≠ some r then some .conflict
    else if ∃ g : Seg, m.getLsbD g.val = true ∧ (s.seg g).hold.isDraining = true then some .busy
    else if ∃ g : Seg, m.getLsbD g.val = true ∧ (s.seg g).lineState = .off then some (.outcome .segmentOff)
    else if ∃ g : Seg, m.getLsbD g.val = true ∧ (s.seg g).lineState.isFaulted = true then some (.outcome .segmentFault)
    else none := by
  rw [State.holdChecks, firstFailure_cons, firstFailure_cons, firstFailure_cons, firstFailure_cons, firstFailure_cons]
  refine if_congr (by simp) rfl (if_congr ?_ rfl (if_congr ?_ rfl (if_congr ?_ rfl (if_congr ?_ rfl rfl))))
  · rw [all_setMembers_eq_false]
    simp [Option.isSome_iff_ne_none]
  · rw [all_setMembers_eq_false]
    refine exists_congr fun g => and_congr_right fun _ => ?_
    cases (s.seg g).hold <;> simp [Hold.isDraining]
  · rw [all_setMembers_eq_false]
    simp
  · rw [all_setMembers_eq_false]
    refine exists_congr fun g => and_congr_right fun _ => ?_
    cases (s.seg g).lineState <;> simp [LineState.isFaulted]

/-- A set of usable segments, each free or the ring's, passes (R107). -/
theorem State.holdChecks_passed {s : State} {r : Ring} {m : SegSet} (hm : m ≠ 0) (h : ∀ g : Seg, m.getLsbD g.val = true →
    (s.seg g).lineState ∈ ([.syncing, .active, .dormant, .waking] : List LineState) ∧
      ((s.seg g).hold = .none ∨ ∃ ms, (s.seg g).hold = .held r ms)) : firstFailure (s.holdChecks r m) = none := by
  rw [State.firstFailure_holdChecks, if_neg hm, if_neg, if_neg, if_neg, if_neg]
  · rintro ⟨g, hg, hf⟩
    obtain ⟨why, hf⟩ := (LineState.isFaulted_iff _).1 hf
    simpa [hf] using (h g hg).1
  · rintro ⟨g, hg, hf⟩
    simpa [hf] using (h g hg).1
  · rintro ⟨g, hg, hf⟩
    rcases (h g hg).2 with e | ⟨ms, e⟩ <;> rw [e] at hf <;> nomatch hf
  · rintro ⟨g, hg, hnone, hr⟩
    rcases (h g hg).2 with e | ⟨ms, e⟩
    · exact hnone (by rw [e]; rfl)
    · exact hr (by rw [e]; rfl)

/-! #### Its acceptance -/

theorem State.heldBackFrom_iff (s : State) (g : Seg) (r : Ring) : s.heldBackFrom g r = true ↔ ∃ fr, (s.seg g).frame = some fr ∧
    ((∃ o, fr.carrier = .dormancy o) ∨ ∃ i, fr.carrier = .exchange i ∧ (s.slot i).ring ≠ some r) := by
  unfold State.heldBackFrom
  cases (s.seg g).frame with
  | none => simp
  | some fr =>
    simp only [Option.some.injEq, exists_eq_left']
    cases fr.carrier <;> simp

/-- The slot of a HOLD with its two sets recorded. -/
def holdSlot (s : State) (f : Fetch) (cfg : RingConfig) (record : Record) (m : SegSet) (q : HoldProgress) : Slot :=
  { arrivedSlot s f cfg record with args := some (.hold m), progress := some (.hold q) }

section
variable {s : State} {f : Fetch} {cfg : RingConfig} {record : Record} {granted : Bool} {m : SegSet} (h : Arriving s f cfg)
  (hr : f.ring ≠ 0) (hk : kindOf record = some .hold) (hz : record[7] = 0) (ha : argsOf .hold record = some (.hold m))
include h hr hk hz ha

theorem Arriving.exec_takeHold : exec (.fetchComplete ⟨record, granted⟩) s =
    settled ((s.accepting f cfg record granted (.hold m)).takeHold f.slot f.ring m) :=
  h.exec_eq_takeOperation granted hk (decide_eq_true hr) hz ha

/-- A HOLD that passes R107: its sets, the segments it takes, and its answer where all are granted (R108). -/
theorem Arriving.exec_hold (hm : m ≠ 0) (hfree : ∀ g : Seg, m.getLsbD g.val = true →
    (s.seg g).lineState ∈ ([.syncing, .active, .dormant, .waking] : List LineState) ∧
      ((s.seg g).hold = .none ∨ ∃ ms, (s.seg g).hold = .held f.ring ms)) :
    ∃ (q : HoldProgress) (w : State), (∀ k : Seg, q.own.getLsbD k.val = true ↔ m.getLsbD k.val = true ∧ (s.seg k).hold = .none) ∧
      (∀ k : Seg, q.granted.getLsbD k.val = true ↔ m.getLsbD k.val = true ∧
        ((s.seg k).hold = .none → ¬ (s.consumed f cfg.size granted).heldBackFrom k f.ring = true)) ∧
      (∀ k : Seg, w.seg k = if m.getLsbD k.val = true then
        (s.seg k).taken f.slot f.ring ((s.consumed f cfg.size granted).heldBackFrom k f.ring) s.holdLimit else s.seg k) ∧
      w = { (s.consumed f cfg.size granted).setSlot f.slot { holdSlot s f cfg record m q with state := .live } with segs := w.segs } ∧
      exec (.fetchComplete ⟨record, granted⟩) s = settled (if q.granted = m then
        w.answered f.slot (answerRing f cfg) (doneWith (holdSlot s f cfg record m q) (plainResult (.outcome .ok) 0 zeroArea)) else w) := by
  obtain ⟨u, hu⟩ : ∃ u, u = s.consumed f cfg.size granted := ⟨_, rfl⟩
  obtain ⟨v, hv⟩ : ∃ v, v = u.setSlot f.slot { holdSlot s f cfg record m ⟨0, 0⟩ with state := .live } := ⟨_, rfl⟩
  have hslot (j : SlotId) : v.slot j = if f.slot = j then { holdSlot s f cfg record m ⟨0, 0⟩ with state := .live } else u.slot j := by
    rw [hv, State.slot_setSlot]
  have hseg (k : Seg) : v.seg k = s.seg k := by
    rw [hv, hu]
    exact State.seg_consumed s f cfg.size granted k
  have hback (k : Seg) : v.heldBackFrom k f.ring = u.heldBackFrom k f.ring := by
    refine State.heldBackFrom_congr (by rw [hv]; rfl) fun j => ?_
    rw [hslot]
    split
    · next e =>
      rw [← e, hu, h.slot_consumed]
      rfl
    · rfl
  have hlimit : v.holdLimit = s.holdLimit := by
    rw [hv, hu, State.consumed, State.grantIf_eq]
    rfl
  obtain ⟨q, hq⟩ := holdTaken_foldl (i := f.slot) (r := f.ring) ((List.nodup_finRange 8).filter fun g => inSet m g) (s := v) (p := ⟨0, 0⟩)
    (by rw [hslot, if_pos rfl]; rfl) fun g hg => by
      rw [hseg]
      exact (hfree g ((mem_setMembers m g).1 hg)).2
  obtain ⟨w, hw⟩ : ∃ w, w = (setMembers m).foldl (fun s g => s.holdSegment f.slot f.ring g) v := ⟨_, rfl⟩
  change HoldTaken v ((setMembers m).foldl (fun s g => s.holdSegment f.slot f.ring g) v) f.slot f.ring (setMembers m) ⟨0, 0⟩ q at hq
  rw [← hw] at hq
  have hrest : w = { u.setSlot f.slot { holdSlot s f cfg record m q with state := .live } with segs := w.segs } := by
    refine hq.rest.trans ?_
    rw [State.holding, hslot, if_pos rfl, hv, State.setSlot_setSlot]
    rfl
  have hown : w.slot f.slot = { holdSlot s f cfg record m q with state := .live } := by
    rw [hrest]
    exact State.slot_setSlot_self _ _ _
  refine ⟨q, w, fun k => ?_, fun k => ?_, fun k => ?_, by rw [← hu]; exact hrest, ?_⟩
  · rw [hq.own, mem_setMembers, hseg]
    simp
  · rw [hq.granted, mem_setMembers, hseg, hback, hu]
    simp
  · rw [hq.seg, hseg, hback, hlimit, hu]
    exact if_congr (mem_setMembers m k) rfl rfl
  · have hchecks : firstFailure ((s.accepting f cfg record granted (.hold m)).holdChecks f.ring m) = none := by
      refine State.holdChecks_passed hm fun g hg => ?_
      rw [State.seg_accepting]
      exact hfree g hg
    have hstart : (s.accepting f cfg record granted (.hold m)).modSlot f.slot
        (fun t => { t with state := .live, progress := some (.hold { own := 0, granted := 0 }) }) = v := by
      rw [State.modSlot_eq, State.accepting, State.slot_setSlot_self, State.setSlot_setSlot, hv, hu]
      rfl
    rw [h.exec_takeHold hr hk hz ha, State.takeHold, hchecks]
    simp only [hstart]
    rw [← hw, State.checkHoldGranted, hown]
    refine congrArg settled (if_congr Iff.rfl ?_ rfl)
    rw [State.answer_eq (c := answerRing f cfg) _ (by rw [hown]; rfl) (by rw [hown]; exact .inr rfl) (by rw [hown]; rfl), hown]
    rfl

end

end Sys2Proof.Machine
end

/-! ### HOLD settled (R107, R108) -/

section
namespace Sys2Proof.Machine

theorem Segment.taken_of_ne (x : Segment) (i : SlotId) (r : Ring) (back : Bool) (limit : Half) (h : x.hold ≠ .none) :
    x.taken i r back limit = x := if_neg h

theorem Segment.taken_of_none (x : Segment) (i : SlotId) (r : Ring) (back : Bool) (limit : Half) (h : x.hold = .none) :
    x.taken i r back limit = { x with hold := if back then .draining r i else .held r limit } := if_pos h

/-- A segment just taken has its idle timer stopped (R89). -/
theorem Segment.idleTimerFor_taken (x : Segment) (i : SlotId) (r : Ring) (back : Bool) (limit : Half) (h : x.hold = .none) (l : List SlotId) :
    (x.taken i r back limit).idleTimerFor l = .stopped := by
  rw [x.taken_of_none i r back limit h]
  refine Segment.idleTimerFor_of_held ?_ l
  cases back <;> nofun

/-- The state once the HOLD has recorded its sets, answered where all are granted. -/
def State.holdState (u : State) (s : State) (f : Fetch) (cfg : RingConfig) (record : Record) (m : SegSet) (q : HoldProgress) : State :=
  if q.granted = m then
    u.answered f.slot (answerRing f cfg) (doneWith (holdSlot s f cfg record m q) (plainResult (.outcome .ok) 0 zeroArea))
  else u.setSlot f.slot { holdSlot s f cfg record m q with state := .live }

theorem State.holdState_of_granted (u s : State) (f : Fetch) (cfg : RingConfig) (record : Record) {m : SegSet} {q : HoldProgress}
    (h : q.granted = m) : u.holdState s f cfg record m q =
      u.answered f.slot (answerRing f cfg) (doneWith (holdSlot s f cfg record m q) (plainResult (.outcome .ok) 0 zeroArea)) := if_pos h

theorem State.holdState_of_waiting (u s : State) (f : Fetch) (cfg : RingConfig) (record : Record) {m : SegSet} {q : HoldProgress}
    (h : q.granted ≠ m) : u.holdState s f cfg record m q = u.setSlot f.slot { holdSlot s f cfg record m q with state := .live } := if_neg h

theorem State.seg_holdState (u s : State) (f : Fetch) (cfg : RingConfig) (record : Record) (m : SegSet) (q : HoldProgress) (k : Seg) :
    (u.holdState s f cfg record m q).seg k = u.seg k := by
  unfold State.holdState
  split
  · exact State.seg_answered _ _ _ _ _
  · rfl

theorem IdleTimersFollow.holdState {u : State} (hu : IdleTimersFollow u) (s : State) (f : Fetch) (cfg : RingConfig) (record : Record)
    (m : SegSet) (q : HoldProgress) : IdleTimersFollow (u.holdState s f cfg record m q) := by
  unfold State.holdState
  split
  · exact hu.answered _ _ _
  · exact hu.setSlot _ _

/-- A HOLD that passes R107 records its sets, takes its segments and is answered where all are granted (R108). -/
theorem Arriving.takes_hold {s : State} {f : Fetch} {cfg : RingConfig} {record : Record} (granted : Bool) {m : SegSet} (h : Arriving s f cfg)
    (hr : f.ring ≠ 0) (hk : kindOf record = some .hold) (hz : record[7] = 0) (ha : argsOf .hold record = some (.hold m)) (hm : m ≠ 0)
    {q : HoldProgress} (hfree : ∀ g : Seg, m.getLsbD g.val = true →
      (s.seg g).lineState ∈ ([.syncing, .active, .dormant, .waking] : List LineState) ∧
        ((s.seg g).hold = .none ∨ ∃ ms, (s.seg g).hold = .held f.ring ms))
    (hown : ∀ g : Seg, q.own.getLsbD g.val = true ↔ m.getLsbD g.val = true ∧ (s.seg g).hold = .none)
    (hgranted : ∀ g : Seg, q.granted.getLsbD g.val = true ↔ m.getLsbD g.val = true ∧
      ((s.seg g).hold = .none → ¬ (s.consumed f cfg.size granted).heldBackFrom g f.ring = true)) :
    ∃ t, exec (.fetchComplete ⟨record, granted⟩) s = .next t ∧ IdleTimersFollow t ∧
      t = { (s.consumed f cfg.size granted).holdState s f cfg record m q with segs := t.segs } ∧
      ∀ g : Seg,
        (q.own.getLsbD g.val = false → t.seg g = { s.seg g with idleTimer := (t.seg g).idleTimer }) ∧
        (q.own.getLsbD g.val = true → t.seg g = { s.seg g with
          hold := if (s.consumed f cfg.size granted).heldBackFrom g f.ring then .draining f.ring f.slot else .held f.ring s.holdLimit
          idleTimer := .stopped }) := by
  obtain ⟨q', w, hown', hgranted', hseg, hw, hexec⟩ := h.exec_hold (granted := granted) hr hk hz ha hm hfree
  have hq : q' = q := by
    have hsets (a b : SegSet) (hab : ∀ g : Seg, a.getLsbD g.val = true ↔ b.getLsbD g.val = true) : a = b :=
      BitVec.eq_of_getLsbD_eq fun i hi => Bool.eq_iff_iff.2 (hab ⟨i, hi⟩)
    obtain ⟨a, b⟩ := q'
    obtain ⟨c, d⟩ := q
    rw [hsets a c fun g => (hown' g).trans (hown g).symm, hsets b d fun g => (hgranted' g).trans (hgranted g).symm]
  subst hq
  obtain ⟨u, hu⟩ : ∃ u, u = s.consumed f cfg.size granted := ⟨_, rfl⟩
  rw [← hu] at hseg hw ⊢
  obtain ⟨x, hx⟩ : ∃ x, x = if q'.granted = m then
      w.answered f.slot (answerRing f cfg) (doneWith (holdSlot s f cfg record m q') (plainResult (.outcome .ok) 0 zeroArea)) else w := ⟨_, rfl⟩
  rw [← hx] at hexec
  have hstate : x = { u.holdState s f cfg record m q' with segs := w.segs } := by
    rw [hx, State.holdState]
    split
    · rw [hw, State.answered_segs, State.setSlot_answered]
    · exact hw
  have hxseg (k : Seg) : x.seg k = w.seg k := by rw [hstate]; rfl
  refine ⟨x.refreshIdle, hexec, State.refreshIdle_follows x, by rw [hstate]; rfl, fun g => ⟨fun hno => ?_, fun hyes => ?_⟩⟩
  · have hsame : w.seg g = s.seg g := by
      rw [hseg]
      split
      · next hmem => exact Segment.taken_of_ne _ _ _ _ _ fun hnone => by rw [(hown g).2 ⟨hmem, hnone⟩] at hno; nomatch hno
      · rfl
    rw [State.seg_refreshIdle, hxseg, hsame]
  · obtain ⟨hmem, hnone⟩ := (hown g).1 hyes
    rw [State.seg_refreshIdle, hxseg, hseg, if_pos hmem, Segment.idleTimerFor_taken _ _ _ _ _ hnone, Segment.taken_of_none _ _ _ _ _ hnone]

theorem getLsbD_singleton (g k : Seg) : (BitVec.twoPow 8 g.val).getLsbD k.val = true ↔ k = g := by
  rw [BitVec.getLsbD_twoPow, Bool.and_eq_true, decide_eq_true_eq, decide_eq_true_eq]
  exact ⟨fun e => Fin.ext e.2.symm, fun e => ⟨g.isLt, by rw [e]⟩⟩

/-- A HOLD of one usable segment that no ring holds (R108). -/
theorem Arriving.takes_holdOfOne {s : State} {f : Fetch} {cfg : RingConfig} {record : Record} (granted : Bool) {g : Seg} {m : SegSet}
    (h : Arriving s f cfg) (hi : IdleTimersFollow s) (hr : f.ring ≠ 0) (hk : kindOf record = some .hold) (hz : record[7] = 0)
    (ha : argsOf .hold record = some (.hold m)) (hm : m = BitVec.twoPow 8 g.val) (hhold : (s.seg g).hold = .none)
    (hline : (s.seg g).lineState ∈ ([.syncing, .active, .dormant, .waking] : List LineState)) (back : Bool)
    (hback : back = (s.consumed f cfg.size granted).heldBackFrom g f.ring) :
    exec (.fetchComplete ⟨record, granted⟩) s = .next
      (((s.consumed f cfg.size granted).holdState s f cfg record m ⟨m, if back then 0 else m⟩).setSeg g { s.seg g with
        hold := if back then .draining f.ring f.slot else .held f.ring s.holdLimit, idleTimer := .stopped }) := by
  have hmem (k : Seg) : m.getLsbD k.val = true ↔ k = g := by rw [hm, getLsbD_singleton]
  have hne : m ≠ 0 := fun e => by simpa [e] using (hmem g).2 rfl
  obtain ⟨t, hexec, hfollow, ht, hsegs⟩ := h.takes_hold granted hr hk hz ha hne (q := ⟨m, if back then 0 else m⟩)
    (fun k hk' => by rw [(hmem k).1 hk']; exact ⟨hline, .inl hhold⟩)
    (fun k => ⟨fun hk' => ⟨hk', by rw [(hmem k).1 hk', hhold]⟩, And.left⟩) fun k => by
      by_cases hkg : k = g
      · subst hkg
        rw [← hback]
        cases back <;> simp [hhold]
      · have hno : ¬ m.getLsbD k.val = true := (hmem k).not.2 hkg
        refine ⟨fun hc => absurd ?_ hno, fun hc => absurd hc.1 hno⟩
        cases back with
        | true => simp at hc
        | false => exact hc
  obtain ⟨y, hy⟩ : ∃ y : Segment, y = { s.seg g with
      hold := if back then .draining f.ring f.slot else .held f.ring s.holdLimit, idleTimer := .stopped } := ⟨_, rfl⟩
  obtain ⟨u, hu⟩ : ∃ u, u = (s.consumed f cfg.size granted).holdState s f cfg record m ⟨m, if back then 0 else m⟩ := ⟨_, rfl⟩
  have huseg (k : Seg) : u.seg k = s.seg k := by rw [hu, State.seg_holdState, State.seg_consumed]
  have hufollow : IdleTimersFollow u := by
    rw [hu]
    exact (hi.consumed f cfg.size granted).holdState s f cfg record m _
  have htg : t.seg g = y := by rw [hy, hback]; exact (hsegs g).2 ((hmem g).2 rfl)
  rw [← hu] at ht
  rw [hexec, ← hy, ← hu]
  have hytimer : IdleTimersFollow (u.setSeg g y) := by
    refine hufollow.setSeg ?_
    have hyh : y.hold ≠ .none := by
      rw [hy]
      cases back <;> nofun
    rw [Segment.idleTimerFor_of_held hyh, hy]
  have heq : (u.setSeg g y).refreshIdle = t := by
    refine State.refreshIdle_eq hfollow ht fun k => ?_
    rw [State.seg_setSeg]
    split
    · next e => rw [← e, htg]
    · next e =>
      rw [huseg]
      exact (hsegs k).1 (Bool.not_eq_true _ ▸ (hmem k).not.2 (Ne.symm e))
  rw [← heq, State.refreshIdle_of_follow hytimer]

/-- Settles O32. -/
theorem holdOfOneSegment : Obligations.HoldOfOneSegment := by
  have hbacked {s : State} {f : Fetch} {cfg : RingConfig} {granted : Bool} (g : Seg) :
      (s.consumed f cfg.size granted).heldBackFrom g f.ring = true ↔ ∃ fr, (s.seg g).frame = some fr ∧
        ((∃ o, fr.carrier = .dormancy o) ∨ ∃ i, fr.carrier = .exchange i ∧ ((s.consumed f cfg.size granted).slot i).ring ≠ some f.ring) := by
    rw [State.heldBackFrom_iff, State.seg_consumed]
  refine ⟨?_, ?_, ?_⟩
  · intro s f cfg record granted g h hi hr hk hz ha hhold hline m x backed
    refine ⟨fun hb => ?_, fun hb => ?_⟩
    · refine (h.takes_holdOfOne granted hi hr hk hz ha rfl hhold hline true ((hbacked g).2 hb).symm).trans ?_
      rw [State.holdState_of_waiting]
      · rfl
      · intro e
        have hbit : m.getLsbD g.val = true := (getLsbD_singleton g g).2 rfl
        have hzero : (0 : SegSet).getLsbD g.val = true := (congrArg (fun a : SegSet => a.getLsbD g.val) e).trans hbit
        simp at hzero
    · refine (h.takes_holdOfOne granted hi hr hk hz ha rfl hhold hline false
        (Bool.not_eq_true _ ▸ (hbacked g).not.2 hb).symm).trans ?_
      rw [State.holdState_of_granted]
      · rfl
      · rfl
  · intro s f cfg record granted m own granted' h hi hr hk hz ha hm u backed hfree hown hgranted x
    obtain ⟨t, hexec, hfollow, ht, hsegs⟩ := h.takes_hold granted hr hk hz ha hm (q := ⟨own, granted'⟩) hfree hown fun g =>
      (hgranted g).trans (and_congr_right fun _ => imp_congr_right fun _ => not_congr (hbacked g).symm)
    refine ⟨t, hexec, hfollow, ht, fun g => ⟨(hsegs g).1, fun ho hb => ?_, fun ho hb => ?_⟩⟩
    · rw [(hsegs g).2 ho, if_pos ((hbacked g).2 hb)]
    · rw [(hsegs g).2 ho, if_neg ((hbacked g).not.2 hb)]
  · intro s f cfg record granted m status h hi hr hk hz ha named others draining hstatus
    have hchecks : firstFailure ((s.accepting f cfg record granted (.hold m)).holdChecks f.ring m) = some status := by
      rw [State.firstFailure_holdChecks]
      simp only [State.seg_accepting]
      have hdraining (hno : ¬ named others) :
          (∃ g : Seg, m.getLsbD g.val = true ∧ (s.seg g).hold.isDraining = true) ↔ named draining := by
        refine exists_congr fun g => and_congr_right fun hg => ?_
        rw [Hold.isDraining_iff]
        refine ⟨fun ⟨q, i, e⟩ => ⟨i, ?_⟩, fun ⟨i, e⟩ => ⟨_, i, e⟩⟩
        by_cases hq : q = f.ring
        · rw [e, hq]
        · exact absurd ⟨g, hg, by rw [e]; nofun, by rw [e]; exact fun e' => hq (Option.some.inj e')⟩ hno
      have hfaulted : (∃ g : Seg, m.getLsbD g.val = true ∧ (s.seg g).lineState.isFaulted = true) ↔
          named (fun y => ∃ why, y.lineState = .faulted why) :=
        exists_congr fun g => and_congr_right fun _ => LineState.isFaulted_iff _
      have hempty {p : Segment → Prop} (hp : named p) : m ≠ 0 := by
        rintro rfl
        obtain ⟨g, hg, -⟩ := hp
        simp at hg
      rcases hstatus with ⟨rfl, hm⟩ | ⟨rfl, ho⟩ | ⟨rfl, ho, hd⟩ | ⟨rfl, ho, hd, hoff⟩ | ⟨rfl, ho, hd, hoff, hf⟩
      · exact if_pos hm
      · rw [if_neg (hempty ho)]
        exact if_pos ho
      · rw [if_neg (hempty hd)]
        exact (if_neg ho).trans (if_pos ((hdraining ho).2 hd))
      · rw [if_neg (hempty (p := fun y => y.lineState = .off) hoff)]
        exact (if_neg ho).trans ((if_neg ((hdraining ho).not.2 hd)).trans (if_pos hoff))
      · rw [if_neg (hempty (p := fun y => ∃ why, y.lineState = .faulted why) hf)]
        exact (if_neg ho).trans ((if_neg ((hdraining ho).not.2 hd)).trans ((if_neg hoff).trans (if_pos (hfaulted.2 hf))))
    rw [h.exec_takeHold hr hk hz ha, State.takeHold, hchecks]
    exact Arriving.refuse hi record granted status _

end Sys2Proof.Machine
end

/-! ### The flush of a ring (R117) -/

section
namespace Sys2Proof.Machine

/-! #### What the end of waiting legs leaves alone -/

section
variable (s : State) (i : SlotId) (g : Seg) (o : LegOutcome)

theorem State.queues_checkDone : (s.checkDone i).queues = s.queues := by
  unfold State.checkDone
  split
  · rfl
  · split
    · exact State.queues_completeSlot s i _
    · rfl

theorem State.segs_checkDone : (s.checkDone i).segs = s.segs := by
  unfold State.checkDone
  split
  · rfl
  · split
    · exact State.segs_completeSlot s i _
    · rfl

theorem State.queues_finishLeg : (s.finishLeg i g o).queues = s.queues := State.queues_checkDone _ i

theorem State.segs_finishLeg : (s.finishLeg i g o).segs = s.segs := State.segs_checkDone _ i

theorem State.segs_finishWaitingLegs : (s.finishWaitingLegs i o).segs = s.segs := by
  have hfold (gs : List Seg) (u : State) : (gs.foldl (fun s g => s.finishWaiting i g o) u).segs = u.segs := by
    induction gs generalizing u with
    | nil => rfl
    | cons g gs ih => exact (ih _).trans (State.segs_finishLeg (u.leaveQueue i g) i g o)
  exact (State.segs_checkDone _ i).trans (hfold _ s)

theorem State.queue_finishWaitingLegs (k : Seg) : (s.finishWaitingLegs i o).queue k =
    if k ∈ (s.slot i).waitingOn then (s.queue k).filter (fun j => decide (j ≠ i)) else s.queue k := by
  have hleave {u v : State} (h : u.queues = v.queues) (g : Seg) : (u.leaveQueue i g).queues = (v.leaveQueue i g).queues := by
    simp only [State.leaveQueue, State.setQueue, State.queue, h]
  have hfold (gs : List Seg) (u v : State) (h : u.queues = v.queues) :
      (gs.foldl (fun s g => s.finishWaiting i g o) u).queues = (v.leaveQueues i gs).queues := by
    induction gs generalizing u v with
    | nil => exact h
    | cons g gs ih => exact ih _ _ ((State.queues_finishLeg (u.leaveQueue i g) i g o).trans (hleave h g))
  rw [← State.queue_leaveQueues]
  unfold State.queue
  rw [State.finishWaitingLegs, State.queues_checkDone, hfold _ s s rfl]

theorem State.slot_finishWaitingLegs_of_ne {j : SlotId} (h : i ≠ j) : (s.finishWaitingLegs i o).slot j = s.slot j := by
  have hfold (gs : List Seg) (u : State) : (gs.foldl (fun s g => s.finishWaiting i g o) u).slot j = u.slot j := by
    induction gs generalizing u with
    | nil => rfl
    | cons g gs ih => exact (ih _).trans (slot_finishLeg_of_ne (u.leaveQueue i g) h g o)
  exact (slot_checkDone_of_ne _ h).trans (hfold _ s)

end

/-! #### One slot is flushed -/

/-- A READ or a WRITE. -/
def Slot.exchanges (t : Slot) : Bool := t.kind = some .read ∨ t.kind = some .write

/-- Slot record `y` is `x` but for a hold of ring `r` that may have been lost. -/
def Segment.Frees (r : Ring) (x y : Segment) : Prop := y = x ∨ x.hold.holder = some r ∧ y = { x with hold := .none }

theorem Segment.Frees.trans {r : Ring} {x y z : Segment} (h : x.Frees r y) (k : y.Frees r z) : x.Frees r z := by
  rcases h with rfl | ⟨hr, rfl⟩
  · exact k
  · rcases k with rfl | ⟨hn, -⟩
    · exact .inr ⟨hr, rfl⟩
    · nomatch hn

section
variable {s : State} {j : SlotId}

theorem Slot.exchanges_iff (t : Slot) : t.exchanges = true ↔ t.kind = some .read ∨ t.kind = some .write := decide_eq_true_iff

theorem State.flushSlot_of_exchange (h : (s.slot j).exchanges = true) :
    s.flushSlot j = (s.setSlot j { s.slot j with abortPending := true }).finishWaitingLegs j .flushed := by
  unfold State.flushSlot
  rcases (Slot.exchanges_iff _).1 h with h | h <;> rw [h] <;> rfl

theorem State.flushSlot_of_hold (h : (s.slot j).kind = some .hold) : s.flushSlot j = s.endHold (.outcome .aborted) j := by
  rw [State.flushSlot, h]

theorem State.flushSlot_of_other (he : ¬ (s.slot j).exchanges = true) (hh : (s.slot j).kind ≠ some .hold) : s.flushSlot j = s := by
  unfold State.flushSlot
  split
  · next h => exact absurd ((Slot.exchanges_iff _).2 (.inl h)) he
  · next h => exact absurd ((Slot.exchanges_iff _).2 (.inr h)) he
  · next h => exact absurd h hh
  · rfl

theorem State.slot_flushSlot_of_ne {i : SlotId} (h : j ≠ i) : (s.flushSlot j).slot i = s.slot i := by
  by_cases he : (s.slot j).exchanges = true
  · rw [State.flushSlot_of_exchange he, State.slot_finishWaitingLegs_of_ne _ _ _ h, State.slot_setSlot_of_ne _ _ _ _ h]
  · by_cases hh : (s.slot j).kind = some .hold
    · rw [State.flushSlot_of_hold hh, State.slot_endHold_of_ne _ _ _ h]
    · rw [State.flushSlot_of_other he hh]

theorem OnlyWork.flushSlot : OnlyWork s (s.flushSlot j) := by
  by_cases he : (s.slot j).exchanges = true
  · rw [State.flushSlot_of_exchange he]
    exact (OnlyWork.setSlot s j _).trans (.finishWaitingLegs _ _ _)
  · by_cases hh : (s.slot j).kind = some .hold
    · rw [State.flushSlot_of_hold hh]
      exact .endHold _ _ _
    · rw [State.flushSlot_of_other he hh]
      exact .refl s

/-- A slot that waits only where its legs do leaves every queue if it is an exchange. -/
theorem State.queue_flushSlot (hq : ∀ g, j ∈ s.queue g → g ∈ (s.slot j).waitingOn) (g : Seg) : (s.flushSlot j).queue g =
    if (s.slot j).exchanges = true then (s.queue g).filter (fun i => decide (i ≠ j)) else s.queue g := by
  by_cases he : (s.slot j).exchanges = true
  · rw [if_pos he, State.flushSlot_of_exchange he, State.queue_finishWaitingLegs, State.slot_setSlot_self, State.queue_setSlot]
    change (if g ∈ (s.slot j).waitingOn then _ else _) = _
    split
    · rfl
    · next hw =>
      refine (List.filter_eq_self.2 fun i hi => decide_eq_true ?_).symm
      rintro rfl
      exact hw (hq g hi)
  · rw [if_neg he]
    by_cases hh : (s.slot j).kind = some .hold
    · rw [State.flushSlot_of_hold hh]
      unfold State.queue
      rw [State.queues_endHold]
    · rw [State.flushSlot_of_other he hh]

theorem State.seg_flushSlot {r : Ring} (hr : (s.slot j).ring = some r) (k : Seg) : (s.seg k).Frees r ((s.flushSlot j).seg k) := by
  by_cases he : (s.slot j).exchanges = true
  · rw [State.flushSlot_of_exchange he, State.seg_of_segs (State.segs_finishWaitingLegs _ _ _)]
    exact .inl rfl
  · by_cases hh : (s.slot j).kind = some .hold
    · rw [State.flushSlot_of_hold hh]
      by_cases hg : s.givesUp j k
      · rw [State.seg_endHold_pos s j _ hg]
        obtain ⟨-, -, q, hq, hk⟩ := hg
        cases hr.symm.trans hq
        exact .inr ⟨hk, rfl⟩
      · rw [State.seg_endHold_neg s j _ hg]
        exact .inl rfl
    · rw [State.flushSlot_of_other he hh]
      exact .inl rfl

/-- A LIVE exchange that is flushed (R117). -/
theorem State.slot_flushSlot_of_exchange {e : Exchange} {c : Cq} (he : (s.slot j).exchanges = true)
    (hd : (s.slot j).legs.Pairwise fun l m => l.segment ≠ m.segment) (hl : (s.slot j).state = .live) (hx : (s.slot j).exchange = some e)
    (hc : (s.slot j).cq = some c) :
    (s.flushSlot j).slot j = s.legsEnded c e (({ s.slot j with abortPending := true } : Slot).waitingEnded .flushed) := by
  have hself := State.slot_setSlot_self s j { s.slot j with abortPending := true }
  rw [State.flushSlot_of_exchange he, State.finishWaitingLegs_eq (o := .flushed) (c := c) (x := e) (by rw [hself]; exact hd)
    (by rw [hself]; exact hl) (by rw [hself]; exact hx) (by rw [hself]; exact hc), State.slot_concluded, hself, State.leaveQueues_eq]
  rfl

end

/-! #### No slot takes a kind -/

theorem State.kind_completeSlot (s : State) (i : SlotId) (r : Result) (j : SlotId) :
    ((s.completeSlot i r).slot j).kind = (s.slot j).kind ∨ ((s.completeSlot i r).slot j).kind = none := by
  by_cases hij : i = j
  · subst hij
    rw [State.completeSlot]
    split
    · rw [State.modSlot_eq, State.postSlot]
      split
      · exact .inr (congrArg Slot.kind (State.slot_setSlot_self _ _ _))
      · split
        · refine .inl ?_
          change ((s.setSlot i _).slot i).kind = _
          rw [State.slot_setSlot_self]
        · exact .inr (congrArg Slot.kind (State.slot_setSlot_self _ _ _))
    · exact .inl rfl
  · exact .inl (congrArg Slot.kind (slot_completeSlot_of_ne s hij r))

theorem Work.kind {own : Seg → Prop} {who : SlotId → Prop} {legal : Prop} {s t : State} (h : Work own who legal s t) (j : SlotId) :
    (t.slot j).kind = (s.slot j).kind ∨ (t.slot j).kind = none := by
  have hset (s : State) (i : SlotId) (x : Slot) (hk : x.kind = (s.slot i).kind) : ((s.setSlot i x).slot j).kind = (s.slot j).kind := by
    rw [State.slot_setSlot]
    split
    · next e => rw [hk, e]
    · rfl
  refine h.closed (R := fun s t => (t.slot j).kind = (s.slot j).kind ∨ (t.slot j).kind = none) (fun s t u h k => ?_) (fun _ => .inl rfl)
    (fun s i x ⟨_, _, _, _, hk, _⟩ => .inl (hset s i x hk)) (fun _ _ _ => .inl rfl) (fun _ _ _ _ _ => .inl rfl) (fun _ _ _ _ => .inl rfl)
    (fun s c n => .inl (congrArg Slot.kind (slot_postNotice s c n j))) (fun s i r _ => ?_) (fun s i => ?_)
  · rcases k with k | k
    · exact h.imp k.trans k.trans
    · exact .inr k
  · unfold State.answerResult
    split
    · exact State.kind_completeSlot s i r j
    · exact .inl rfl
  · unfold State.checkDone
    split
    · exact .inl rfl
    · split
      · exact State.kind_completeSlot s i _ j
      · exact .inl rfl

/-! #### The slots of the list, one after another -/

/-- The slots of a list are flushed one at a time. -/
def State.flushSlots (s : State) (is : List SlotId) : State := is.foldl State.flushSlot s

section
variable {is : List SlotId} (s : State)

theorem State.flushSlots_cons (i : SlotId) : s.flushSlots (i :: is) = (s.flushSlot i).flushSlots is := rfl

theorem OnlyWork.flushSlots : OnlyWork s (s.flushSlots is) := .foldl (fun _ _ => .flushSlot) _ _

/-- A slot that is in no need of a flush keeps its record. -/
theorem State.slot_flushSlots_of_not {j : SlotId} (h : j ∈ is → ¬ (s.slot j).exchanges = true ∧ (s.slot j).kind ≠ some .hold) :
    (s.flushSlots is).slot j = s.slot j := by
  induction is generalizing s with
  | nil => rfl
  | cons i is ih =>
    have hstep : (s.flushSlot i).slot j = s.slot j := by
      by_cases hij : i = j
      · subst hij
        rw [State.flushSlot_of_other (h (List.mem_cons_self ..)).1 (h (List.mem_cons_self ..)).2]
      · exact State.slot_flushSlot_of_ne hij
    rw [State.flushSlots_cons, ih _ fun hj => by rw [hstep]; exact h (List.mem_cons_of_mem _ hj), hstep]

/-- A slot of the list becomes what its own flush makes of it. -/
theorem State.slot_flushSlots_of_mem {j : SlotId} (hd : is.Nodup) (hj : j ∈ is) : ∃ u : State, u.slot j = s.slot j ∧
    (∀ c, (u.cq c).state = (s.cq c).state) ∧ (s.flushSlots is).slot j = (u.flushSlot j).slot j := by
  induction is generalizing s with
  | nil => nomatch hj
  | cons i is ih =>
    rw [List.nodup_cons] at hd
    by_cases hij : i = j
    · subst hij
      exact ⟨s, rfl, fun _ => rfl, State.slot_flushSlots_of_not (s.flushSlot i) fun h => absurd h hd.1⟩
    · obtain ⟨u, hu, hc, he⟩ := ih (s.flushSlot i) hd.2 ((List.mem_cons.1 hj).resolve_left (Ne.symm hij))
      refine ⟨u, hu.trans (State.slot_flushSlot_of_ne hij), fun c => (hc c).trans ?_, he⟩
      rw [(OnlyWork.flushSlot (s := s) (j := i)).2.2 c]

theorem State.queue_flushSlots (hd : is.Nodup) (hq : ∀ i ∈ is, ∀ g, i ∈ s.queue g → g ∈ (s.slot i).waitingOn) (g : Seg) :
    (s.flushSlots is).queue g = (s.queue g).filter fun j => decide (¬ (j ∈ is ∧ (s.slot j).exchanges = true)) := by
  induction is generalizing s with
  | nil => exact (List.filter_eq_self.2 fun i _ => by simp).symm
  | cons i is ih =>
    rw [List.nodup_cons] at hd
    have hslot (j : SlotId) (hj : j ∈ is) : (s.flushSlot i).slot j = s.slot j :=
      State.slot_flushSlot_of_ne fun e => hd.1 (by rw [e]; exact hj)
    have hqueue := State.queue_flushSlot (hq i (List.mem_cons_self ..))
    have hpred : (fun j => decide (¬ (j ∈ is ∧ ((s.flushSlot i).slot j).exchanges = true))) =
        fun j => decide (¬ (j ∈ is ∧ (s.slot j).exchanges = true)) := by
      funext j
      by_cases hj : j ∈ is
      · rw [hslot j hj]
      · simp [hj]
    rw [State.flushSlots_cons, ih _ hd.2, hqueue, hpred]
    · by_cases he : (s.slot i).exchanges = true
      · rw [if_pos he, List.filter_filter]
        refine List.filter_congr fun j _ => ?_
        by_cases hji : j = i
        · subst hji
          simp [he]
        · simp [hji]
      · rw [if_neg he]
        refine List.filter_congr fun j _ => ?_
        by_cases hji : j = i
        · subst hji
          simp [he]
        · simp [hji]
    · intro j hj k hk
      rw [hslot j hj]
      refine hq j (List.mem_cons_of_mem _ hj) k ?_
      rw [hqueue] at hk
      split at hk
      · exact (List.mem_filter.1 hk).1
      · exact hk

theorem State.seg_flushSlots {r : Ring} (hd : is.Nodup) (hr : ∀ i ∈ is, (s.slot i).ring = some r) (k : Seg) :
    (s.seg k).Frees r ((s.flushSlots is).seg k) := by
  induction is generalizing s with
  | nil => exact .inl rfl
  | cons i is ih =>
    rw [List.nodup_cons] at hd
    refine (State.seg_flushSlot (hr i (List.mem_cons_self ..)) k).trans (ih _ hd.2 fun j hj => ?_)
    rw [State.slot_flushSlot_of_ne fun e => hd.1 (by rw [e]; exact hj)]
    exact hr j (List.mem_cons_of_mem _ hj)

/-- A flush gives no slot a kind that it had not. -/
theorem State.kind_flushSlots (j : SlotId) : ((s.flushSlots is).slot j).kind = (s.slot j).kind ∨ ((s.flushSlots is).slot j).kind = none := by
  have hslot (u : State) (i : SlotId) : Work (fun _ => False) (· = i) False u (u.flushSlot i) := Acceptance.flushSlot u i (by nofun)
  induction is generalizing s with
  | nil => exact .inl rfl
  | cons i is ih =>
    rcases ih (s.flushSlot i) with h | h
    · rcases (hslot s i).kind j with k | k
      · exact .inl (h.trans k)
      · exact .inr (h.trans k)
    · exact .inr h

end

end Sys2Proof.Machine
end

/-! ### A deletion that completes (R119) -/

section
namespace Sys2Proof.Machine

section
variable (s : State) (r : Ring)

theorem State.held_eq_zero_iff : s.held r = 0 ↔ ∀ j, (s.slot j).state ≠ .free → (s.slot j).ring ≠ some r := by
  rw [State.held, List.length_eq_zero_iff, List.filter_eq_nil_iff]
  simp

theorem State.holdsNoSlot_iff : s.holdsNoSlot r = true ↔
    (∀ j, (s.slot j).state ≠ .free → (s.slot j).ring ≠ some r) ∧ ∀ f, s.fetch = some f → f.ring ≠ r := by
  rw [State.holdsNoSlot, Bool.and_eq_true, beq_iff_eq, State.held_eq_zero_iff]
  refine and_congr_right fun _ => ?_
  cases s.fetch <;> simp

/-- Slot `j` is the LIVE RING_DELETE that names ring `r` (R147). -/
def State.deletes (j : SlotId) : Prop :=
  (s.slot j).state = .live ∧ (s.slot j).kind = some .ringDelete ∧ ∃ b, (s.slot j).args = some (.ringDelete b) ∧ ringOf b = r

theorem State.deletionOf_eq_some {i : SlotId} (hi : s.deletes r i) (hone : ∀ j, s.deletes r j → j = i) : s.deletionOf r = some i := by
  unfold State.deletionOf
  cases hj : List.find? _ _ with
  | none =>
    have hno := List.find?_eq_none.1 hj i (List.mem_finRange i)
    obtain ⟨hl, hk, b, hb, hr⟩ := hi
    simp [hb, hl, hk, hr] at hno
  | some j =>
    refine congrArg some (hone j ?_)
    have hp := List.find?_some hj
    revert hp
    split
    · next b hb =>
      simp only [Bool.and_eq_true, decide_eq_true_eq, and_imp]
      exact fun hl hk hr => ⟨hl, hk, b, hb, hr⟩
    · simp

theorem State.completeDeletion_eq {i : SlotId} {c : Cq} (hi : s.deletes r i) (hone : ∀ j, s.deletes r j → j = i)
    (hx : (s.slot i).exchange = none) (hc : (s.slot i).cq = some c) :
    s.completeDeletion r =
      (s.setRing r RequestRing.empty).answered i c (doneWith (s.slot i) (plainResult (.outcome .ok) 0 zeroArea)) := by
  have hdel : (s.setRing r RequestRing.empty).deletionOf r = some i := State.deletionOf_eq_some _ r hi hone
  rw [State.completeDeletion]
  simp only [hdel]
  exact State.answer_eq _ hx (.inr hi.1) hc

theorem State.reserveSum_deleted : (s.setRing r RequestRing.empty).reserveSum + (s.ring r).reserve = s.reserveSum := by
  rw [State.reserveSum, State.reserveSum, sum_rings, sum_rings, ← Finset.add_sum_erase _ _ (Finset.mem_univ r),
    ← Finset.add_sum_erase _ (fun q => (s.ring q).reserve) (Finset.mem_univ r), State.ring_setRing_self]
  have hrest : ∑ q ∈ Finset.univ.erase r, ((s.setRing r RequestRing.empty).ring q).reserve = ∑ q ∈ Finset.univ.erase r, (s.ring q).reserve :=
    Finset.sum_congr rfl fun q hq => by rw [State.ring_setRing_of_ne _ _ _ _ (Ne.symm (Finset.ne_of_mem_erase hq))]
  have hempty : RequestRing.empty.reserve = 0 := rfl
  rw [hrest, hempty]
  omega

end

theorem ringOf_eq_iff {b : Byte} {r : Ring} (h : b.toNat ≤ 7) : ringOf b = r ↔ b.toNat = r.val := by
  rw [ringOf, Fin.ext_iff, Fin.val_ofNat, Nat.mod_eq_of_lt (by omega)]

/-- RING_DELETE_COMPLETE of a ring that holds nothing (R119). -/
theorem ringDeleteComplete_completes (s : State) (r : Ring) (i : SlotId) (c : Cq) (b : Byte) (hdel : (s.ring r).state = .deleting)
    (hheld : ∀ j, (s.slot j).state ≠ .free → (s.slot j).ring ≠ some r) (hfetch : ∀ f, s.fetch = some f → f.ring ≠ r)
    (hl : (s.slot i).state = .live) (hk : (s.slot i).kind = some .ringDelete) (ha : (s.slot i).args = some (.ringDelete b))
    (hb : b.toNat = r.val) (hc : (s.slot i).cq = some c) (hx : (s.slot i).exchange = none)
    (hone : ∀ j, (s.slot j).state = .live → (s.slot j).kind = some .ringDelete → (s.slot j).args = some (.ringDelete b) → j = i)
    (hrange : ∀ j b', (s.slot j).args = some (.ringDelete b') → b'.toNat ≤ 7) :
    ∃ t, exec (.ringDeleteComplete r) s = .next t ∧
      t = (s.setRing r RequestRing.empty).answered i c (doneWith (s.slot i) (plainResult (.outcome .ok) 0 zeroArea)) ∧
      t.reserveSum + (s.ring r).reserve = s.reserveSum := by
  have hcomplete := State.completeDeletion_eq s r ⟨hl, hk, b, ha, (ringOf_eq_iff (hrange i b ha)).2 hb⟩ (fun j ⟨hlj, hkj, b', hj, hr⟩ => by
    have hb' : b' = b := BitVec.eq_of_toNat_eq (((ringOf_eq_iff (hrange j b' hj)).1 hr).trans hb.symm)
    exact hone j hlj hkj (by rw [hj, hb'])) hx hc
  refine ⟨_, ?_, hcomplete, ?_⟩
  · change execRingDeleteComplete r s = _
    rw [execRingDeleteComplete, if_pos ⟨hdel, (s.holdsNoSlot_iff r).2 ⟨hheld, hfetch⟩⟩]
  · rw [hcomplete, ← State.reserveSum_deleted s r, State.answered_eq]
    rfl

/-! ### CQ_DELETE (R149) -/

section
variable (s : State)

theorem State.boundTo_iff (c : Cq) : s.boundTo c = true ↔
    ∃ r : Ring, (s.ring r).state ≠ .unconfigured ∧ (s.ring r).config.map RingConfig.cq = some c := by
  simp [State.boundTo, RequestRing.configured, State.ringCq]

theorem State.namedForNotices_iff (c : Cq) : s.namedForNotices c = true ↔ ∃ g : Seg, (s.seg g).config.noticeCq = c := by
  simp [State.namedForNotices]

/-- The checks of R149 in their order, each by what fails it. -/
theorem State.firstFailure_cqDeleteChecks (b : Byte) : firstFailure (s.cqDeleteChecks b) =
    if b.toNat < 1 ∨ 3 < b.toNat then some .badRequest
    else if (s.cq (cqOf b)).state = .unconfigured then some .notFound
    else if ∃ r : Ring, (s.ring r).state ≠ .unconfigured ∧ (s.ring r).config.map RingConfig.cq = some (cqOf b) then some .inUse
    else if ∃ g : Seg, (s.seg g).config.noticeCq = cqOf b then some .inUse
    else none := by
  rw [State.cqDeleteChecks, firstFailure_cons, firstFailure_cons, firstFailure_cons, firstFailure_cons]
  refine if_congr ?_ rfl (if_congr (by simp) rfl (if_congr ?_ rfl (if_congr ?_ rfl rfl)))
  · rw [Bool.and_eq_false_iff, decide_eq_false_iff_not, decide_eq_false_iff_not, not_le, not_le]
  · rw [Bool.not_eq_false', State.boundTo_iff]
  · rw [Bool.not_eq_false', State.namedForNotices_iff]

theorem State.ring_config_consumed (f : Fetch) (n : Nat) (granted : Bool) (r : Ring) :
    ((s.consumed f n granted).ring r).config = (s.ring r).config := by
  rw [State.ring_consumed]
  split
  · next h => rw [← h]
  · rfl

theorem State.slot_deleteCq (c : Cq) (j : SlotId) : (s.deleteCq c).slot j =
    if Posting.slot j ∈ (s.cq c).backlog ∧ (s.slot j).state = .done then Slot.empty else s.slot j := by
  rw [State.deleteCq, State.withdrawWrite_eq]
  exact State.slot_discardPostings _ _ _

theorem State.deleteCq_eq (c : Cq) : s.deleteCq c =
    { s with slots := (s.deleteCq c).slots, cqs := (s.deleteCq c).cqs, write := (s.withdrawWrite c).write } := by
  rw [State.deleteCq, State.discardPostings_eq, State.withdrawWrite, State.withdrawWrite]
  cases hw : s.write with
  | none => simp [State.setCq, hw]
  | some w => by_cases hc : w.cq = c <;> simp [State.setCq, hw, hc]

end

end Sys2Proof.Machine
end

/-! ### The arrival of a CQ_DELETE (R149) -/

section
namespace Sys2Proof.Machine

section
variable {s : State} {f : Fetch} {cfg : RingConfig} {record : Record} {granted : Bool} {b : Byte} (h : Arriving s f cfg)
  (hr : f.ring = 0) (hk : kindOf record = some .cqDelete) (hz : record[7] = 0) (ha : argsOf .cqDelete record = some (.cqDelete b))

theorem State.firstFailure_cqDeleteChecks_accepting (args : OpArgs) :
    firstFailure ((s.accepting f cfg record granted args).cqDeleteChecks b) = firstFailure (s.cqDeleteChecks b) := by
  rw [State.firstFailure_cqDeleteChecks, State.firstFailure_cqDeleteChecks]
  have hring (r : Ring) : (s.accepting f cfg record granted args).ring r = (s.consumed f cfg.size granted).ring r := rfl
  have hcq (c : Cq) : (s.accepting f cfg record granted args).cq c = s.cq c := State.cq_consumed s f cfg.size granted c
  simp only [hring, hcq, State.seg_accepting, State.ring_state_consumed, State.ring_config_consumed]

include h hr hk hz ha

theorem Arriving.exec_takeCqDelete : exec (.fetchComplete ⟨record, granted⟩) s =
    settled ((s.accepting f cfg record granted (.cqDelete b)).takeCqDelete f.slot b) :=
  h.exec_eq_takeOperation granted hk (decide_eq_true hr) hz ha

/-- The state of a CQ_DELETE that has passed its checks: the ring's backlog discarded, its record reset, its write withdrawn. -/
theorem Arriving.exec_cqDelete (hi : IdleTimersFollow s) (hpass : firstFailure (s.cqDeleteChecks b) = none) :
    exec (.fetchComplete ⟨record, granted⟩) s = .next (((s.accepting f cfg record granted (.cqDelete b)).deleteCq (cqOf b)).answered f.slot 0
      (doneWith { arrivedSlot s f cfg record with args := some (.cqDelete b) } (plainResult (.outcome .ok) 0 zeroArea))) := by
  obtain ⟨v, hv⟩ : ∃ v, v = s.accepting f cfg record granted (.cqDelete b) := ⟨_, rfl⟩
  have hown : v.slot f.slot = { arrivedSlot s f cfg record with args := some (.cqDelete b) } := by
    rw [hv, State.accepting, State.slot_setSlot_self]
  have hslot : (v.deleteCq (cqOf b)).slot f.slot = v.slot f.slot := by
    rw [State.slot_deleteCq, if_neg]
    rintro ⟨-, hd⟩
    rw [hown] at hd
    nomatch hd
  have hv' : IdleTimersFollow v := by
    rw [hv]
    exact (hi.consumed f cfg.size granted).setSlot _ _
  have hfollow : IdleTimersFollow (v.deleteCq (cqOf b)) := by
    rw [State.deleteCq_eq]
    exact hv'
  rw [h.exec_takeCqDelete hr hk hz ha, State.takeCqDelete, State.firstFailure_cqDeleteChecks_accepting, hpass, ← hv]
  simp only
  rw [State.answer_eq (c := 0) _ (by rw [hslot, hown]; rfl) (by rw [hslot, hown]; exact .inl rfl)
    (by rw [hslot, hown]; exact congrArg some (answerRing_of_admin hr cfg)), hslot, hown, settled,
    State.refreshIdle_of_follow (hfollow.answered _ _ _)]

end

theorem State.cq_answered_congr {s t : State} {c d : Cq} (hc : s.cq c = t.cq c) (hd : s.cq d = t.cq d) (i : SlotId) (x : Slot) :
    (s.answered i c x).cq d = (t.answered i c x).cq d := by
  by_cases ha : (t.cq c).state = .active
  · rw [State.answered_pos (by rw [hc, ha]), State.answered_pos ha, State.cq_setCq, State.cq_setCq, State.cq_setSlot, State.cq_setSlot, hc, hd]
  · rw [State.answered_neg (by rw [hc]; exact ha), State.answered_neg ha, State.cq_setSlot, State.cq_setSlot, hd]

theorem State.write_withdrawWrite {s t : State} (h : t.write = s.write) (c : Cq) : (t.withdrawWrite c).write = (s.withdrawWrite c).write := by
  have hwrite (u : State) : (u.withdrawWrite c).write = u.write.bind fun w => if w.cq = c then none else some w := by
    unfold State.withdrawWrite
    cases hw : u.write with
    | none => exact hw
    | some w => by_cases hc : w.cq = c <;> simp [hw, hc]
  rw [hwrite, hwrite, h]

/-- The CQ_DELETE of O35. -/
theorem cqDelete_checks_and_deletes (s : State) (f : Fetch) (cfg : RingConfig) (record : Record) (granted : Bool) (b : Byte)
    (h : Arriving s f cfg) (hi : IdleTimersFollow s) (hr : f.ring = 0) (hk : kindOf record = some .cqDelete) (hz : record[7] = 0)
    (ha : argsOf .cqDelete record = some (.cqDelete b)) (x ok : Slot) (hx : x = arrivedSlot s f cfg record)
    (hok : ok = doneWith { x with args := some (.cqDelete b) } (plainResult (.outcome .ok) 0 zeroArea)) :
    (∀ status, firstFailure (s.cqDeleteChecks b) = some status → exec (.fetchComplete ⟨record, granted⟩) s =
      .next ((s.consumed f cfg.size granted).answered f.slot 0 (doneWith x (plainResult status 0 zeroArea)))) ∧
    (firstFailure (s.cqDeleteChecks b) = none → ∃ t, exec (.fetchComplete ⟨record, granted⟩) s = .next t ∧
      t.cq (cqOf b) = CompletionRing.empty ∧
      (∀ d, d ≠ cqOf b → t.cq d = ((s.consumed f cfg.size granted).answered f.slot 0 ok).cq d) ∧
      t.slot f.slot = (s.consumed f cfg.size granted).posted 0 ok ∧
      (∀ i, i ≠ f.slot → t.slot i = if Posting.slot i ∈ (s.cq (cqOf b)).backlog ∧ (s.slot i).state = .done then Slot.empty
        else (s.consumed f cfg.size granted).slot i) ∧
      t = { s.consumed f cfg.size granted with slots := t.slots, cqs := t.cqs, write := (s.withdrawWrite (cqOf b)).write }) := by
  subst hx
  constructor
  · intro status hstatus
    rw [h.exec_takeCqDelete hr hk hz ha, State.takeCqDelete, State.firstFailure_cqDeleteChecks_accepting, hstatus, ← answerRing_of_admin hr cfg]
    exact Arriving.refuse hi record granted status _
  · intro hpass
    obtain ⟨u, hu⟩ : ∃ u, u = s.consumed f cfg.size granted := ⟨_, rfl⟩
    obtain ⟨v, hv⟩ : ∃ v, v = s.accepting f cfg record granted (.cqDelete b) := ⟨_, rfl⟩
    have hexec := h.exec_cqDelete (granted := granted) hr hk hz ha hi hpass
    rw [← hok, ← hv] at hexec
    rw [← hu]
    have hcq (d : Cq) : v.cq d = u.cq d := by rw [hv, hu]; rfl
    have hcqs (d : Cq) : u.cq d = s.cq d := by rw [hu, State.cq_consumed]
    have hne : cqOf b ≠ 0 := by
      rw [State.firstFailure_cqDeleteChecks] at hpass
      split at hpass
      · nomatch hpass
      · next hb => exact Acceptance.cqOf_ne_zero (by omega) (by omega)
    have hw (d : Cq) : (v.deleteCq (cqOf b)).cq d = if cqOf b = d then CompletionRing.empty else u.cq d := by
      rw [State.cq_deleteCq, State.cq_setCq, hcq]
    have hzero : (v.deleteCq (cqOf b)).cq 0 = u.cq 0 := by rw [hw, if_neg hne]
    have hslot (i : SlotId) (hi : i ≠ f.slot) : v.slot i = u.slot i := by
      rw [hv, State.accepting, State.slot_setSlot, if_neg (Ne.symm hi), hu]
    have hdone (i : SlotId) (hi : i ≠ f.slot) : (v.slot i).state = .done ↔ (s.slot i).state = .done := by
      rw [hv]
      constructor
      · intro hd
        rw [← (State.slot_accepting_of_state record granted _ (by rw [hd]; nofun) (by rw [hd]; nofun)).2, hd]
      · intro hd
        rw [State.slot_accepting record granted _ (by rw [hd]; nofun) hi, hd]
    refine ⟨_, hexec, ?_, fun d hd => ?_, ?_, fun i hi => ?_, ?_⟩
    · rw [State.cq_answered_of_ne _ _ _ (.inr (Ne.symm hne)), hw, if_pos rfl]
    · exact State.cq_answered_congr hzero (by rw [hw, if_neg (Ne.symm hd)]) _ _
    · rw [State.slot_answered, if_pos rfl, hzero]
      rfl
    · rw [State.slot_answered, if_neg (Ne.symm hi), State.slot_deleteCq, hcq, hcqs, hslot i hi]
      refine if_congr (and_congr_right fun _ => ?_) rfl rfl
      rw [← hslot i hi, hdone i hi]
    · have hwrite : (v.withdrawWrite (cqOf b)).write = (s.withdrawWrite (cqOf b)).write := by
        refine State.write_withdrawWrite ?_ _
        rw [hv, State.accepting, State.consumed, State.grantIf_eq]
        rfl
      rw [State.answered_eq, State.deleteCq_eq, hwrite, hv, hu]
      rfl

end Sys2Proof.Machine
end

/-! ### A ring is flushed (R116, R117) -/

section
namespace Sys2Proof.Machine

theorem State.posted_congr {s t : State} {c : Cq} (h : (t.cq c).state = (s.cq c).state) (x : Slot) : t.posted c x = s.posted c x := by
  rw [State.posted, State.posted, h]

theorem State.legsEnded_congr {s t : State} {c : Cq} (h : (t.cq c).state = (s.cq c).state) (x : Exchange) (y : Slot) :
    t.legsEnded c x y = s.legsEnded c x y := by
  rw [State.legsEnded, State.legsEnded, State.posted_congr h]

theorem State.queue_clearHoldsOf (s : State) (r : Ring) (gs : List Seg) (g : Seg) : (s.clearHoldsOf r gs).queue g = s.queue g := by
  rw [State.clearHoldsOf_eq]
  rfl

/-- Ring `r` is flushed and its holds return to NONE (R116, R117). -/
def State.ringFlushed (s : State) (r : Ring) : State := (s.flushRing r).clearHoldsOf r (List.finRange 8)

section
variable {s : State} {r : Ring}

theorem State.flushRing_eq : s.flushRing r = s.flushSlots (s.slotsInOrder fun t => t.state = .live && t.ring = some r) := rfl

theorem State.mem_flushed (j : SlotId) : j ∈ (s.slotsInOrder fun t => t.state = .live && t.ring = some r) ↔
    (s.slot j).state = .live ∧ (s.slot j).ring = some r := by
  rw [mem_slotsInOrder, Bool.and_eq_true, decide_eq_true_eq, decide_eq_true_eq]

theorem OnlyWork.ringFlushed : OnlyWork s (s.ringFlushed r) := (OnlyWork.flushSlots s).trans (.clearHoldsOf _ _ _)

theorem State.slot_ringFlushed_of_not {j : SlotId} (h : (s.slot j).state = .live → (s.slot j).ring = some r →
    ¬ (s.slot j).exchanges = true ∧ (s.slot j).kind ≠ some .hold) : (s.ringFlushed r).slot j = s.slot j := by
  rw [State.ringFlushed, State.slot_clearHoldsOf, State.flushRing_eq, State.slot_flushSlots_of_not]
  intro hj
  obtain ⟨hl, hr⟩ := (State.mem_flushed j).1 hj
  exact h hl hr

theorem State.slot_ringFlushed_of_mem {j : SlotId} (hl : (s.slot j).state = .live) (hr : (s.slot j).ring = some r) :
    ∃ u : State, u.slot j = s.slot j ∧ (∀ c, (u.cq c).state = (s.cq c).state) ∧ (s.ringFlushed r).slot j = (u.flushSlot j).slot j := by
  rw [State.ringFlushed, State.slot_clearHoldsOf, State.flushRing_eq]
  exact State.slot_flushSlots_of_mem s (s.slotsInOrder_nodup _) ((State.mem_flushed j).2 ⟨hl, hr⟩)

/-- The LIVE exchanges of the ring lose their WAITING legs (R117). -/
theorem State.slot_ringFlushed_of_exchange {j : SlotId} {e : Exchange} {c : Cq} (hl : (s.slot j).state = .live)
    (hr : (s.slot j).ring = some r) (he : (s.slot j).exchanges = true) (hd : (s.slot j).legs.Pairwise fun l m => l.segment ≠ m.segment)
    (hx : (s.slot j).exchange = some e) (hc : (s.slot j).cq = some c) : (s.ringFlushed r).slot j =
      s.legsEnded c e (({ s.slot j with abortPending := true } : Slot).waitingEnded .flushed) := by
  obtain ⟨u, hu, hcq, hj⟩ := State.slot_ringFlushed_of_mem hl hr
  rw [hj, State.slot_flushSlot_of_exchange (e := e) (c := c) (by rw [hu]; exact he) (by rw [hu]; exact hd) (by rw [hu]; exact hl)
    (by rw [hu]; exact hx) (by rw [hu]; exact hc), hu, State.legsEnded_congr (hcq c)]

/-- The LIVE HOLDs of the ring complete ABORTED (R117). -/
theorem State.slot_ringFlushed_of_hold {j : SlotId} {c : Cq} (h : LiveHold s r j) (hx : (s.slot j).exchange = none)
    (hc : (s.slot j).cq = some c) : (s.ringFlushed r).slot j =
      s.posted c (doneWith (s.slot j) (plainResult (.outcome .aborted) 0 zeroArea)) := by
  obtain ⟨hl, hk, hr⟩ := h
  obtain ⟨u, hu, hcq, hj⟩ := State.slot_ringFlushed_of_mem hl hr
  rw [hj, State.flushSlot_of_hold (by rw [hu]; exact hk), State.slot_endHold u j _ (c := c) ((State.isLiveHold_congr hu).2 ⟨hl, hk⟩)
    (by rw [hu]; exact hx) (by rw [hu]; exact hc), hu, State.posted_congr (hcq c)]

theorem State.kind_ringFlushed (j : SlotId) : ((s.ringFlushed r).slot j).kind = (s.slot j).kind ∨ ((s.ringFlushed r).slot j).kind = none := by
  rw [State.ringFlushed, State.slot_clearHoldsOf]
  exact State.kind_flushSlots s j

/-- The exchanges of the ring leave every queue. -/
theorem State.queue_ringFlushed (hq : ∀ g i, i ∈ s.queue g → LegWaits s g i) (g : Seg) : (s.ringFlushed r).queue g =
    (s.queue g).filter fun j => decide (¬ ((s.slot j).ring = some r ∧ ((s.slot j).kind = some .read ∨ (s.slot j).kind = some .write))) := by
  rw [State.ringFlushed, State.queue_clearHoldsOf, State.flushRing_eq, State.queue_flushSlots s (s.slotsInOrder_nodup _)]
  · refine List.filter_congr fun j hj => ?_
    have hmem := (State.mem_flushed j).trans (and_iff_right (hq g j hj).1 : _ ↔ (s.slot j).ring = some r)
    exact decide_eq_decide.2 (not_congr (and_congr hmem (Slot.exchanges_iff _)))
  · intro i hi k hk
    exact (legWaits_iff_mem_waitingOn ((State.mem_flushed i).1 hi).1).1 (hq k i hk)

/-- Every segment that the ring held, or that was draining for it, returns to NONE (R116). -/
theorem State.seg_ringFlushed (k : Seg) : (s.ringFlushed r).seg k =
    { s.seg k with hold := if (s.seg k).hold.holder = some r then .none else (s.seg k).hold } := by
  have hclear := State.seg_clearHoldsOf r (List.finRange 8) (s.flushRing r) k
  rw [State.ringFlushed]
  have hfrees : (s.seg k).Frees r ((s.flushRing r).seg k) :=
    State.seg_flushSlots s (s.slotsInOrder_nodup _) (fun i hi => ((State.mem_flushed i).1 hi).2) k
  rcases hfrees with h | ⟨hr, h⟩
  · rw [h] at hclear
    rw [hclear]
    by_cases hk : (s.seg k).hold.holder = some r
    · rw [if_pos ⟨List.mem_finRange k, hk⟩, if_pos hk]
    · rw [if_neg fun hc => hk hc.2, if_neg hk]
  · rw [h] at hclear
    rw [hclear, if_neg fun hc => nomatch hc.2]
    simp only [hr, if_true]

end

end Sys2Proof.Machine
end

/-! ### The arrival of a RING_DELETE (R116 to R119, R147) -/

section
namespace Sys2Proof.Machine

/-- The checks of R147 in their order, each by what fails it. -/
theorem State.firstFailure_ringDeleteChecks (s : State) (b : Byte) : firstFailure (s.ringDeleteChecks b) =
    if b.toNat < 1 ∨ 7 < b.toNat then some .badRequest
    else if (s.ring (ringOf b)).state = .unconfigured then some .notFound
    else if (s.ring (ringOf b)).state = .deleting then some .busy
    else none := by
  rw [State.ringDeleteChecks, firstFailure_cons, firstFailure_cons, firstFailure_cons]
  refine if_congr ?_ rfl (if_congr (by simp) rfl (if_congr (by simp) rfl rfl))
  rw [Bool.and_eq_false_iff, decide_eq_false_iff_not, decide_eq_false_iff_not, not_le, not_le]

/-- The fetch in flight once one for ring `r` has been marked for discard (R116). -/
theorem State.fetch_markDiscard (s : State) (r : Ring) :
    (s.markDiscard r).fetch = s.fetch.map fun e => if e.ring = r then { e with discard := true } else e := by
  unfold State.markDiscard
  cases hf : s.fetch with
  | none => exact hf
  | some e => by_cases he : e.ring = r <;> simp [he, hf]

/-! #### The end of the acceptance -/

/-- A flushed ring that holds no slots is UNCONFIGURED at once; the request of any other records its stage (R13, R119). -/
def State.ringDeleted (s : State) (i : SlotId) (r : Ring) : State :=
  if s.holdsNoSlot r then s.completeDeletion r else s.setProgress i .drainingRing

section
variable {s : State} {i : SlotId} {r : Ring} {c : Cq} (hi : s.deletes r i) (hone : ∀ j, s.deletes r j → j = i)
  (hx : (s.slot i).exchange = none) (hc : (s.slot i).cq = some c)

include hi hone hx hc in
theorem State.ringDeleted_of_empty (h : s.holdsNoSlot r = true) : s.ringDeleted i r =
    (s.setRing r RequestRing.empty).answered i c (doneWith (s.slot i) (plainResult (.outcome .ok) 0 zeroArea)) :=
  (if_pos h).trans (State.completeDeletion_eq s r hi hone hx hc)

theorem State.ringDeleted_of_holding (h : ¬ s.holdsNoSlot r = true) :
    s.ringDeleted i r = s.setSlot i { s.slot i with progress := some .drainingRing } := if_neg h

include hi hone hx hc

theorem State.slot_ringDeleted_of_ne {j : SlotId} (hj : j ≠ i) : (s.ringDeleted i r).slot j = s.slot j := by
  by_cases h : s.holdsNoSlot r = true
  · rw [State.ringDeleted_of_empty hi hone hx hc h, State.slot_answered, if_neg (Ne.symm hj)]
    rfl
  · rw [State.ringDeleted_of_holding h, State.slot_setSlot, if_neg (Ne.symm hj)]

theorem State.ringDeleted_eq : s.ringDeleted i r =
    { s with slots := (s.ringDeleted i r).slots, cqs := (s.ringDeleted i r).cqs, rings := (s.ringDeleted i r).rings } := by
  by_cases h : s.holdsNoSlot r = true
  · rw [State.ringDeleted_of_empty hi hone hx hc h, State.answered_eq]
    rfl
  · rw [State.ringDeleted_of_holding h]
    rfl

theorem State.ring_ringDeleted_of_ne {q : Ring} (hq : q ≠ r) : (s.ringDeleted i r).ring q = s.ring q := by
  by_cases h : s.holdsNoSlot r = true
  · rw [State.ringDeleted_of_empty hi hone hx hc h, State.answered_eq]
    exact State.ring_setRing_of_ne _ _ _ _ (Ne.symm hq)
  · rw [State.ringDeleted_of_holding h]
    rfl

/-- The request's own slot belongs to its ring still, or to none. -/
theorem State.ring_slot_ringDeleted : ((s.ringDeleted i r).slot i).ring = (s.slot i).ring ∨ ((s.ringDeleted i r).slot i).ring = none := by
  by_cases h : s.holdsNoSlot r = true
  · rw [State.ringDeleted_of_empty hi hone hx hc h, State.slot_answered, if_pos rfl]
    split
    · exact .inl rfl
    · exact .inr rfl
  · rw [State.ringDeleted_of_holding h, State.slot_setSlot_self]
    exact .inl rfl

/-- What decides the end is the same before it and after. -/
theorem State.holdsNoSlot_ringDeleted (hr : (s.slot i).ring ≠ some r) : (s.ringDeleted i r).holdsNoSlot r = true ↔ s.holdsNoSlot r = true := by
  have hfetch : (s.ringDeleted i r).fetch = s.fetch := by rw [State.ringDeleted_eq hi hone hx hc]
  have hown : ((s.ringDeleted i r).slot i).ring ≠ some r := by
    rcases State.ring_slot_ringDeleted hi hone hx hc with h | h
    · rw [h]
      exact hr
    · rw [h]
      nofun
  rw [State.holdsNoSlot_iff, State.holdsNoSlot_iff, hfetch]
  refine and_congr_left fun _ => forall_congr' fun j => ?_
  by_cases hj : j = i
  · subst hj
    exact iff_of_true (fun _ => hown) fun _ => hr
  · rw [State.slot_ringDeleted_of_ne hi hone hx hc hj]

end

end Sys2Proof.Machine
end

/-! ### RING_DELETE and CQ_DELETE settled (R116 to R119, R147, R149) -/

section
namespace Sys2Proof.Machine

/-- The slot of an accepted RING_DELETE (R8, R13). -/
def deletionSlot (s : State) (f : Fetch) (cfg : RingConfig) (record : Record) (b : Byte) : Slot :=
  { arrivedSlot s f cfg record with args := some (.ringDelete b), state := .live }

/-- The state in which an accepted RING_DELETE flushes its ring: its slot LIVE, the ring DELETING, a fetch in flight for it marked
for discard (R116). -/
def State.deletionBegun (s : State) (f : Fetch) (cfg : RingConfig) (record : Record) (granted : Bool) (b : Byte) : State :=
  (((s.consumed f cfg.size granted).setSlot f.slot (deletionSlot s f cfg record b)).modRing (ringOf b) fun q =>
    { q with state := .deleting }).markDiscard (ringOf b)

section
variable (s : State) (f : Fetch) (cfg : RingConfig) (record : Record) (granted : Bool) (b : Byte)

theorem State.slot_deletionBegun (j : SlotId) : (s.deletionBegun f cfg record granted b).slot j =
    if f.slot = j then deletionSlot s f cfg record b else (s.consumed f cfg.size granted).slot j := by
  rw [State.deletionBegun, State.markDiscard_eq]
  exact State.slot_setSlot _ _ _ _

theorem State.seg_deletionBegun (g : Seg) : (s.deletionBegun f cfg record granted b).seg g = s.seg g := by
  rw [State.deletionBegun, State.markDiscard_eq]
  exact State.seg_consumed s f cfg.size granted g

theorem State.queue_deletionBegun (g : Seg) : (s.deletionBegun f cfg record granted b).queue g = s.queue g := by
  rw [State.deletionBegun, State.markDiscard_eq]
  exact State.queue_consumed s f cfg.size granted g

theorem State.cq_deletionBegun (c : Cq) :
    (s.deletionBegun f cfg record granted b).cq c = (s.consumed f cfg.size granted).cq c := by
  rw [State.deletionBegun, State.markDiscard_eq]
  rfl

theorem State.ring_deletionBegun (q : Ring) : (s.deletionBegun f cfg record granted b).ring q =
    if ringOf b = q then { (s.consumed f cfg.size granted).ring (ringOf b) with state := .deleting }
    else (s.consumed f cfg.size granted).ring q := by
  rw [State.deletionBegun, State.markDiscard_eq]
  exact State.ring_setRing _ _ _ _

theorem State.fetch_deletionBegun : (s.deletionBegun f cfg record granted b).fetch =
    (s.consumed f cfg.size granted).fetch.map fun e => if e.ring = ringOf b then { e with discard := true } else e :=
  State.fetch_markDiscard _ _

end

section
variable {s : State} {f : Fetch} {cfg : RingConfig} {record : Record} {granted : Bool} {b : Byte} (h : Arriving s f cfg)
  (hr : f.ring = 0) (hk : kindOf record = some .ringDelete) (hz : record[7] = 0) (ha : argsOf .ringDelete record = some (.ringDelete b))

theorem State.firstFailure_ringDeleteChecks_accepting (args : OpArgs) :
    firstFailure ((s.accepting f cfg record granted args).ringDeleteChecks b) = firstFailure (s.ringDeleteChecks b) := by
  rw [State.firstFailure_ringDeleteChecks, State.firstFailure_ringDeleteChecks, State.accepting, State.ring_setSlot,
    State.ring_state_consumed]

include h hr hk hz ha

theorem Arriving.exec_takeRingDelete : exec (.fetchComplete ⟨record, granted⟩) s =
    settled ((s.accepting f cfg record granted (.ringDelete b)).takeRingDelete f.slot b) :=
  h.exec_eq_takeOperation granted hk (decide_eq_true hr) hz ha

theorem Arriving.exec_ringDelete_refused (hi : IdleTimersFollow s) {status : Status} (hfail : firstFailure (s.ringDeleteChecks b) = some status) :
    exec (.fetchComplete ⟨record, granted⟩) s = .next ((s.consumed f cfg.size granted).answered f.slot 0
      (doneWith (arrivedSlot s f cfg record) (plainResult status 0 zeroArea))) := by
  rw [h.exec_takeRingDelete hr hk hz ha, State.takeRingDelete, State.firstFailure_ringDeleteChecks_accepting, hfail,
    ← answerRing_of_admin hr cfg]
  exact Arriving.refuse hi record granted status _

theorem Arriving.exec_ringDelete (hpass : firstFailure (s.ringDeleteChecks b) = none) : exec (.fetchComplete ⟨record, granted⟩) s =
    settled (((s.deletionBegun f cfg record granted b).ringFlushed (ringOf b)).ringDeleted f.slot (ringOf b)) := by
  have hlive : (s.accepting f cfg record granted (.ringDelete b)).setLive f.slot =
      (s.consumed f cfg.size granted).setSlot f.slot (deletionSlot s f cfg record b) := by
    rw [State.setLive, State.modSlot_eq, State.accepting, State.slot_setSlot_self, State.setSlot_setSlot]
    rfl
  rw [h.exec_takeRingDelete hr hk hz ha, State.takeRingDelete, State.firstFailure_ringDeleteChecks_accepting, hpass]
  simp only [hlive]
  rfl

end

/-! #### What the flush finds -/

section
variable {s : State} {f : Fetch} {cfg : RingConfig} {record : Record} {granted : Bool} {b : Byte} (h : Arriving s f cfg)
include h

theorem Arriving.slot_deletionBegun_of_state {j : SlotId} (hfree : (s.slot j).state ≠ .free) (hfetch : (s.slot j).state ≠ .fetching) :
    (s.deletionBegun f cfg record granted b).slot j = s.slot j ∧ j ≠ f.slot := by
  have hne := h.ne_of_state hfetch
  rw [State.slot_deletionBegun, if_neg (Ne.symm hne), State.slot_consumed _ _ _ _ hfree]
  exact ⟨rfl, hne⟩

omit h in
/-- A LIVE slot then is the request's own or was LIVE before. -/
theorem live_deletionBegun {j : SlotId} (hl : ((s.deletionBegun f cfg record granted b).slot j).state = .live) (hne : j ≠ f.slot) :
    (s.deletionBegun f cfg record granted b).slot j = s.slot j := by
  have hslot : (s.deletionBegun f cfg record granted b).slot j = (s.accepting f cfg record granted (.ringDelete b)).slot j := by
    rw [State.slot_deletionBegun, if_neg (Ne.symm hne), State.accepting, State.slot_setSlot, if_neg (Ne.symm hne)]
  rw [hslot] at hl ⊢
  exact (State.slot_accepting_of_state record granted _ (by rw [hl]; nofun) (by rw [hl]; nofun)).2

omit h in
/-- Its own slot is not one of the ring it deletes. -/
theorem slot_deletionFlushed (hr : f.ring = 0) (hb : ringOf b ≠ 0) :
    ((s.deletionBegun f cfg record granted b).ringFlushed (ringOf b)).slot f.slot = deletionSlot s f cfg record b := by
  have hown : (s.deletionBegun f cfg record granted b).slot f.slot = deletionSlot s f cfg record b := by
    rw [State.slot_deletionBegun, if_pos rfl]
  rw [State.slot_ringFlushed_of_not, hown]
  intro _ hring
  rw [hown] at hring
  exact absurd ((Option.some.inj hring).symm.trans hr) hb

omit h in
/-- The request's slot is the one RING_DELETE that names the ring. -/
theorem deletes_deletionFlushed (hr : f.ring = 0) (hb : ringOf b ≠ 0) (hk : kindOf record = some .ringDelete)
    (hone : ∀ j b', (s.slot j).state = .live → (s.slot j).args = some (.ringDelete b') → ringOf b' ≠ ringOf b) :
    ((s.deletionBegun f cfg record granted b).ringFlushed (ringOf b)).deletes (ringOf b) f.slot ∧
      ∀ j, ((s.deletionBegun f cfg record granted b).ringFlushed (ringOf b)).deletes (ringOf b) j → j = f.slot := by
  refine ⟨?_, fun j ⟨hl, hkj, b', hargs, hb'⟩ => ?_⟩
  · rw [State.deletes, slot_deletionFlushed hr hb]
    exact ⟨rfl, hk, b, rfl, rfl⟩
  · by_contra hne
    have hkind : ((s.deletionBegun f cfg record granted b).slot j).kind = some .ringDelete := by
      rcases State.kind_ringFlushed (s := s.deletionBegun f cfg record granted b) (r := ringOf b) j with e | e
      · exact e.symm.trans hkj
      · nomatch hkj.symm.trans e
    have hkeep : ((s.deletionBegun f cfg record granted b).ringFlushed (ringOf b)).slot j = (s.deletionBegun f cfg record granted b).slot j := by
      refine State.slot_ringFlushed_of_not fun _ _ => ⟨fun he => ?_, fun he => ?_⟩
      · rcases (Slot.exchanges_iff _).1 he with e | e <;> nomatch hkind.symm.trans e
      · nomatch hkind.symm.trans he
    rw [hkeep] at hl hargs
    have hsame := live_deletionBegun hl hne
    rw [hsame] at hl hargs
    exact hone j b' hl hargs hb'

end

/-! #### O35 -/

/-- The accepted RING_DELETE of O35. -/
theorem ringDelete_flushes (s : State) (f : Fetch) (cfg : RingConfig) (record : Record) (granted : Bool) (b : Byte) (h : Arriving s f cfg)
    (hr : f.ring = 0) (hk : kindOf record = some .ringDelete) (hz : record[7] = 0)
    (ha : argsOf .ringDelete record = some (.ringDelete b)) (hpass : firstFailure (s.ringDeleteChecks b) = none) (hs : DispatchLegal s)
    (hone : ∀ j b', (s.slot j).state = .live → (s.slot j).args = some (.ringDelete b') → ringOf b' ≠ ringOf b)
    (r : Ring) (hrb : r = ringOf b) (u : State) (hu : u = s.consumed f cfg.size granted) (x : Slot)
    (hx : x = { arrivedSlot s f cfg record with args := some (.ringDelete b) }) :
    ∃ t, exec (.fetchComplete ⟨record, granted⟩) s = .next t ∧ IdleTimersFollow t ∧
      (∀ q, q ≠ r → t.ring q = u.ring q) ∧
      t.fetch = u.fetch.map (fun e => if e.ring = r then { e with discard := true } else e) ∧
      (∀ g, t.queue g = (s.queue g).filter fun j => decide (¬ ((s.slot j).ring = some r ∧
        ((s.slot j).kind = some .read ∨ (s.slot j).kind = some .write)))) ∧
      (∀ g, t.seg g = { s.seg g with
        hold := if (s.seg g).hold.holder = some r then .none else (s.seg g).hold, idleTimer := (t.seg g).idleTimer }) ∧
      (∀ j e c, (s.slot j).state = .live → (s.slot j).ring = some r →
        ((s.slot j).kind = some .read ∨ (s.slot j).kind = some .write) → (s.slot j).exchange = some e →
        (s.slot j).cq = some c →
        t.slot j = u.legsEnded c e (({ s.slot j with abortPending := true } : Slot).waitingEnded .flushed)) ∧
      (∀ j c, LiveHold s r j → (s.slot j).exchange = none → (s.slot j).cq = some c →
        t.slot j = u.posted c (doneWith (s.slot j) (plainResult (.outcome .aborted) 0 zeroArea))) ∧
      (∀ j, j ≠ f.slot → ¬ ((s.slot j).state = .live ∧ (s.slot j).ring = some r) → t.slot j = u.slot j) ∧
      if (∀ j, (t.slot j).state ≠ .free → (t.slot j).ring ≠ some r) ∧ (∀ e, t.fetch = some e → e.ring ≠ r) then
        t.ring r = RequestRing.empty ∧ t.slot f.slot = u.posted 0 (doneWith x (plainResult (.outcome .ok) 0 zeroArea))
      else t.ring r = { s.ring r with state := .deleting } ∧
        t.slot f.slot = { x with state := .live, progress := some .drainingRing } := by
  obtain ⟨v, hv⟩ : ∃ v, v = s.deletionBegun f cfg record granted b := ⟨_, rfl⟩
  obtain ⟨w, hw⟩ : ∃ w, w = v.ringFlushed r := ⟨_, rfl⟩
  obtain ⟨t, ht⟩ : ∃ t, t = w.ringDeleted f.slot r := ⟨_, rfl⟩
  have hb : r ≠ 0 := by
    rw [State.firstFailure_ringDeleteChecks] at hpass
    split at hpass
    · nomatch hpass
    · next hb => rw [hrb]; exact Acceptance.ringOf_ne_zero (by omega) (by omega)
  have hexec := h.exec_ringDelete (granted := granted) hr hk hz ha hpass
  have hown := slot_deletionFlushed (s := s) (cfg := cfg) (record := record) (granted := granted) hr (hrb ▸ hb)
  obtain ⟨hdel, huniq⟩ := deletes_deletionFlushed (cfg := cfg) (granted := granted) hr (hrb ▸ hb) hk hone
  rw [← hrb, ← hv, ← hw] at hdel hown
  rw [← hrb, ← hv, ← hw] at huniq
  rw [← hrb, ← hv, ← hw, ← ht] at hexec
  have hxw : (w.slot f.slot).exchange = none := by rw [hown]; rfl
  have hcw : (w.slot f.slot).cq = some 0 := by rw [hown]; exact congrArg some (answerRing_of_admin hr cfg)
  have hring : (w.slot f.slot).ring ≠ some r := by rw [hown]; exact fun e => hb ((Option.some.inj e).symm.trans hr)
  have hwork : OnlyWork v w := by
    rw [hw]
    exact .ringFlushed
  have heq := State.ringDeleted_eq hdel huniq hxw hcw
  rw [← ht] at heq
  have hlive {j : SlotId} (hl : (s.slot j).state = .live) : v.slot j = s.slot j ∧ j ≠ f.slot := by
    rw [hv]
    exact h.slot_deletionBegun_of_state (by rw [hl]; nofun) (by rw [hl]; nofun)
  have hslot {j : SlotId} (hj : j ≠ f.slot) : t.slot j = w.slot j := by
    rw [ht]
    exact State.slot_ringDeleted_of_ne hdel huniq hxw hcw hj
  have hcq (c : Cq) : v.cq c = u.cq c := by rw [hv, hu, State.cq_deletionBegun]
  have hwaits (g : Seg) (i : SlotId) (hi : i ∈ v.queue g) : LegWaits v g i := by
    rw [hv, State.queue_deletionBegun] at hi
    have hwait := (hs.queued g i).1 hi
    rw [LegWaits, (hlive hwait.1).1]
    exact hwait
  refine ⟨t.refreshIdle, hexec, State.refreshIdle_follows t, fun q hq => ?_, ?_, fun g => ?_, fun g => ?_, fun j e c hl hj hkj hx hc => ?_,
    fun j c hj hx hc => ?_, fun j hj hno => ?_, ?_⟩
  · rw [State.ring_refreshIdle, ht, State.ring_ringDeleted_of_ne hdel huniq hxw hcw hq]
    unfold State.ring
    rw [hwork.rings]
    change v.ring q = u.ring q
    rw [hv, State.ring_deletionBegun, if_neg (by rw [← hrb]; exact Ne.symm hq), hu]
  · change t.fetch = _
    rw [heq]
    change w.fetch = _
    rw [hwork.fetch, hv, State.fetch_deletionBegun, hu, hrb]
  · rw [State.queue_refreshIdle, heq]
    change w.queue g = _
    rw [hw, State.queue_ringFlushed hwaits, hv, State.queue_deletionBegun, ← hv]
    refine List.filter_congr fun j hj => ?_
    rw [(hlive ((hs.queued g j).1 hj).1).1]
  · have hseg : t.seg g = w.seg g := by
      rw [heq]
      rfl
    rw [State.seg_refreshIdle, hseg, hw, State.seg_ringFlushed, hv, State.seg_deletionBegun]
  · obtain ⟨hj', hne⟩ := hlive hl
    rw [State.slot_refreshIdle, hslot hne, hw, State.slot_ringFlushed_of_exchange (e := e) (c := c) (by rw [hj']; exact hl) (by rw [hj']; exact hj)
      (by rw [hj', Slot.exchanges_iff]; exact hkj) (by rw [hj']; exact (hs.legs j).distinct) (by rw [hj']; exact hx) (by rw [hj']; exact hc),
      hj', State.legsEnded_congr (s := u) (by rw [hcq])]
  · obtain ⟨hj', hne⟩ := hlive hj.1
    rw [State.slot_refreshIdle, hslot hne, hw, State.slot_ringFlushed_of_hold (c := c) (by rw [LiveHold, hj']; exact hj) (by rw [hj']; exact hx)
      (by rw [hj']; exact hc), hj', State.posted_congr (s := u) (by rw [hcq])]
  · rw [State.slot_refreshIdle, hslot hj, hw, State.slot_ringFlushed_of_not, hv, State.slot_deletionBegun, if_neg (Ne.symm hj), hu]
    intro hl hr'
    rw [hv] at hl hr'
    have hsame := live_deletionBegun hl hj
    rw [hsame] at hl hr'
    exact absurd ⟨hl, hr'⟩ hno
  · have hends : ((∀ j, (t.refreshIdle.slot j).state ≠ .free → (t.refreshIdle.slot j).ring ≠ some r) ∧
        ∀ e, t.refreshIdle.fetch = some e → e.ring ≠ r) ↔ w.holdsNoSlot r = true := by
      rw [← State.holdsNoSlot_ringDeleted hdel huniq hxw hcw hring, ← ht, State.holdsNoSlot_iff]
      rfl
    by_cases hempty : w.holdsNoSlot r = true
    · rw [if_pos (hends.2 hempty), State.ring_refreshIdle, State.slot_refreshIdle, ht,
        State.ringDeleted_of_empty hdel huniq hxw hcw hempty, State.ring_answered, State.ring_setRing_self, State.slot_answered, if_pos rfl, hown]
      have hstate : (w.cq 0).state = (u.cq 0).state := by rw [hwork.2.2 0, hcq]
      refine ⟨rfl, (if_congr (by rw [State.cq_setRing, hstate]) ?_ rfl).trans rfl⟩
      rw [hx]
      rfl
    · rw [if_neg (hends.not.2 hempty), State.ring_refreshIdle, State.slot_refreshIdle, ht, State.ringDeleted_of_holding hempty, hown,
        State.slot_setSlot_self, State.ring_setSlot]
      refine ⟨?_, by rw [hx]; rfl⟩
      unfold State.ring
      rw [hwork.rings]
      change v.ring r = { s.ring r with state := .deleting }
      rw [hv, State.ring_deletionBegun, if_pos hrb.symm, ← hrb, State.ring_consumed, if_neg (by rw [hr]; exact Ne.symm hb)]

/-- Settles O35. -/
theorem ringDeletionCompletes : Obligations.RingDeletionCompletes := by
  refine ⟨ringDeleteComplete_completes, ?_, ?_⟩
  · intro s f cfg record granted b h hi hr hk hz ha
    have hchecks := State.firstFailure_ringDeleteChecks s b
    intro r u refused x
    have hrefused {status : Status} (hfail : firstFailure (s.ringDeleteChecks b) = some status) :
        exec (.fetchComplete ⟨record, granted⟩) s = .next (refused status) := h.exec_ringDelete_refused hr hk hz ha hi hfail
    split
    · next hb => exact hrefused (hchecks.trans (if_pos hb))
    · next hb =>
      rw [if_neg hb] at hchecks
      split
      · next hn => exact hrefused (hchecks.trans (if_pos hn))
      · next hn =>
        have hchecks := hchecks.trans (if_neg hn)
        split
        · next hd => exact hrefused (hchecks.trans (if_pos hd))
        · next hd =>
          intro hs hone
          refine ringDelete_flushes s f cfg record granted b h hr hk hz ha (hchecks.trans (if_neg hd)) hs (fun j b' hl hb' e => ?_) r rfl u rfl x rfl
          exact hone j b' hl hb' (congrArg Fin.val e)
  · intro s f cfg record granted b h hi hr hk hz ha c u x ok refusal
    have hchecks : firstFailure (s.cqDeleteChecks b) = refusal := State.firstFailure_cqDeleteChecks s b
    obtain ⟨hfail, hpass⟩ := cqDelete_checks_and_deletes s f cfg record granted b h hi hr hk hz ha x ok rfl rfl
    refine ⟨fun status hstatus => hfail status (hchecks.trans hstatus), fun hnone => ?_⟩
    obtain ⟨t, hexec, hcq, hother, hown, hslot, ht⟩ := hpass (hchecks.trans hnone)
    refine ⟨t, hexec, hcq, hother, hown, hslot,
      ht.trans (congrArg (fun write => ({ u with slots := t.slots, cqs := t.cqs, write := write } : State)) ?_)⟩
    unfold State.withdrawWrite
    cases hw : s.write with
    | none => exact hw
    | some w =>
      by_cases hc : w.cq = cqOf b
      · exact (congrArg State.write (if_pos hc)).trans (if_pos hc).symm
      · exact (congrArg State.write (if_neg hc)).trans (hw.trans (if_neg hc).symm)

end Sys2Proof.Machine
end
